-- ==== Sys2Proof/Word.lean ====
section
/-! DEFINITION. The byte of the stream and of the field loop, and the set of front-of-house zones
(spec 02, 09, 12.1). -/

namespace Sys2Proof

/-- A byte on the stream or on the field loop (R17, R168). -/
abbrev Byte := BitVec 8

/-- A set of front-of-house zones 0-15: zone `z` is the bit of weight 2^z (R206). -/
abbrev FohSet := BitVec 16

end Sys2Proof
end

