-- ==== Sys2Proof/Syntax.lean ====
section
/-! DEFINITION. The commands of the block: one constructor for each row of spec/opcode_table.json,
with the row's operands. A command that arrives in a control frame carries the frame's payload bytes
(R183, R206); an event on a line or on a pair carries what the part sees there; an expiry carries
the number of the record whose timer it is. -/

namespace Sys2Proof

/-- A byte received on the stream input (R17, R19). -/
structure RxByte where
  /-- the eight data bits -/
  value : Byte
  /-- its stop bits were found low although no break stood there -/
  framing : Bool := false
  deriving DecidableEq, Repr

/-- A byte on the field loop, as it stands on the pair (R168). -/
structure LoopByte where
  /-- the eight data bits -/
  value : Byte
  /-- the mark bit, set in the first byte of a frame -/
  mark : Bool
  /-- the parity bit -/
  parity : Bool
  /-- the stop bit was found low -/
  framing : Bool := false
  /-- the ms until it comes, from the instant of the command that reports it; 0 when it has come -/
  later : Nat := 0
  deriving DecidableEq, Repr

/-- The commands: each constructor is one row of spec/opcode_table.json. -/
inductive Instr where
  /-- RESET_ASSERTION (R190) -/
  | resetAssertion
  /-- RESET_RELEASE (R190, R208): the number that the fitted straps spell -/
  | resetRelease (straps : Nat)
  /-- RESTART_PULSE (R191, R209) -/
  | restartPulse
  /-- AUTHORITY_KEY_CHANGE (R209): the state that has stood for 20 ms -/
  | authorityKeyChange (isOn : Bool)
  /-- INPUT_BREAK (R17): the bytes received of the frame that the break ends -/
  | inputBreak (ended : List RxByte)
  /-- INPUT_FRAME_END (R17, R18): the bytes of the frame, start code first -/
  | inputFrameEnd (frame : List RxByte)
  /-- REPLY_END (R188, R191) -/
  | replyEnd
  /-- UNKNOWN_COMMAND (R184): a command code of no command, and the payload -/
  | unknownCommand (code : Nat) (payload : List Byte)
  /-- SET_PHASE (R2) -/
  | setPhase (payload : List Byte)
  /-- GET_SHOW (R15) -/
  | getShow (payload : List Byte)
  /-- STREAM_HOLD_EXPIRY (R24) -/
  | streamHoldExpiry
  /-- DARK_IDLE_EXPIRY (R25) -/
  | darkIdleExpiry
  /-- OUTPUT_INTERVAL_EXPIRY (R31) -/
  | outputIntervalExpiry
  /-- HOUSE_FADE (R48) -/
  | houseFade (payload : List Byte)
  /-- HOUSE_CONSOLE (R50) -/
  | houseConsole (payload : List Byte)
  /-- HOUSE_MASTER (R51) -/
  | houseMaster (payload : List Byte)
  /-- GET_HOUSE (R52) -/
  | getHouse (payload : List Byte)
  /-- HANDOVER_EXPIRY (R43) of a circuit -/
  | handoverExpiry (circuit : Nat)
  /-- GO_CUE (R69) -/
  | goCue (payload : List Byte)
  /-- SUPPRESS (R85) -/
  | suppress (payload : List Byte)
  /-- WINDOW_END_EXPIRY (R91) of a zone -/
  | windowEndExpiry (zone : Nat)
  /-- GET_ZONES (R100) -/
  | getZones (payload : List Byte)
  /-- OFFSET_TIMER_EXPIRY (R112) of an evacuation group -/
  | offsetTimerExpiry (group : Nat)
  /-- ACK_TIMER_EXPIRY (R109) -/
  | ackTimerExpiry
  /-- INVESTIGATION_TIMER_EXPIRY (R109) -/
  | investigationTimerExpiry
  /-- ALARM_ACK (R108) -/
  | alarmAck (payload : List Byte)
  /-- ALARM_FALSE (R110) -/
  | alarmFalse (payload : List Byte)
  /-- ALARM_RESET (R116) -/
  | alarmReset (payload : List Byte)
  /-- GET_ALARM (R117) -/
  | getAlarm (payload : List Byte)
  /-- CURTAIN_MOVE (R126) -/
  | curtainMove (payload : List Byte)
  /-- STALL_TIMER_EXPIRY (R130) of a curtain -/
  | stallTimerExpiry (curtain : Nat)
  /-- DESCENT_EXPIRY (R136) of a curtain -/
  | descentExpiry (curtain : Nat)
  /-- CLEAR_LATCH (R139) -/
  | clearLatch (payload : List Byte)
  /-- DEMONSTRATE (R140) -/
  | demonstrate (payload : List Byte)
  /-- DWELL_EXPIRY (R141) -/
  | dwellExpiry
  /-- LOWERING_EXPIRY (R142) -/
  | loweringExpiry
  /-- GET_CURTAINS (R147) -/
  | getCurtains (payload : List Byte)
  /-- CALL (R153) -/
  | call (payload : List Byte)
  /-- CANCEL_CALLS (R154) -/
  | cancelCalls (payload : List Byte)
  /-- CALL_EXPIRY (R152): the entry's message and priority code, which name it in the queue (R150) -/
  | callExpiry (message priority : Nat)
  /-- SCHEDULED_CALL_DUE (R155): the entry's source, BELL 1-4 or BEGINNERS 5 -/
  | scheduledCallDue (source : Nat)
  /-- CALL_OVERRUN_EXPIRY (R159) -/
  | callOverrunExpiry
  /-- PAGE_LIMIT_EXPIRY (R160) -/
  | pageLimitExpiry
  /-- GET_CALLS (R167) -/
  | getCalls (payload : List Byte)
  /-- POLL_START (R171, R179) -/
  | pollStart
  /-- REPLY_WINDOW_EXPIRY (R171) -/
  | replyWindowExpiry
  /-- LOOP_REPLY (R172): the bytes of the reply -/
  | loopReply (bytes : List LoopByte)
  /-- LOOP_REPLY_FORCED_OVER (R171): the bytes received when the reply was forced over -/
  | loopReplyForcedOver (bytes : List LoopByte)
  /-- READ_EVENT (R194) -/
  | readEvent (payload : List Byte)
  /-- ACK_ATTENTION (R196) -/
  | ackAttention (payload : List Byte)
  /-- SET_ATTENTION_MASK (R195) -/
  | setAttentionMask (payload : List Byte)
  /-- ATTENTION_GAP_EXPIRY (R196) -/
  | attentionGapExpiry
  /-- GET_STATUS (R188) -/
  | getStatus (payload : List Byte)
  /-- GET_IDENTITY (R189) -/
  | getIdentity (payload : List Byte)
  /-- RESTART (R191) -/
  | restart (payload : List Byte)
  /-- STAGE_OPEN (R198) -/
  | stageOpen (payload : List Byte)
  /-- STAGE_WRITE (R198) -/
  | stageWrite (payload : List Byte)
  /-- STAGE_QUEUE (R198) -/
  | stageQueue (payload : List Byte)
  /-- COMMIT (R199) -/
  | commit (payload : List Byte)
  /-- ABORT_COMMIT (R202) -/
  | abortCommit (payload : List Byte)
  /-- GET_COMMIT (R202) -/
  | getCommit (payload : List Byte)
  /-- READ_ACTIVE (R203) -/
  | readActive (payload : List Byte)
  /-- SET_AUTHORITY (R204) -/
  | setAuthority (payload : List Byte)
  /-- LOCK_AUTHORITY (R205) -/
  | lockAuthority (payload : List Byte)
  /-- GET_AUTHORITY (R205) -/
  | getAuthority (payload : List Byte)
  /-- RESTART_LINE_RETURN_HIGH (R209) -/
  | restartLineReturnHigh
  deriving DecidableEq, Repr

end Sys2Proof
end

