-- ==== Sys2Proof/Decode.lean ====
section
/-! DEFINITION. The decoder of the command catalogue: which command a control frame's command code
names (R184, R206), and the code that a command is sent with. The opcode table gives no row any bits,
so no word of it spells a command. -/

namespace Sys2Proof

/-- The command that a word spells by the table's bits: spec/opcode_table.json gives no row any bits. -/
def decodeTableWord (_nbits _w : Nat) : Option Instr := none

/-- The command that a command code names, with its payload (R206, 12.2); every other code is answered
with UNKNOWN_COMMAND (R184). -/
def controlCommand (code : Nat) (p : List Byte) : Instr :=
  match code with
  | 0x10 => .setPhase p
  | 0x11 => .getShow p
  | 0x20 => .houseFade p
  | 0x21 => .houseConsole p
  | 0x22 => .houseMaster p
  | 0x23 => .getHouse p
  | 0x28 => .goCue p
  | 0x30 => .suppress p
  | 0x31 => .getZones p
  | 0x38 => .alarmAck p
  | 0x39 => .alarmFalse p
  | 0x3A => .alarmReset p
  | 0x3B => .getAlarm p
  | 0x40 => .curtainMove p
  | 0x41 => .demonstrate p
  | 0x42 => .clearLatch p
  | 0x43 => .getCurtains p
  | 0x48 => .call p
  | 0x49 => .cancelCalls p
  | 0x4A => .getCalls p
  | 0x50 => .readEvent p
  | 0x51 => .ackAttention p
  | 0x52 => .setAttentionMask p
  | 0x53 => .getStatus p
  | 0x54 => .getIdentity p
  | 0x5F => .restart p
  | 0x60 => .stageOpen p
  | 0x61 => .stageWrite p
  | 0x62 => .stageQueue p
  | 0x63 => .commit p
  | 0x64 => .abortCommit p
  | 0x65 => .getCommit p
  | 0x66 => .readActive p
  | 0x67 => .setAuthority p
  | 0x68 => .lockAuthority p
  | 0x69 => .getAuthority p
  | c => .unknownCommand c p

/-- The command code and the payload that a command is sent with in a control frame (R206), for the
commands that are. -/
def controlCode : Instr → Option (Nat × List Byte)
  | .setPhase p => some (0x10, p)
  | .getShow p => some (0x11, p)
  | .houseFade p => some (0x20, p)
  | .houseConsole p => some (0x21, p)
  | .houseMaster p => some (0x22, p)
  | .getHouse p => some (0x23, p)
  | .goCue p => some (0x28, p)
  | .suppress p => some (0x30, p)
  | .getZones p => some (0x31, p)
  | .alarmAck p => some (0x38, p)
  | .alarmFalse p => some (0x39, p)
  | .alarmReset p => some (0x3A, p)
  | .getAlarm p => some (0x3B, p)
  | .curtainMove p => some (0x40, p)
  | .demonstrate p => some (0x41, p)
  | .clearLatch p => some (0x42, p)
  | .getCurtains p => some (0x43, p)
  | .call p => some (0x48, p)
  | .cancelCalls p => some (0x49, p)
  | .getCalls p => some (0x4A, p)
  | .readEvent p => some (0x50, p)
  | .ackAttention p => some (0x51, p)
  | .setAttentionMask p => some (0x52, p)
  | .getStatus p => some (0x53, p)
  | .getIdentity p => some (0x54, p)
  | .restart p => some (0x5F, p)
  | .stageOpen p => some (0x60, p)
  | .stageWrite p => some (0x61, p)
  | .stageQueue p => some (0x62, p)
  | .commit p => some (0x63, p)
  | .abortCommit p => some (0x64, p)
  | .getCommit p => some (0x65, p)
  | .readActive p => some (0x66, p)
  | .setAuthority p => some (0x67, p)
  | .lockAuthority p => some (0x68, p)
  | .getAuthority p => some (0x69, p)
  | .unknownCommand c p => some (c, p)
  | .resetAssertion | .resetRelease _ | .restartPulse | .authorityKeyChange _ | .inputBreak _
  | .inputFrameEnd _ | .replyEnd | .streamHoldExpiry | .darkIdleExpiry | .outputIntervalExpiry
  | .handoverExpiry _ | .windowEndExpiry _ | .offsetTimerExpiry _ | .ackTimerExpiry
  | .investigationTimerExpiry | .stallTimerExpiry _ | .descentExpiry _ | .dwellExpiry
  | .loweringExpiry | .callExpiry _ _ | .scheduledCallDue _ | .callOverrunExpiry | .pageLimitExpiry
  | .pollStart | .replyWindowExpiry | .loopReply _ | .loopReplyForcedOver _ | .attentionGapExpiry
  | .restartLineReturnHigh => none

end Sys2Proof
end

