-- ==== Sys2Proof/Config.lean ====
section
/-! DEFINITION. Constants of the part, and the free values: opaque constants without a body, about
which nothing can be proved beyond their type. Each stands for a value that the spec leaves open
(NOTES.md, Assumptions). -/

namespace Sys2Proof.Config

/-- The model number (R189). -/
def modelNumber : Nat := 417

/-- The output interval in ms (2.5, R31). -/
def outputInterval : Nat := 25

/-- FREE VALUE (log entry 7): the revision number, 1-255, 'fixed in the part' (R189), less one. -/
opaque revisionLessOne : Fin 255

/-- The revision number of the part (R189). -/
def revision : Nat := revisionLessOne.val + 1

/-- FREE VALUE (log entry 8): how many microseconds a level frame begun at `start` with `slots` slots
takes on the output. The spec gives the bytes' own time and the bound of 23 ms (2.5), not the length
of break and mark. -/
opaque frameMicros (start slots : Nat) : Nat

/-- FREE VALUE (log entry 9): byte `i` of a reply field whose absent value or code the spec does not
give (R206), in the reply numbered `fresh`; `site` numbers the field. -/
opaque unstatedByte (fresh site i : Nat) : Byte

/-- FREE VALUE (log entry 10): the descent time in ms that R136 asks for when no descent record stands. -/
opaque descentTime (fresh : Nat) : Nat

/-- FREE VALUE (log entry 11): the default fade time of `group` under a House Circuit Table that has
circuit entries and no header (R39). -/
opaque fadeWithoutHeader (group : Nat) : Fin 6001

end Sys2Proof.Config
end

