-- ==== Sys2Proof/Machine/State.lean ====
section
/-! DEFINITION. The state of the part, as plain data: for each block its records (00_scope.md, The
blocks), the lines, the timebase and the queue of waiting commands; the outcomes' reasons; and the
state of the part while RESET is held. Times are timebase values in ms (Nat). -/

namespace Sys2Proof.Machine

/-! ### Result codes, phases, stages -/

/-- The result codes (10.1, 12.2). -/
inductive Result where
  | done | accepted | clamped | partly | busy | refusedState | refusedKey | badArgument | locked
  | unknownCommand
  deriving DecidableEq, Repr

/-- The phases of the performance (R1). -/
inductive Phase where
  | dark | preshow | houseOpen | act | interval | houseClear
  deriving DecidableEq, Repr

/-- The alarm stage (R101). -/
inductive Stage where
  | normal | investigate | evacuate
  deriving DecidableEq, Repr

/-- The show record (R1). -/
structure ShowRecord where
  phase : Phase := .dark
  performance : Nat := 0
  act : Nat := 0
  interval : Nat := 0
  start : Nat := 0
  deriving DecidableEq, Repr

/-! ### SRX and FBL -/

/-- The stream states (R22). -/
inductive StreamState where
  | noStream | ok | lost | quiet
  deriving DecidableEq, Repr

/-- The kinds of the last-frame record (R22, R28). -/
inductive FrameKind where
  | none | level | discarded | control | other
  deriving DecidableEq, Repr

/-- The last-frame record (R28). -/
structure LastFrame where
  kind : FrameKind := .none
  count : Nat := 0
  short : Bool := false
  long : Bool := false
  deriving DecidableEq, Repr

/-- The stream record (R22), and whether a frame has begun and not ended (R17, R30). -/
structure Stream where
  table : List Nat := List.replicate 512 0
  valid : Nat := 0
  state : StreamState := .noStream
  lastGood : Nat := 0
  idleRef : Nat := 0
  wakePending : Bool := false
  discardOwed : Bool := false
  lastFrame : LastFrame := {}
  receiving : Bool := false
  deriving DecidableEq, Repr

/-- The frame most recently begun on the stream output: a level frame (`other` no: its bytes are the
slots' levels) or an other frame (its bytes are the start code and the bytes after it). `cutBefore`:
the frame before it was cut at the end of the byte in progress (R33, R36, R45). -/
structure OutFrame where
  other : Bool
  start : Nat
  bytes : List Nat
  cutBefore : Bool := false
  deriving DecidableEq, Repr

/-- FBL's state (R31, R34, R36). -/
structure Builder where
  running : Bool := false
  expiry : Option Nat := none
  holding : Option (List Nat) := none
  lastOther : Bool := false
  frame : Option OutFrame := none
  deriving DecidableEq, Repr

/-! ### HLU -/

/-- A fade record (R38). -/
structure Fade where
  fromLevel : Nat
  target : Nat
  start : Nat
  duration : Nat
  deriving DecidableEq, Repr

/-- A handover record (R38). -/
structure Handover where
  fromLevel : Nat
  start : Nat
  duration : Nat
  deriving DecidableEq, Repr

/-- A circuit's mode with the record that goes with it (R38): CONSOLE with an optional handover
record, PRESET with its fade record. -/
inductive Source where
  | console (handover : Option Handover)
  | preset (fade : Fade)
  deriving DecidableEq, Repr

/-- An override record (R38, R46). -/
structure Override where
  fromLevel : Nat
  start : Nat
  duration : Nat
  deriving DecidableEq, Repr

/-- A circuit record (R38). -/
structure Circuit where
  number : Nat
  group : Nat
  slot : Nat
  floor : Nat
  ceiling : Nat
  source : Source
  override : Option Override := none
  lastSent : Nat
  deriving DecidableEq, Repr

/-- A group record (R39). -/
structure HouseGroup where
  number : Nat
  master : Nat := 255
  fade : Nat := 0
  deriving DecidableEq, Repr

/-- HLU's records (R38, R39). -/
structure House where
  circuits : List Circuit := []
  groups : List HouseGroup := (List.range 8).map fun i => { number := i + 1 }
  deriving DecidableEq, Repr

/-! ### CRG -/

/-- The debounce record (R61). -/
structure Debounce where
  previous : Option Nat := none
  last : Option Nat := none
  deriving DecidableEq, Repr

/-! ### ZMN -/

/-- The kinds of detection zone (R74). -/
inductive ZoneKind where
  | smoke | flame | heat | manual | sprinkler
  deriving DecidableEq, Repr

/-- The routes of a zone's table entry (R74). -/
inductive Route where
  | investigate | evacuate
  deriving DecidableEq, Repr

/-- The routes of a fire that ZMN hands to ASC (R79). -/
inductive FireRoute where
  | investigate | evacuate | general
  deriving DecidableEq, Repr

/-- The conditions of a zone (R76). -/
inductive Condition where
  | unknown | normal | prealarm | fire | fault | isolated | lost
  deriving DecidableEq, Repr

/-- A window record (R76). -/
structure Window where
  start : Nat
  finish : Nat
  deriving DecidableEq, Repr

/-- A zone record (R76): the entry's six fields and the run-time state. -/
structure Zone where
  number : Nat
  kind : ZoneKind
  unit : Nat
  input : Nat
  present : Route
  absent : Route
  group : Nat
  condition : Condition := .unknown
  latch : Bool := false
  deferred : Bool := false
  window : Option Window := none
  deriving DecidableEq, Repr

/-- ZMN's records (R76, R77): `used` holds the budget-used counts of zones 1-64 in order. -/
structure Zones where
  zones : List Zone := []
  used : List Nat := List.replicate 64 0
  deriving DecidableEq, Repr

/-- A fire that ZMN hands to ASC (R79). -/
structure Fire where
  zone : Nat
  group : Nat
  route : FireRoute
  deriving DecidableEq, Repr

/-! ### ASC -/

/-- The steps of an investigation (R101). -/
inductive InvStep where
  | awaitingAck | investigating
  deriving DecidableEq, Repr

/-- Why a group was started (R102). -/
inductive StartCause where
  | entry | offset | fire | general
  deriving DecidableEq, Repr

/-- The state of an evacuation group, with the fields present in it (R102). -/
inductive GroupState where
  | clear
  | pending (due : Nat)
  | evacuating (start : Nat) (cause : StartCause)
  deriving DecidableEq, Repr

/-- The alarm record and the seven group records (R101, R102). -/
structure Alarm where
  stage : Stage := .normal
  invStep : Option InvStep := none
  zone : Option Nat := none
  group : Option Nat := none
  stageStart : Nat := 0
  ackExpiry : Option Nat := none
  invExpiry : Option Nat := none
  general : Bool := false
  evacStart : Option Nat := none
  showStop : Bool := false
  lastPre : Option (Nat × Nat) := none
  groups : List GroupState := List.replicate 7 .clear
  deriving DecidableEq, Repr

/-! ### CTC -/

/-- The states of a curtain (R122). -/
inductive CurtainState where
  | unknown | raised | lowered | raising | lowering | stopped | emergency | fault
  deriving DecidableEq, Repr

/-- Who has the drive (R122). -/
inductive Ownership where
  | implicit | explicit | pendant
  deriving DecidableEq, Repr

/-- The causes of a descent latch (R122, R138). -/
inductive LatchCause where
  | start | fire | localRelease | lost
  deriving DecidableEq, Repr

/-- The commands of a curtain drive unit (R123). -/
inductive DriveCmd where
  | lower | raise | stop | release | yield | resume
  deriving DecidableEq, Repr

/-- The release field (R122). -/
inductive ReleaseField where
  | none | sent | taken | localRelease
  deriving DecidableEq, Repr

/-- A motion record (R122): its command is RAISE when `up`, LOWER otherwise. -/
structure Motion where
  up : Bool
  start : Nat
  progress : Nat
  deriving DecidableEq, Repr

/-- A descent record (R122). -/
structure Descent where
  start : Nat
  expiry : Nat
  taken : Bool := false
  deriving DecidableEq, Repr

/-- A curtain record (R122), with what the rules need to know of earlier replies (R132, R133, R136). -/
structure Curtain where
  number : Nat
  unit : Nat
  proscenium : Bool
  demoFlag : Bool
  state : CurtainState := .unknown
  position : Nat := 0
  ownership : Ownership := .implicit
  latch : Option LatchCause := some .start
  motion : Option Motion := none
  outstanding : Option DriveCmd := none
  release : ReleaseField := .none
  descent : Option Descent := none
  lastDescent : Option Nat := none
  holdWaiting : Bool := false
  /-- the most recent reply showed the hold request (R132) -/
  lastHold : Bool := false
  /-- the most recent reply showed the obstruction (R133, R136) -/
  lastObstruction : Bool := false
  /-- CURTAIN RELEASE REFUSED was posted in this descent (R136) -/
  releaseRefused : Bool := false
  deriving DecidableEq, Repr

/-- The states of the demonstration (R140). -/
inductive DemoState where
  | notDone | lowering | dwell | raising | passed | failed
  deriving DecidableEq, Repr

/-- Why a demonstration failed (R140). -/
inductive DemoFailure where
  | overtime | obstruction | stall | refused | lost | localRelease
  deriving DecidableEq, Repr

/-- The demonstration record (R140). -/
structure Demo where
  state : DemoState := .notDone
  loweringStart : Option Nat := none
  loweringExpiry : Option Nat := none
  dwellExpiry : Option Nat := none
  loweringTime : Option Nat := none
  failure : Option DemoFailure := none
  deriving DecidableEq, Repr

/-- CTC's records (R122, R140). -/
structure Curtains where
  curtains : List Curtain := []
  demo : Demo := {}
  deriving DecidableEq, Repr

/-! ### CLC -/

/-- The priorities of a call (R150). -/
inductive Priority where
  | routine | show | staff | alarm
  deriving DecidableEq, Repr

/-- The origins of a call (R150). -/
inductive Origin where
  | command | cue | schedule | detection
  deriving DecidableEq, Repr

/-- A call entry (R150). -/
structure Call where
  message : Nat
  zones : FohSet
  priority : Priority
  origin : Origin
  enqueued : Nat
  expiry : Option Nat
  deriving DecidableEq, Repr

/-- An entry of the scheduled-call list (R155): its source is BELL 1-4 or BEGINNERS 5. The due time is
counted back from the interval end, so it may lie before timebase 0. -/
structure Scheduled where
  source : Nat
  message : Nat
  zones : FohSet
  priority : Priority
  due : Int
  deriving DecidableEq, Repr

/-- The classes of a paging request (R156). -/
inductive PageClass where
  | staff | manager | fire
  deriving DecidableEq, Repr

/-- The state of a paging request record (R157). -/
inductive RequestState where
  | waiting | granted | revoked
  deriving DecidableEq, Repr

/-- A paging request record (R157). -/
structure Request where
  station : Nat
  cls : PageClass
  zones : FohSet
  firstSeen : Nat
  state : RequestState := .waiting
  deriving DecidableEq, Repr

/-- The states of the announcement channel (R156). -/
inductive ChannelState where
  | idle | playing | paging | evacuation
  deriving DecidableEq, Repr

/-- Why a play is cut (R156). -/
inductive CutReason where
  | firePage | alarm
  deriving DecidableEq, Repr

/-- The announcer status (R156). -/
inductive AnnouncerStatus where
  | unknown | present | lost
  deriving DecidableEq, Repr

/-- The activity of the announcement unit (R156). -/
inductive Activity where
  | idle | playing | pageOpen
  deriving DecidableEq, Repr

/-- CLC's collections and the announcement channel record (R150, R155, R156, R157). -/
structure Calls where
  queue : List Call := []
  sched : List Scheduled := []
  requests : List Request := []
  /-- stations marked as owing a drop (R157, R166) -/
  owing : List Nat := []
  /-- stations whose last reply showed a request (R157, R166) -/
  showing : List Nat := []
  /-- stations to be issued REVOKE at their first reply (R166) -/
  revokeOwed : List Nat := []
  channel : ChannelState := .idle
  current : Option Call := none
  playTaken : Bool := false
  overrun : Option Nat := none
  cut : Option CutReason := none
  /-- the STOP AT PART END of R163 was acknowledged TAKEN -/
  cutTaken : Bool := false
  holder : Option (Nat × PageClass) := none
  pageLimit : Option Nat := none
  evacZones : FohSet := 0
  evacOwed : Bool := false
  /-- EVACUATION REFUSED was posted in this evacuation (R162) -/
  evacRefused : Bool := false
  announcer : AnnouncerStatus := .unknown
  unitReport : Option (Activity × Nat) := none
  deriving DecidableEq, Repr

/-! ### LPC -/

/-- The kinds of outstation (R174). -/
inductive StationKind where
  | zoneUnit | curtainUnit | announcer | paging
  deriving DecidableEq, Repr

/-- The states of an outstation (R175). -/
inductive StationState where
  | unknown | present | lost
  deriving DecidableEq, Repr

/-- A command that LPC carries to an outstation (R123, R156, R178, 12.3). -/
inductive LoopCmd where
  | drive (cmd : DriveCmd)
  | play (message kind : Nat) (zones : FohSet) (repeating : Bool)
  | stopPlay (atPartEnd : Bool)
  | page (station : Nat) (zones : FohSet)
  | endPage
  | grant
  | revoke
  deriving DecidableEq, Repr

/-- An outstation record (R175), with the index of its Poll List entry. The pending command stands
with its tag. -/
structure Station where
  index : Nat
  address : Nat
  kind : StationKind
  state : StationState := .unknown
  misses : Nat := 0
  opened : Bool := false
  pending : Option (LoopCmd × Nat) := none
  lastTag : Nat := 0
  deriving DecidableEq, Repr

/-- The kinds of poll (R169); a COMMAND poll carries a command with its tag. -/
inductive PollKind where
  | plain
  | command (cmd : LoopCmd) (tag : Nat)
  | opening
  deriving DecidableEq, Repr

/-- The transaction in progress (R171). `heard`, of a reply that has begun: whether it is known to be running
still 9 ms after the opening of the window, and the bytes known of it, each with the ms of the timebase at which
it comes in `later`. -/
structure Transaction where
  address : Nat
  poll : PollKind
  start : Nat
  heard : Option (Bool × List LoopByte) := none
  deriving DecidableEq, Repr

/-- LPC's records (R174, R175). `busyUntil`: the last instant at which bytes are known to stand on the pair;
`quietOwed`: a transaction may have been abandoned, and no poll begins before the pair was quiet (R181, R182).
Their values at reset are a DESIGN CHOICE (log entry 18), unsafe. -/
structure Loop where
  stations : List Station := []
  position : Nat := 0
  tx : Option Transaction := none
  busyUntil : Nat := 0
  quietOwed : Bool := false
  deriving DecidableEq, Repr

/-! ### EVQ and CMI -/

/-- The events, in the order of the events tables of the chapters (R207). -/
inductive Event where
  | phaseEntered | phaseForced | demonstrationMissed
  | streamStarted | streamLost | streamRestored | streamQuiet | streamAwake
  | cueRun | cueUnknown | cueOutOfPhase | cueActionClamped | cueActionPartial | cueActionRefused
  | zoneFire | fireDeferred | zonePrealarm | zoneFault | zoneIsolated | zoneLost
  | deferredFireCleared | budgetSpent | zoneNormal | suppressionOpened | suppressionClosed
  | alarmInvestigate | alarmAcknowledged | alarmFalse | alarmEvacuate | groupStarted
  | generalEvacuation | alarmReset
  | curtainFound | curtainMoved | curtainOwnership | latchCleared | demonstrationPassed
  | curtainLimits | curtainUncommanded | curtainRefused | curtainStalled | curtainLost
  | curtainObstructed | demonstrationFailed | demonstrationAbandoned | curtainReleased
  | curtainReleaseRefused | curtainDown | curtainLate | curtainLocalRelease
  | callStarted | callEnded | pageEnded | callExpired | callsCancelled | pageGranted
  | callDisplaced | callCut | callsCleared | callDropped | callRefused | callOverrun
  | callDiscarded | pageRevoked | announcerLost | evacuationRefused
  | outstationFound | outstationRegained | outstationLost
  | commitDone | authorityLocked | commitAborted
  | started | restarted | keyRefused
  deriving DecidableEq, Repr

/-- An event record (R192); the event gives the source kind and the code. -/
structure EventRecord where
  time : Nat
  level : Nat
  event : Event
  index : Nat
  arg : Option Nat
  deriving DecidableEq, Repr

/-- The event queue and the attention record (R192, R195). -/
structure Events where
  queue : List EventRecord := []
  mask : Nat := 0
  armed : Bool := true
  line : Bool := false
  gap : Option Nat := none
  deriving DecidableEq, Repr

/-- The thirteen sticky flags (R187). -/
structure Sticky where
  framing : Bool := false
  short : Bool := false
  long : Bool := false
  badFrame : Bool := false
  collision : Bool := false
  loopSilent : Bool := false
  loopParity : Bool := false
  loopFraming : Bool := false
  loopAddress : Bool := false
  loopShort : Bool := false
  loopLong : Bool := false
  loopContent : Bool := false
  eventsDiscarded : Bool := false
  deriving DecidableEq, Repr

/-- The reply in progress (R185): `shown` holds the flags and the discard count that a GET STATUS
showed, which its end clears (R188). -/
structure Reply where
  code : Nat
  result : Result
  summary : Nat
  payload : List Byte
  shown : Option (Sticky × Nat) := none
  built : Nat
  deriving DecidableEq, Repr

/-- CMI's state (R185, R187, R189, R191). -/
structure Control where
  sticky : Sticky := {}
  discards : Nat := 0
  restarts : Nat := 0
  reply : Option Reply := none
  restartOwed : Bool := false
  deriving DecidableEq, Repr

/-! ### TBS -/

/-- The eight tables, in the order of their ids (R197). -/
inductive TableId where
  | slot | house | cue | zone | curtain | message | schedule | poll
  deriving DecidableEq, Repr

/-- One value for each of the eight tables. -/
structure PerTable (α : Type) where
  slot : α
  house : α
  cue : α
  zone : α
  curtain : α
  message : α
  schedule : α
  poll : α
  deriving DecidableEq, Repr

/-- An entry of a bank: its index and its bytes in the staging layout (R197, 12.4). -/
structure BankEntry where
  index : Nat
  bytes : List Byte
  deriving DecidableEq, Repr

/-- A bank: its entries in strictly rising index (R197). -/
abbrev Bank := List BankEntry

/-- The states of a staging bank (R197). -/
inductive BankState where
  | empty | opened | queued
  deriving DecidableEq, Repr

/-- A staging bank (R197). -/
structure Staging where
  state : BankState := .empty
  bank : Bank := []
  deriving DecidableEq, Repr

/-- The values of the commit status (R202). -/
inductive CommitState where
  | none | pending | passed | failed | aborted
  deriving DecidableEq, Repr

/-- Why a validation failed (R199): the table's id, the entry's index, the reason code. -/
structure Failure where
  table : Nat
  index : Nat
  reason : Nat
  deriving DecidableEq, Repr

/-- The commit status record (R202). -/
structure CommitStatus where
  current : CommitState := .none
  previous : CommitState := .none
  tables : List Nat := []
  failure : Option Failure := none
  outcome : Nat := 0
  deriving DecidableEq, Repr

/-- The demonstration rule (R204). -/
inductive DemoRule where
  | none | warn | enforce
  deriving DecidableEq, Repr

/-- The authority record (R204): the lists hold the values of zones 1-64 in order. -/
structure Authority where
  maxWindow : List Nat := List.replicate 64 0
  budget : List Nat := List.replicate 64 0
  ackTime : Nat := 30
  invTime : Nat := 120
  stagingLimit : Nat := 120
  descentLimit : Nat := 30
  alarmFade : Nat := 20
  demoRule : DemoRule := .warn
  locked : Bool := false
  deriving DecidableEq, Repr

/-- TBS's state (R197, R202, R204). -/
structure TableStore where
  active : PerTable Bank := ⟨[], [], [], [], [], [], [], []⟩
  staging : PerTable Staging := ⟨{}, {}, {}, {}, {}, {}, {}, {}⟩
  commit : CommitStatus := {}
  auth : Authority := {}
  deriving DecidableEq, Repr

/-! ### The whole part -/

/-- The state of the part: the lines, the timebase, the thirteen blocks, and the queue of the commands
that wait. `fresh` counts the free values used (the model's own, log entry 5). -/
structure State where
  time : Nat := 0
  resetHeld : Bool := true
  unit : Option Nat := none
  keyOn : Bool := false
  restartArmed : Bool := true
  phc : ShowRecord := {}
  srx : Stream := {}
  fbl : Builder := {}
  hlu : House := {}
  crg : Debounce := {}
  zmn : Zones := {}
  asc : Alarm := {}
  ctc : Curtains := {}
  clc : Calls := {}
  lpc : Loop := {}
  evq : Events := {}
  cmi : Control := {}
  tbs : TableStore := {}
  fresh : Nat := 0
  pending : List Instr := []
  deriving DecidableEq, Repr

/-- The reasons for which a command could stop the part. -/
inductive Fault where
  /-- Raised by nobody: the spec gives no command that stops the part. Safe. -/
  | notRaised
  deriving DecidableEq, Repr

/-- The reasons for which a command could have no meaning. -/
inductive Refusal where
  /-- Raised by exec for a command that has no meaning yet (none is left). Safe. -/
  | notModelled (mnemonic : String)
  deriving DecidableEq, Repr

/-- The part while RESET is held: every field at its full reset value (R190, and the reset column of
each chapter). The RESET_RELEASE command lets it run. -/
def State.reset : State := {}

end Sys2Proof.Machine
end

