-- ==== Sys2Proof/Machine/Bytes.lean ====
section
/-! DEFINITION. Byte order and field encoding of the layouts (R206): high byte first, yes and no as 1
and 0, a choice as its code. -/

namespace Sys2Proof.Machine

/-- A number in one byte. -/
def enc1 (n : Nat) : List Byte := [BitVec.ofNat 8 n]

/-- A number that may exceed 255: two bytes, high byte first (R206). DEDUCED (log entry 42), unsafe. -/
def enc2 (n : Nat) : List Byte := [BitVec.ofNat 8 (n / 256), BitVec.ofNat 8 n]

/-- A number that may exceed 65 535: four bytes, high byte first (R206). -/
def enc4 (n : Nat) : List Byte :=
  [BitVec.ofNat 8 (n / 16777216), BitVec.ofNat 8 (n / 65536), BitVec.ofNat 8 (n / 256), BitVec.ofNat 8 n]

/-- Yes and no are 1 and 0 (R206). -/
def encYes (b : Bool) : List Byte := enc1 (if b then 1 else 0)

/-- A choice of two whose values no chapter numbers: the first listed is 1 and the second 2 (R206). -/
def encChoice (first : Bool) : List Byte := enc1 (if first then 1 else 2)

/-- An FOH zone set is two bytes (R206). -/
def encFoh (z : FohSet) : List Byte := enc2 z.toNat

/-- A time in whole seconds, rounded down (00_scope.md, Rounding). -/
def encSeconds (ms : Nat) : List Byte := enc4 (ms / 1000)

/-- `width` free bytes: the spec gives the field and not its value there (log entry 9). -/
def unstated (fresh site width : Nat) : List Byte :=
  (List.range width).map (Config.unstatedByte fresh site)

/-- A field that may be absent; its absent value in a reply is not given (log entry 9). -/
def encOpt {α : Type} (fresh site width : Nat) (enc : α → List Byte) : Option α → List Byte
  | some a => enc a
  | none => unstated fresh site width

/-- The number in byte `i` of a layout. -/
def at1 (b : List Byte) (i : Nat) : Nat := (b.getD i 0).toNat

/-- The number in bytes `i` and `i + 1` of a layout, high byte first. -/
def at2 (b : List Byte) (i : Nat) : Nat := at1 b i * 256 + at1 b (i + 1)

/-- The FOH zone set in bytes `i` and `i + 1` of a layout. -/
def atFoh (b : List Byte) (i : Nat) : FohSet := BitVec.ofNat 16 (at2 b i)

/-- The sum of bytes modulo 65 536 (R183, R185). -/
def sum16 (b : List Byte) : Nat := (b.map BitVec.toNat).sum % 65536

/-- The items of a list, in order, with their count before them (log entry 12). -/
def encList {α : Type} (enc : α → List Byte) (l : List α) : List Byte :=
  enc1 l.length ++ (l.map enc).flatten

end Sys2Proof.Machine
end

