-- ==== Sys2Proof/Machine/Codes.lean ====
section
/-! DEFINITION. The codes of choices in events, replies and layouts: as the owner's chapter numbers
them, and otherwise from 1 in listed order (R206, R207). -/

namespace Sys2Proof.Machine

/-- Result codes (12.2). -/
def Result.code : Result → Nat
  | .done => 0 | .accepted => 1 | .clamped => 2 | .partly => 3 | .busy => 4 | .refusedState => 5
  | .refusedKey => 6 | .badArgument => 7 | .locked => 8 | .unknownCommand => 9

/-- Phase codes (R1). -/
def Phase.code : Phase → Nat
  | .dark => 0 | .preshow => 1 | .houseOpen => 2 | .act => 3 | .interval => 4 | .houseClear => 5

/-- The phase of a code, when it is one of the six (R1). -/
def Phase.ofCode : Nat → Option Phase
  | 0 => some .dark | 1 => some .preshow | 2 => some .houseOpen | 3 => some .act
  | 4 => some .interval | 5 => some .houseClear | _ => none

/-- The phases in which an audience is present (00_scope.md, Audience phases). -/
def Phase.audience : Phase → Bool
  | .houseOpen | .act | .interval => true
  | .dark | .preshow | .houseClear => false

/-- Stage codes (R101). -/
def Stage.code : Stage → Nat
  | .normal => 0 | .investigate => 1 | .evacuate => 2

/-- Investigation step codes: listed order (R101, R206). -/
def InvStep.code : InvStep → Nat
  | .awaitingAck => 1 | .investigating => 2

/-- Stream state codes (R22). -/
def StreamState.code : StreamState → Nat
  | .noStream => 0 | .ok => 1 | .lost => 2 | .quiet => 3

/-- Zone kind codes: listed order (R74, R206). -/
def ZoneKind.code : ZoneKind → Nat
  | .smoke => 1 | .flame => 2 | .heat => 3 | .manual => 4 | .sprinkler => 5

/-- The zone kind of a valid code (R74). -/
def ZoneKind.ofCode : Nat → ZoneKind
  | 1 => .smoke | 2 => .flame | 3 => .heat | 4 => .manual | _ => .sprinkler

/-- The route of a valid code (12.4). -/
def Route.ofCode : Nat → Route
  | 1 => .investigate | _ => .evacuate

/-- Codes of the route handed to ASC (R79). -/
def FireRoute.code : FireRoute → Nat
  | .investigate => 1 | .evacuate => 2 | .general => 3

/-- Condition codes (R76). -/
def Condition.code : Condition → Nat
  | .unknown => 0 | .normal => 1 | .prealarm => 2 | .fire => 3 | .fault => 4 | .isolated => 5 | .lost => 6

/-- The condition of a report: a value other than the five conditions is FAULT (R78, 12.3). -/
def Condition.ofReport : Nat → Condition
  | 1 => .normal | 2 => .prealarm | 3 => .fire | 5 => .isolated | _ => .fault

/-- Start cause codes (R102). -/
def StartCause.code : StartCause → Nat
  | .entry => 1 | .offset => 2 | .fire => 3 | .general => 4

/-- Group state codes (R102). -/
def GroupState.code : GroupState → Nat
  | .clear => 0 | .pending _ => 1 | .evacuating _ _ => 2

/-- Curtain state codes (R122). -/
def CurtainState.code : CurtainState → Nat
  | .unknown => 0 | .raised => 1 | .lowered => 2 | .raising => 3 | .lowering => 4 | .stopped => 5
  | .emergency => 6 | .fault => 7

/-- Ownership codes (R122). -/
def Ownership.code : Ownership → Nat
  | .implicit => 0 | .explicit => 1 | .pendant => 2

/-- Latch cause codes (R122). -/
def LatchCause.code : LatchCause → Nat
  | .start => 1 | .fire => 2 | .localRelease => 3 | .lost => 4

/-- Drive command codes (12.3; the events table of chapter 7). -/
def DriveCmd.code : DriveCmd → Nat
  | .lower => 1 | .raise => 2 | .stop => 3 | .release => 4 | .yield => 5 | .resume => 6

/-- Release field codes: listed order (R122, R206). -/
def ReleaseField.code : ReleaseField → Nat
  | .none => 1 | .sent => 2 | .taken => 3 | .localRelease => 4

/-- Demonstration state codes (R140). -/
def DemoState.code : DemoState → Nat
  | .notDone => 0 | .lowering => 1 | .dwell => 2 | .raising => 3 | .passed => 4 | .failed => 5

/-- Failure reason codes (R140). -/
def DemoFailure.code : DemoFailure → Nat
  | .overtime => 1 | .obstruction => 2 | .stall => 3 | .refused => 4 | .lost => 5 | .localRelease => 6

/-- Priority codes (R150). -/
def Priority.code : Priority → Nat
  | .routine => 1 | .show => 2 | .staff => 3 | .alarm => 4

/-- The priority of a code that a call may give: ROUTINE, SHOW or STAFF (R153). -/
def Priority.ofCode : Nat → Option Priority
  | 1 => some .routine | 2 => some .show | 3 => some .staff | _ => none

/-- Origin codes (R150). -/
def Origin.code : Origin → Nat
  | .command => 1 | .cue => 2 | .schedule => 3 | .detection => 4

/-- Paging class codes (R156). -/
def PageClass.code : PageClass → Nat
  | .staff => 3 | .manager => 4 | .fire => 5

/-- The class that a paging station's reply shows: none, or one of three (12.3). -/
def PageClass.ofCode : Nat → Option PageClass
  | 3 => some .staff | 4 => some .manager | 5 => some .fire | _ => none

/-- Request state codes: listed order (R157, R206). -/
def RequestState.code : RequestState → Nat
  | .waiting => 1 | .granted => 2 | .revoked => 3

/-- Channel state codes (R156). -/
def ChannelState.code : ChannelState → Nat
  | .idle => 0 | .playing => 1 | .paging => 2 | .evacuation => 3

/-- Announcer status codes: listed order (R156, R206). -/
def AnnouncerStatus.code : AnnouncerStatus → Nat
  | .unknown => 1 | .present => 2 | .lost => 3

/-- Cut reason codes (the events table of chapter 8), in GET CALLS too. DEDUCED (log entry 29), unsafe. -/
def CutReason.code : CutReason → Nat
  | .firePage => 1 | .alarm => 2

/-- Activity codes (12.3), in the unit report of GET CALLS too. DEDUCED (log entry 29), unsafe. -/
def Activity.code : Activity → Nat
  | .idle => 0 | .playing => 1 | .pageOpen => 2

/-- Outstation kind codes (chapter 9, 12.3). -/
def StationKind.code : StationKind → Nat
  | .zoneUnit => 1 | .curtainUnit => 2 | .announcer => 3 | .paging => 4

/-- The kind of a valid code (12.3). -/
def StationKind.ofCode : Nat → StationKind
  | 1 => .zoneUnit | 2 => .curtainUnit | 3 => .announcer | _ => .paging

/-- Outstation state codes (R175). -/
def StationState.code : StationState → Nat
  | .unknown => 0 | .present => 1 | .lost => 2

/-- Table ids (R197). -/
def TableId.code : TableId → Nat
  | .slot => 1 | .house => 2 | .cue => 3 | .zone => 4 | .curtain => 5 | .message => 6
  | .schedule => 7 | .poll => 8

/-- The table of an id 1-8 (R197). -/
def TableId.ofCode : Nat → Option TableId
  | 1 => some .slot | 2 => some .house | 3 => some .cue | 4 => some .zone | 5 => some .curtain
  | 6 => some .message | 7 => some .schedule | 8 => some .poll | _ => none

/-- The tables in ascending id (R199). -/
def TableId.all : List TableId := [.slot, .house, .cue, .zone, .curtain, .message, .schedule, .poll]

/-- Bank state codes: listed order (R197, R206). -/
def BankState.code : BankState → Nat
  | .empty => 1 | .opened => 2 | .queued => 3

/-- Codes of the field 'current' of the commit status: listed order (R202, R206). -/
def CommitState.code : CommitState → Nat
  | .none => 1 | .pending => 2 | .passed => 3 | .failed => 4 | .aborted => 5

/-- Codes of the field 'previous' of the commit status, which lists NONE, PASSED, FAILED and ABORTED
(R202, R206); it never holds PENDING. -/
def CommitState.previousCode : CommitState → Nat
  | .none => 1 | .passed => 2 | .failed => 3 | .aborted => 4 | .pending => 0

/-- Demonstration rule codes: listed order (R204, R206). -/
def DemoRule.code : DemoRule → Nat
  | .none => 1 | .warn => 2 | .enforce => 3

/-- The demonstration rule of a code (R204). -/
def DemoRule.ofCode : Nat → Option DemoRule
  | 1 => some .none | 2 => some .warn | 3 => some .enforce | _ => Option.none

/-- Source kind, row in the events table of the chapter, and level of each event (R192, R207, and the
events tables of chapters 1 to 11). CURTAIN OBSTRUCTED is level 5 here, and level 6 during an emergency
descent (R136). -/
def Event.facts : Event → Nat × Nat × Nat
  | .phaseEntered => (1, 1, 2) | .phaseForced => (1, 2, 3) | .demonstrationMissed => (1, 3, 5)
  | .streamStarted => (2, 1, 2) | .streamLost => (2, 2, 4) | .streamRestored => (2, 3, 2)
  | .streamQuiet => (2, 4, 2) | .streamAwake => (2, 5, 1)
  | .cueRun => (3, 1, 1) | .cueUnknown => (3, 2, 2) | .cueOutOfPhase => (3, 3, 2)
  | .cueActionClamped => (3, 4, 2) | .cueActionPartial => (3, 5, 5) | .cueActionRefused => (3, 6, 5)
  | .zoneFire => (4, 1, 6) | .fireDeferred => (4, 2, 5) | .zonePrealarm => (4, 3, 5)
  | .zoneFault => (4, 4, 4) | .zoneIsolated => (4, 5, 4) | .zoneLost => (4, 6, 4)
  | .deferredFireCleared => (4, 7, 3) | .budgetSpent => (4, 8, 3) | .zoneNormal => (4, 9, 2)
  | .suppressionOpened => (4, 10, 1) | .suppressionClosed => (4, 11, 1)
  | .alarmInvestigate => (5, 1, 6) | .alarmAcknowledged => (5, 2, 3) | .alarmFalse => (5, 3, 5)
  | .alarmEvacuate => (5, 4, 7) | .groupStarted => (5, 5, 7) | .generalEvacuation => (5, 6, 7)
  | .alarmReset => (5, 7, 5)
  | .curtainFound => (6, 1, 2) | .curtainMoved => (6, 2, 2) | .curtainOwnership => (6, 3, 3)
  | .latchCleared => (6, 4, 3) | .demonstrationPassed => (6, 5, 3) | .curtainLimits => (6, 6, 4)
  | .curtainUncommanded => (6, 7, 4) | .curtainRefused => (6, 8, 4) | .curtainStalled => (6, 9, 4)
  | .curtainLost => (6, 10, 4) | .curtainObstructed => (6, 11, 5) | .demonstrationFailed => (6, 12, 5)
  | .demonstrationAbandoned => (6, 13, 5) | .curtainReleased => (6, 14, 6)
  | .curtainReleaseRefused => (6, 15, 6) | .curtainDown => (6, 16, 6) | .curtainLate => (6, 17, 6)
  | .curtainLocalRelease => (6, 18, 6)
  | .callStarted => (7, 1, 1) | .callEnded => (7, 2, 1) | .pageEnded => (7, 3, 1)
  | .callExpired => (7, 4, 2) | .callsCancelled => (7, 5, 2) | .pageGranted => (7, 6, 2)
  | .callDisplaced => (7, 7, 3) | .callCut => (7, 8, 3) | .callsCleared => (7, 9, 3)
  | .callDropped => (7, 10, 4) | .callRefused => (7, 11, 4) | .callOverrun => (7, 12, 4)
  | .callDiscarded => (7, 13, 4) | .pageRevoked => (7, 14, 4) | .announcerLost => (7, 15, 4)
  | .evacuationRefused => (7, 16, 4)
  | .outstationFound => (8, 1, 1) | .outstationRegained => (8, 2, 2) | .outstationLost => (8, 3, 4)
  | .commitDone => (9, 1, 3) | .authorityLocked => (9, 2, 3) | .commitAborted => (9, 3, 4)
  | .started => (11, 1, 3) | .restarted => (12, 2, 4) | .keyRefused => (10, 3, 5)

/-- The source kind code of an event (R207). -/
def Event.source (e : Event) : Nat := e.facts.1

/-- The level of an event (the events tables). -/
def Event.level (e : Event) : Nat := e.facts.2.2

/-- The code of an event: source kind code × 256 plus its row number (R207). -/
def Event.code (e : Event) : Nat := e.facts.1 * 256 + e.facts.2.1

end Sys2Proof.Machine
end

