-- ==== Sys2Proof/Machine/Flags.lean ====
section
/-! DEFINITION. The summary flags of a reply (R185) and the sticky flags as GET STATUS shows and clears
them (R187, R188). -/

namespace Sys2Proof.Machine

/-- The weight of a flag that is set. -/
def weight (b : Bool) (w : Nat) : Nat := if b then w else 0

/-- The summary-flag byte, computed at the build instant from the state of the owners (R185, 12.2):
events waiting 1, attention 2, events discarded 4, commit pending 8, alarm 16, stream 32, locked 64. -/
def summaryFlags (s : State) : Nat :=
  weight (!s.evq.queue.isEmpty) 1 + weight s.evq.line 2 + weight s.cmi.sticky.eventsDiscarded 4
    + weight (s.tbs.commit.current == .pending) 8 + weight (s.asc.stage != .normal) 16
    + weight (s.srx.state != .ok) 32 + weight s.tbs.auth.locked 64

/-- The thirteen sticky flags in the order of R187. -/
def Sticky.toList (f : Sticky) : List Bool :=
  [f.framing, f.short, f.long, f.badFrame, f.collision, f.loopSilent, f.loopParity, f.loopFraming,
   f.loopAddress, f.loopShort, f.loopLong, f.loopContent, f.eventsDiscarded]

/-- The flags left when those that a reply showed are cleared, set again meanwhile or not (R188). DESIGN CHOICE
(log entry 53), unsafe. -/
def Sticky.clearShown (f shown : Sticky) : Sticky :=
  { framing := f.framing && !shown.framing
    short := f.short && !shown.short
    long := f.long && !shown.long
    badFrame := f.badFrame && !shown.badFrame
    collision := f.collision && !shown.collision
    loopSilent := f.loopSilent && !shown.loopSilent
    loopParity := f.loopParity && !shown.loopParity
    loopFraming := f.loopFraming && !shown.loopFraming
    loopAddress := f.loopAddress && !shown.loopAddress
    loopShort := f.loopShort && !shown.loopShort
    loopLong := f.loopLong && !shown.loopLong
    loopContent := f.loopContent && !shown.loopContent
    eventsDiscarded := f.eventsDiscarded && !shown.eventsDiscarded }

/-- The flags set in either (setting a flag already set leaves it set, R187). -/
def Sticky.join (f g : Sticky) : Sticky :=
  { framing := f.framing || g.framing
    short := f.short || g.short
    long := f.long || g.long
    badFrame := f.badFrame || g.badFrame
    collision := f.collision || g.collision
    loopSilent := f.loopSilent || g.loopSilent
    loopParity := f.loopParity || g.loopParity
    loopFraming := f.loopFraming || g.loopFraming
    loopAddress := f.loopAddress || g.loopAddress
    loopShort := f.loopShort || g.loopShort
    loopLong := f.loopLong || g.loopLong
    loopContent := f.loopContent || g.loopContent
    eventsDiscarded := f.eventsDiscarded || g.eventsDiscarded }

end Sys2Proof.Machine
end

