-- ==== Sys2Proof/Machine/Tables.lean ====
section
/-! DEFINITION. Banks and the typed view of their entries: the layouts of 12.4, and of R206 for the
tables not laid out there, and what the blocks read from the active tables. -/

namespace Sys2Proof.Machine

/-! ### Banks -/

/-- The entry at an index of a bank, when one is written. -/
def bankFind (b : Bank) (n : Nat) : Option (List Byte) :=
  (b.find? fun e => e.index == n).map (·.bytes)

/-- Places an entry at an index, replacing what the index held, and keeps the indices rising (R198). -/
def bankPut : Bank → Nat → List Byte → Bank
  | [], n, bs => [⟨n, bs⟩]
  | e :: rest, n, bs =>
    if e.index < n then e :: bankPut rest n bs
    else if e.index = n then ⟨n, bs⟩ :: rest
    else ⟨n, bs⟩ :: e :: rest

/-- The value of one table. -/
def PerTable.get {α : Type} (t : PerTable α) : TableId → α
  | .slot => t.slot | .house => t.house | .cue => t.cue | .zone => t.zone | .curtain => t.curtain
  | .message => t.message | .schedule => t.schedule | .poll => t.poll

/-- Sets the value of one table. -/
def PerTable.set {α : Type} (t : PerTable α) (i : TableId) (a : α) : PerTable α :=
  match i with
  | .slot => { t with slot := a } | .house => { t with house := a } | .cue => { t with cue := a }
  | .zone => { t with zone := a } | .curtain => { t with curtain := a }
  | .message => { t with message := a } | .schedule => { t with schedule := a }
  | .poll => { t with poll := a }

/-- The lowest index of a table: 0 where it has a header (R197). -/
def TableId.first : TableId → Nat
  | .slot | .house => 0
  | .cue | .zone | .curtain | .message | .schedule | .poll => 1

/-- The highest index of a table (R197). -/
def TableId.lastIndex : TableId → Nat
  | .slot => 512 | .house => 48 | .cue => 256 | .zone => 71 | .curtain => 4 | .message => 32
  | .schedule => 1 | .poll => 20

/-- The length in bytes of a table's entry at an index; a cue entry's length depends on its actions
(12.4, R206). A message's entry has its part duration in two bytes. DESIGN CHOICE (log entry 57), unsafe. -/
def entryLength : TableId → Nat → Option Nat
  | .slot, n => some (if n = 0 then 5 else 3)
  | .house, n => some (if n = 0 then 16 else 5)
  | .cue, _ => none
  | .zone, n => some (if n ≤ 64 then 6 else 4)
  | .curtain, _ => some 3
  | .message, _ => some 9
  | .schedule, _ => some 21
  | .poll, _ => some 2

/-! ### Slot Map (12.4) -/

/-- The Slot Map header. -/
structure SlotHeader where
  expected : Nat
  hold : Nat
  idle : Nat
  deriving DecidableEq, Repr

/-- Its layout: expected length, two bytes; stream hold time; dark idle time, two bytes. -/
def slotHeaderOf (b : List Byte) : SlotHeader := ⟨at2 b 0, at1 b 2, at2 b 3⟩

/-- The classes of a slot, with their arguments (R32, 12.4). -/
inductive SlotClass where
  | pass
  | house (circuit : Nat)
  | zero
  | effect (curtain : Option Nat)
  | work
  deriving DecidableEq, Repr

/-- The class of a valid entry: class and class argument. -/
def slotClassOf (b : List Byte) : SlotClass :=
  match at1 b 0 with
  | 0 => .pass
  | 1 => .house (at1 b 1)
  | 2 => .zero
  | 3 => .effect (if at1 b 1 = 0 then none else some (at1 b 1))
  | _ => .work

/-- The input role of an entry: none 0, CUE HIGH 1, CUE LOW 2. -/
def slotRoleOf (b : List Byte) : Nat := at1 b 2

/-- The Slot Map is empty: its bank holds no entry at any index (R197). -/
def slotMapEmpty (b : Bank) : Bool := b.isEmpty

/-- The header of a Slot Map bank that is not empty. -/
def slotHeader? (b : Bank) : Option SlotHeader := (bankFind b 0).map slotHeaderOf

/-- The expected length E of a Slot Map; absent while the map is empty (R20). -/
def expectedLength? (b : Bank) : Option Nat := (slotHeader? b).map (·.expected)

/-- The stream hold time in ms: 3 s while the Slot Map is empty (2.2). -/
def holdTime (b : Bank) : Nat := ((slotHeader? b).map (·.hold)).getD 3 * 1000

/-- The dark idle time in ms, 0 for never: 600 s while the Slot Map is empty (2.2). -/
def idleTime (b : Bank) : Nat := ((slotHeader? b).map (·.idle)).getD 600 * 1000

/-- The class of slot `n`: a slot with no written entry is built as PASS (2.2). -/
def slotClass (b : Bank) (n : Nat) : SlotClass := ((bankFind b n).map slotClassOf).getD .pass

/-- The slot that carries an input role. -/
def roleSlot (b : Bank) (role : Nat) : Option Nat :=
  (b.find? fun e => e.index != 0 && slotRoleOf e.bytes == role).map (·.index)

/-- The cue pair (h, l), when the Slot Map holds one (R35, R62). -/
def cuePair (b : Bank) : Option (Nat × Nat) :=
  match roleSlot b 1, roleSlot b 2 with
  | some h, some l => some (h, l)
  | _, _ => none

/-! ### House Circuit Table (R37, R206) -/

/-- A circuit entry: group; console input slot, two bytes; walk floor; ceiling. -/
structure CircuitEntry where
  group : Nat
  slot : Nat
  floor : Nat
  ceiling : Nat
  deriving DecidableEq, Repr

def circuitEntryOf (b : List Byte) : CircuitEntry := ⟨at1 b 0, at2 b 1, at1 b 3, at1 b 4⟩

/-- The default fade time of group `g` (R39): from the header, 0 while the table is empty; free when the
table holds circuits and no header (log entry 11). -/
def defaultFade (b : Bank) (g : Nat) : Nat :=
  if b.isEmpty then 0
  else match bankFind b 0 with
    | some h => at2 h (2 * (g - 1))
    | none => (Config.fadeWithoutHeader g).val

/-! ### Cue Table (R65, 12.4) -/

/-- An action as the entry carries it: kind, and parameters (their length is written before them). -/
structure RawAction where
  kind : Nat
  params : List Byte
  deriving DecidableEq, Repr

/-- A cue entry. -/
structure CueEntry where
  number : Nat
  filter : Nat
  actions : List RawAction
  deriving DecidableEq, Repr

/-- Reads `n` actions: kind, parameter length, parameters; answers them with the bytes left over. -/
def takeActions : Nat → List Byte → Option (List RawAction × List Byte)
  | 0, b => some ([], b)
  | n + 1, k :: len :: rest =>
    if rest.length < len.toNat then none
    else (takeActions n (rest.drop len.toNat)).map fun r =>
      (⟨k.toNat, rest.take len.toNat⟩ :: r.1, r.2)
  | _ + 1, _ => none

/-- Reads one cue entry: cue number, phase filter, action count, actions; with the bytes left over. -/
def takeCueEntry (b : List Byte) : Option (CueEntry × List Byte) :=
  match b with
  | h :: l :: f :: n :: rest =>
    (takeActions n.toNat rest).map fun r =>
      (⟨h.toNat * 256 + l.toNat, f.toNat, r.1⟩, r.2)
  | _ => none

/-- The cue entry that a stored entry spells. -/
def cueEntryOf (b : List Byte) : CueEntry := ((takeCueEntry b).map (·.1)).getD ⟨0, 0, []⟩

/-- An action with its parameters read (R65). -/
inductive Action where
  | suppress (zones : List Nat) (seconds : Nat)
  | house (group target : Nat) (time : Option Nat)
  | call (message : Nat) (zones : Option FohSet) (priority : Nat)
  | phase (code : Nat) (minutes : Option Nat)
  | curtain (number motion : Nat)
  deriving DecidableEq, Repr

/-- Reads an action's parameters (12.4); none when the kind is not one of the five or the parameter
length does not match it. -/
def actionOf (a : RawAction) : Option Action :=
  let p := a.params
  match a.kind with
  | 1 => if 3 ≤ p.length ∧ p.length = 3 + at1 p 2 then
      some (.suppress ((p.drop 3).map BitVec.toNat) (at2 p 0)) else none
  | 2 => if p.length = 4 then
      some (.house (at1 p 0) (at1 p 1) (if at2 p 2 = 65535 then none else some (at2 p 2))) else none
  | 3 => if p.length = 4 then
      some (.call (at1 p 0) (if at2 p 1 = 0 then none else some (atFoh p 1)) (at1 p 3)) else none
  | 4 => if p.length = 2 then
      some (.phase (at1 p 0) (if at1 p 1 = 0 then none else some (at1 p 1))) else none
  | 5 => if p.length = 2 then some (.curtain (at1 p 0) (at1 p 1)) else none
  | _ => none

/-- The entry of the Cue Table with a cue number: lookup is by cue number (R197). -/
def findCue (b : Bank) (x : Nat) : Option CueEntry :=
  (b.map fun e => cueEntryOf e.bytes).find? fun c => c.number == x

/-- The phase is in the filter: phase code q is the bit of weight 2^q (12.4). -/
def CueEntry.allows (c : CueEntry) (p : Phase) : Bool := c.filter.testBit p.code

/-! ### Zone Table (R74, R75, 12.4) -/

/-- The record that an entry of the Zone Table makes: the entry's six fields, and the run-time state a
new record starts with (R76, R97). -/
def zoneOf (number : Nat) (b : List Byte) : Zone :=
  { number, kind := ZoneKind.ofCode (at1 b 0), unit := at1 b 1, input := at1 b 2,
    present := Route.ofCode (at1 b 3), absent := Route.ofCode (at1 b 4), group := at1 b 5 }

/-- The FOH zone set of an evacuation group: empty where the entry was never written (R75). -/
def groupFoh (b : Bank) (g : Nat) : FohSet := ((bankFind b (65 + g)).map fun e => atFoh e 0).getD 0

/-- The staging offset of an evacuation group in s: 0 where the entry was never written (R75). -/
def groupOffset (b : Bank) (g : Nat) : Nat := ((bankFind b (65 + g)).map fun e => at2 e 2).getD 0

/-! ### Curtain Table (R121, R206) -/

/-- A curtain entry: drive unit; role PROSCENIUM 1 or OTHER 2; demonstration yes or no. -/
structure CurtainEntry where
  unit : Nat
  proscenium : Bool
  demo : Bool
  deriving DecidableEq, Repr

def curtainEntryOf (b : List Byte) : CurtainEntry := ⟨at1 b 0, at1 b 1 == 1, at1 b 2 == 1⟩

/-! ### Message Table (R148, R206) -/

/-- A message entry: kind; parts; part duration, two bytes; default FOH zones; default priority; expiry,
two bytes. -/
structure MessageEntry where
  kind : Nat
  parts : Nat
  duration : Nat
  zones : FohSet
  priority : Priority
  expiry : Nat
  deriving DecidableEq, Repr

/-- The fields of a message's entry (R148, R206). The part duration, 100-30 000 ms, is read from two bytes: R206 gives
four to a number that may exceed 65 535 and names a time in milliseconds as one, and this range does not exceed it.
DESIGN CHOICE (log entry 57), unsafe. -/
def messageEntryOf (b : List Byte) : MessageEntry :=
  ⟨at1 b 0, at1 b 1, at2 b 2, atFoh b 4, (Priority.ofCode (at1 b 6)).getD .routine, at2 b 7⟩

/-- The entry of a message, when the message exists. -/
def findMessage (b : Bank) (m : Nat) : Option MessageEntry := (bankFind b m).map messageEntryOf

/-! ### Schedule Table (R149, 12.4) -/

/-- The Schedule Table record. -/
structure ScheduleEntry where
  interval : Nat
  bells : List (Nat × Nat)
  beginners : Option (Nat × Nat × FohSet)
  staffMessage : Nat
  staffZones : FohSet
  evacMessage : Nat
  pageLimit : Nat
  deriving DecidableEq, Repr

/-- Its layout: default interval length; bell count; four bell slots of minutes and message; beginners
present, minutes, message and zones; staff alert message; staff zones; evacuation message; page
limit, two bytes. -/
def scheduleEntryOf (b : List Byte) : ScheduleEntry :=
  { interval := at1 b 0
    bells := (List.range (min (at1 b 1) 4)).map fun i => (at1 b (2 + 2 * i), at1 b (3 + 2 * i))
    beginners := if at1 b 10 = 1 then some (at1 b 11, at1 b 12, atFoh b 13) else none
    staffMessage := at1 b 15
    staffZones := atFoh b 16
    evacMessage := at1 b 18
    pageLimit := at2 b 19 }

/-- The Schedule Table record, when the table is not empty. -/
def scheduleEntry? (b : Bank) : Option ScheduleEntry := (bankFind b 1).map scheduleEntryOf

/-- The page limit in s: 120 while the table is empty (R149). -/
def pageLimitSeconds (b : Bank) : Nat := ((scheduleEntry? b).map (·.pageLimit)).getD 120

/-- The default interval length in minutes: 20 while the table is empty (R9, R149). -/
def defaultInterval (b : Bank) : Nat := ((scheduleEntry? b).map (·.interval)).getD 20

/-! ### Poll List (R174, R206) -/

/-- The record that an entry of the Poll List makes (R175). -/
def stationOf (index : Nat) (b : List Byte) : Station :=
  { index, address := at1 b 0, kind := StationKind.ofCode (at1 b 1) }

end Sys2Proof.Machine
end

