-- ==== Sys2Proof/Machine/Ops.lean ====
section
/-! DEFINITION. The named operations that the blocks share: replacing one block's records, posting an
event and evaluating ATTENTION (R192, R193, R195), setting a sticky flag (R187), and handing a command
to LPC (R178). -/

namespace Sys2Proof.Machine

/-! ### Replacing one field of the state -/

/-- Replaces `time`. -/
def State.setTime (s : State) (x : Nat) : State := { s with time := x }

/-- Replaces `resetHeld`. -/
def State.setResetHeld (s : State) (x : Bool) : State := { s with resetHeld := x }

/-- Replaces `unit`. -/
def State.setUnit (s : State) (x : Option Nat) : State := { s with unit := x }

/-- Replaces `keyOn`. -/
def State.setKeyOn (s : State) (x : Bool) : State := { s with keyOn := x }

/-- Replaces `restartArmed`. -/
def State.setRestartArmed (s : State) (x : Bool) : State := { s with restartArmed := x }

/-- Replaces `phc`. -/
def State.setPhc (s : State) (x : ShowRecord) : State := { s with phc := x }

/-- Replaces `srx`. -/
def State.setSrx (s : State) (x : Stream) : State := { s with srx := x }

/-- Replaces `fbl`. -/
def State.setFbl (s : State) (x : Builder) : State := { s with fbl := x }

/-- Replaces `hlu`. -/
def State.setHlu (s : State) (x : House) : State := { s with hlu := x }

/-- Replaces `crg`. -/
def State.setCrg (s : State) (x : Debounce) : State := { s with crg := x }

/-- Replaces `zmn`. -/
def State.setZmn (s : State) (x : Zones) : State := { s with zmn := x }

/-- Replaces `asc`. -/
def State.setAsc (s : State) (x : Alarm) : State := { s with asc := x }

/-- Replaces `ctc`. -/
def State.setCtc (s : State) (x : Curtains) : State := { s with ctc := x }

/-- Replaces `clc`. -/
def State.setClc (s : State) (x : Calls) : State := { s with clc := x }

/-- Replaces `lpc`. -/
def State.setLpc (s : State) (x : Loop) : State := { s with lpc := x }

/-- Replaces `evq`. -/
def State.setEvq (s : State) (x : Events) : State := { s with evq := x }

/-- Replaces `cmi`. -/
def State.setCmi (s : State) (x : Control) : State := { s with cmi := x }

/-- Replaces `tbs`. -/
def State.setTbs (s : State) (x : TableStore) : State := { s with tbs := x }

/-- Replaces `fresh`. -/
def State.setFresh (s : State) (x : Nat) : State := { s with fresh := x }

/-- Replaces `pending`. -/
def State.setPending (s : State) (x : List Instr) : State := { s with pending := x }

/-! ### What an owner answers -/

/-- The answer of an owner to a command (R184): the state it leaves, the result and the reply payload. -/
structure Answer where
  state : State
  result : Result
  payload : List Byte := []
  deriving DecidableEq, Repr

/-! ### Events and ATTENTION -/

/-- An event in the queue qualifies when its level is above the mask, or is 7 (R195). -/
def qualifies (mask : Nat) (r : EventRecord) : Bool := mask < r.level || r.level == 7

/-- ATTENTION is evaluated (R195): with armed yes, no gap and a qualifying event, the line is asserted
and armed becomes no. -/
def evaluateAttention (s : State) : State :=
  if s.evq.armed && s.evq.gap.isNone && s.evq.queue.any (qualifies s.evq.mask) then
    s.setEvq { s.evq with line := true, armed := false }
  else s

/-- The placement of a new event record (R193): the queue after it, and whether a record was dropped or
removed. -/
def placeEvent (q : List EventRecord) (r : EventRecord) : List EventRecord × Bool :=
  if q.length < 32 then (q ++ [r], false)
  else if r.level ≤ 3 then (q, true)
  else if q.any (fun x => x.level ≤ 3) then (q.eraseP (fun x => x.level ≤ 3) ++ [r], true)
  else if q.any (fun x => x.level < r.level) then (q.eraseP (fun x => x.level < r.level) ++ [r], true)
  else (q, true)

/-- EVENTS DISCARDED and its count (R187, R193): the count stays at 65 535. -/
def countDiscard (lost : Bool) (c : Control) : Control :=
  if lost then
    { c with sticky := { c.sticky with eventsDiscarded := true }, discards := min (c.discards + 1) 65535 }
  else c

/-- EVQ places an event record in the queue; each posting is an occasion for the evaluation of ATTENTION
(R192, R193, R195). -/
def postRecord (r : EventRecord) (s : State) : State :=
  evaluateAttention
    ((s.setEvq { s.evq with queue := (placeEvent s.evq.queue r).1 }).setCmi
      (countDiscard (placeEvent s.evq.queue r).2 s.cmi))

/-- A block posts an event at a given level, with source index and argument (R192). -/
def postAt (level : Nat) (e : Event) (index : Nat) (arg : Option Nat) (s : State) : State :=
  postRecord ⟨s.time / 1000, level, e, index, arg⟩ s

/-- A block posts an event at the level of its events table (R192). -/
def post (e : Event) (index : Nat) (arg : Option Nat) (s : State) : State :=
  postAt e.level e index arg s

/-- Sets sticky flags (R187). -/
def setSticky (f : Sticky → Sticky) (s : State) : State :=
  s.setCmi { s.cmi with sticky := f s.cmi.sticky }

/-! ### Handing a command to LPC -/

/-- The commands that each kind of outstation takes (R178). -/
def LoopCmd.takenBy : LoopCmd → StationKind → Bool
  | .drive _, .curtainUnit => true
  | .play _ _ _ _, .announcer => true
  | .stopPlay _, .announcer => true
  | .page _ _, .announcer => true
  | .endPage, .announcer => true
  | .grant, .paging => true
  | .revoke, .paging => true
  | _, _ => false

/-- The tag that follows a tag: plus 1, with 255 followed by 1 (R178). -/
def nextTag (t : Nat) : Nat := if 255 ≤ t then 1 else t + 1

/-- An outstation record takes a command handed over (R178): discarded when the kind does not take it
or a RELEASE is pending; otherwise pending with a new tag, and opened becomes no when the tag follows
255. -/
def Station.handOver (st : Station) (c : LoopCmd) : Station :=
  if !c.takenBy st.kind then st
  else if (st.pending.map (·.1)) = some (.drive .release) then st
  else
    { st with pending := some (c, nextTag st.lastTag), lastTag := nextTag st.lastTag,
              opened := st.opened && !(255 ≤ st.lastTag) }

/-- An owner hands a command to LPC for an address; discarded when no record has it (R178). -/
def issue (address : Nat) (c : LoopCmd) (s : State) : State :=
  s.setLpc { s.lpc with
    stations := s.lpc.stations.map fun st => if st.address = address then st.handOver c else st }

end Sys2Proof.Machine
end

