-- ==== Sys2Proof/Machine/Channel.lean ====
section
/-! DEFINITION. CLC's shared operations (chapter 8): the placement of a call, the commands to the
announcement unit, selection, the start of a call, the grant and the end of a page, the evacuation
message, and what commits and resets do to CLC. Selection is made here; the notice to TBS that the
channel became IDLE (R156) stands with the callers (Commit.lean), since a commit may complete in it. -/

namespace Sys2Proof.Machine

/-! ### Commands to the announcement unit (R156) -/

/-- The address of the announcement unit. -/
def announcerAddress (s : State) : Option Nat :=
  (s.lpc.stations.find? fun st => st.kind == .announcer).map (·.address)

/-- CLC issues a command to the unit; it is issued only while the announcer status is PRESENT (R156). -/
def unitIssue (c : LoopCmd) (s : State) : State :=
  if s.clc.announcer = .present then
    match announcerAddress s with
    | some a => issue a c s
    | none => s
  else s

/-- The kind of a message, passed to the unit with PLAY (R148). -/
def messageKind (s : State) (m : Nat) : Nat :=
  ((findMessage s.tbs.active.message m).map (·.kind)).getD 0

/-- The PLAY of a call: its message and zone set, without repeat (R159). -/
def playOf (s : State) (c : Call) : LoopCmd := .play c.message (messageKind s c.message) c.zones false

/-- The evacuation PLAY, under the conditions of R162: state EVACUATION, an evacuation message named, and
zones to play to. -/
def issueEvacPlay (s : State) : State :=
  match scheduleEntry? s.tbs.active.schedule with
  | some sc =>
    if s.clc.channel = .evacuation ∧ s.clc.evacZones ≠ 0 ∧ sc.evacMessage ≠ 0 then
      unitIssue (.play sc.evacMessage (messageKind s sc.evacMessage) s.clc.evacZones true) s
    else s
  | none => s

/-! ### Placement (R150, R151) -/

/-- Two calls with the same message and the same priority (R150). -/
def Call.sameKey (a b : Call) : Bool := a.message == b.message && a.priority == b.priority

/-- `a` stands before `b` in the queue's order: priority, highest first, and then enqueue time, earliest
first; entries with equal keys keep the order in which they joined (R150). -/
def Call.before (a b : Call) : Bool :=
  b.priority.code < a.priority.code || (a.priority == b.priority && a.enqueued ≤ b.enqueued)

/-- Adds an entry at its place (R150). -/
def insertCall (c : Call) : List Call → List Call
  | [] => [c]
  | e :: rest => if e.before c then e :: insertCall c rest else c :: e :: rest

/-- The later of two expiry times, or absent when either is absent (R151). -/
def laterExpiry : Option Nat → Option Nat → Option Nat
  | some a, some b => some (max a b)
  | _, _ => none

/-- A call merged into the entry of the same message and priority (R151). -/
def Call.merge (e c : Call) : Call :=
  { e with zones := e.zones ||| c.zones, expiry := laterExpiry e.expiry c.expiry }

/-- What became of a placement (R151): the state; the entry after placement when the call was placed; and
whether it was merged. -/
structure Placed where
  state : State
  entry : Option Call
  merged : Bool
  deriving DecidableEq, Repr

/-- Replaces the call queue. -/
def setQueue (q : List Call) (s : State) : State := s.setClc { s.clc with queue := q }

/-- Placement: merge, room, displacement, or no room (R151). In a full queue the entry of the lowest
priority that is its youngest is the last. -/
def placeCall (c : Call) (s : State) : Placed :=
  match s.clc.queue.find? (fun e => e.sameKey c) with
  | some e =>
    ⟨setQueue (s.clc.queue.map fun x => if x.sameKey c then x.merge c else x) s, some (e.merge c), true⟩
  | none =>
    if s.clc.queue.length < 16 then ⟨setQueue (insertCall c s.clc.queue) s, some c, false⟩
    else match s.clc.queue.getLast? with
      | some y =>
        if y.priority.code < c.priority.code then
          ⟨setQueue (insertCall c s.clc.queue.dropLast)
            (post .callDisplaced y.message (some y.priority.code) s), some c, false⟩
        else ⟨s, none, false⟩
      | none => ⟨s, none, false⟩

/-- The expiry time of a call placed now: the message's expiry later, or absent when that is 0 (R151). -/
def callExpiryTime (s : State) (m : Nat) : Option Nat :=
  match findMessage s.tbs.active.message m with
  | some e => if e.expiry = 0 then none else some (s.time + e.expiry * 1000)
  | none => none

/-- A call of a message placed now (R151). -/
def newCall (s : State) (m : Nat) (z : FohSet) (p : Priority) (o : Origin) : Call :=
  ⟨m, z, p, o, s.time, callExpiryTime s m⟩

/-! ### Selection, start and grant (R158, R159, R160) -/

/-- A call of this priority may start in the present stage: ROUTINE and SHOW only in NORMAL (R158). -/
def startable (s : State) (c : Call) : Bool :=
  match c.priority with
  | .staff | .alarm => true
  | .routine | .show => s.asc.stage == .normal

/-- The startable head of the queue (R158). -/
def startableHead (s : State) : Option Call := s.clc.queue.find? (startable s)

/-- The waiting head of the request list (R158). -/
def waitingHead (s : State) : Option Request := s.clc.requests.find? fun r => r.state == .waiting

/-- A call starts (R159). -/
def startCall (c : Call) (s : State) : State :=
  post .callStarted c.message (some c.priority.code)
    (unitIssue (playOf s c)
      (s.setClc { s.clc with
        queue := s.clc.queue.erase c, current := some c, channel := .playing, playTaken := false,
        overrun := none, cut := none }))

/-- Sets the state of a station's request record. -/
def markRequest (station : Nat) (x : RequestState) (rs : List Request) : List Request :=
  rs.map fun r => if r.station = station then { r with state := x } else r

/-- A page is granted (R160); in EVACUATE the message is owed meanwhile (R156, R163). -/
def grantPage (r : Request) (s : State) : State :=
  post .pageGranted r.station (some r.cls.code)
    (issue r.station .grant
      (unitIssue (.page r.station r.zones)
        (s.setClc { s.clc with
          requests := markRequest r.station .granted s.clc.requests
          channel := .paging
          holder := some (r.station, r.cls)
          pageLimit := some (s.time + pageLimitSeconds s.tbs.active.schedule * 1000)
          cut := none
          cutTaken := false
          evacOwed := s.asc.stage == .evacuate })))

/-- Selection (R158): with the channel IDLE and the announcer PRESENT, a page wins when its class is equal
to or greater than the entry's priority. -/
def select (s : State) : State :=
  if s.clc.channel = .idle ∧ s.clc.announcer = .present then
    match startableHead s, waitingHead s with
    | none, none => s
    | some c, none => startCall c s
    | none, some r => grantPage r s
    | some c, some r => if c.priority.code ≤ r.cls.code then grantPage r s else startCall c s
  else s

/-- A call asked for now is placed, and the channel may be chosen afresh when an entry joined (R151,
R158). -/
def placeAndSelect (c : Call) (s : State) : Placed :=
  let r := placeCall c s
  if r.entry.isSome then { r with state := select r.state } else r

/-- A call from the schedule or from detection: CALL DROPPED when its zone set is empty or it is not placed
(R151, R155, R161). -/
def placeOrDrop (c : Call) (s : State) : State :=
  if c.zones = 0 then post .callDropped c.message (some c.priority.code) s
  else
    let r := placeAndSelect c s
    if r.entry.isSome then r.state else post .callDropped c.message (some c.priority.code) r.state

/-! ### The end of calls and pages (R159, R160) -/

/-- The current call is removed with its overrun expiry, and the channel becomes IDLE (R159). -/
def dropCurrent (s : State) : State :=
  s.setClc { s.clc with current := none, playTaken := false, overrun := none, cut := none, channel := .idle }

/-- A page ends (R160): END PAGE, with REVOKE and the record REVOKED where the event says so; the holder
and the limit are removed; the channel becomes IDLE, or EVACUATION when the stage is EVACUATE. -/
def endPage (revoke : Bool) (e : Event) (arg : Nat → Nat) (s : State) : State :=
  match s.clc.holder with
  | none => s
  | some (station, cls) =>
    let s1 := unitIssue .endPage s
    let s2 := if revoke then issue station .revoke s1 else s1
    let s3 := s2.setClc { s2.clc with
      requests := if revoke then markRequest station .revoked s2.clc.requests else s2.clc.requests
      holder := none
      pageLimit := none
      channel := if s2.asc.stage = .evacuate then .evacuation else .idle
      evacOwed := false }
    post e station (some (arg cls.code)) s3

/-- The reasons of PAGE REVOKED (the events table of chapter 8). -/
def revokedLimit : Nat := 1
def revokedPreempted : Nat := 2
def revokedSeizure : Nat := 3
def revokedRestart : Nat := 4

/-- A cut: STOP AT PART END, with cut pending set; a second cause changes nothing (R159). -/
def cutCall (why : CutReason) (s : State) : State :=
  if s.clc.cut.isSome then s
  else (unitIssue (.stopPlay true) s).setClc { (unitIssue (.stopPlay true) s).clc with cut := some why }

/-! ### A FIRE page in EVACUATION (R163) -/

/-- A FIRE request while the channel is in EVACUATION: a STOP AT PART END when the unit is playing the
message, and otherwise the grant at once (R163), of the waiting head when that is another FIRE request. A cut
already pending is left to run. DESIGN CHOICE (log entry 48), unsafe. -/
def fireInEvacuation (s : State) : State :=
  if s.clc.announcer = .present ∧ (s.clc.unitReport.map (·.1)) = some .playing then
    if s.clc.cut.isSome then s
    else
      (unitIssue (.stopPlay true) s).setClc
        { (unitIssue (.stopPlay true) s).clc with cut := some .firePage, cutTaken := false }
  else match waitingHead s with
    | some r => if r.cls = .fire then grantPage r s else s
    | none => s

/-- After a page has ended in EVACUATE: the evacuation PLAY, and then a FIRE request already waiting
(R163). -/
def resumeEvacuation (s : State) : State :=
  match waitingHead s with
  | some r => if r.cls = .fire then fireInEvacuation (issueEvacPlay s) else issueEvacPlay s
  | none => issueEvacPlay s

/-! ### Alarm (8.5) -/

/-- The staff alert on entry to INVESTIGATE, and the cut of a ROUTINE or SHOW call (R161). -/
def staffAlert (s : State) : State :=
  let s1 := match scheduleEntry? s.tbs.active.schedule with
    | some sc =>
      if sc.staffMessage = 0 then s
      else placeOrDrop (newCall s sc.staffMessage sc.staffZones .alarm .detection) s
    | none => s
  match s1.clc.channel, s1.clc.current with
  | .playing, some c =>
    match c.priority with
    | .routine | .show => cutCall .alarm s1
    | .staff | .alarm => s1
  | _, _ => s1

/-- ALARM FALSE: every queue entry whose origin is DETECTION is removed (R161). -/
def removeDetection (s : State) : State :=
  setQueue (s.clc.queue.filter fun c => c.origin != .detection) s

/-- The channel is seized on entry to EVACUATE (R162). The evacuation zones are empty at the change. A FIRE request
that waits already, with a FIRE PAGE cut pending or with the channel IDLE and the unit not PRESENT, goes on waiting, and
the cut ends with its call: R162 and R163 name no moment that takes it. DESIGN CHOICE (log entry 48), unsafe. -/
def seizeChannel (s : State) : State :=
  let s := s.setClc { s.clc with evacZones := 0, evacRefused := false, cutTaken := false }
  match s.clc.channel with
  | .idle => s.setClc { s.clc with channel := .evacuation }
  | .playing =>
    let s1 := unitIssue (.stopPlay false) s
    let s2 := (dropCurrent s1).setClc { (dropCurrent s1).clc with channel := .evacuation }
    match s.clc.current with
    | some c => post .callDiscarded c.message (some c.priority.code) s2
    | none => s2
  | .paging =>
    match s.clc.holder with
    | some (_, .fire) => s.setClc { s.clc with evacOwed := true }
    | _ => endPage true .pageRevoked (fun _ => revokedSeizure) s
  | .evacuation => s

/-- A group has started: its FOH zone set joins the evacuation zones, and the message is played to them
when that added a zone (R162). -/
def evacuateGroup (g : Nat) (s : State) : State :=
  let z := s.clc.evacZones ||| groupFoh s.tbs.active.zone g
  if z = s.clc.evacZones then s else issueEvacPlay (s.setClc { s.clc with evacZones := z })

/-- ALARM RESET at the channel (R163), before the selection that follows. -/
def channelAlarmReset (s : State) : State :=
  match s.clc.channel with
  | .evacuation =>
    let s1 := unitIssue (.stopPlay false) s
    s1.setClc { s1.clc with evacZones := 0, cut := none, cutTaken := false, channel := .idle }
  | .paging => s.setClc { s.clc with evacZones := 0, evacOwed := false }
  | .idle | .playing => s

/-! ### The scheduled-call list (R155) -/

/-- An entry of the scheduled-call list that is due now (R155). -/
def takeScheduled (e : Scheduled) (s : State) : State :=
  placeOrDrop (newCall s e.message e.zones e.priority .schedule) s

/-- The entries that the Schedule Table yields for an interval, in table order: the bells and then the
beginners entry (R155). -/
def scheduleEntries (s : State) : List Scheduled :=
  match scheduleEntry? s.tbs.active.schedule with
  | none => []
  | some sc =>
    let finish : Int := (s.phc.start + s.phc.interval * 60000 : Nat)
    let zonesOf (m : Nat) : FohSet := ((findMessage s.tbs.active.message m).map (·.zones)).getD 0
    let priorityOf (m : Nat) : Priority :=
      ((findMessage s.tbs.active.message m).map (·.priority)).getD .routine
    (sc.bells.zipIdx.map fun b =>
      ⟨b.2 + 1, b.1.2, zonesOf b.1.2, priorityOf b.1.2, finish - (b.1.1 * 60000 : Nat)⟩) ++
    (match sc.beginners with
      | some (minutes, m, z) => [⟨5, m, z, priorityOf m, finish - (minutes * 60000 : Nat)⟩]
      | none => [])

/-- Adds an entry after those that are due no later (R155). -/
def insertScheduled (e : Scheduled) : List Scheduled → List Scheduled
  | [] => [e]
  | x :: rest => if x.due ≤ e.due then x :: insertScheduled e rest else e :: x :: rest

/-- The fill at the entry to INTERVAL (R155): the entries already due leave the list at once, in list
order, and join the queue with the fill instant as their enqueue time. DESIGN CHOICE (log entry 55), unsafe. -/
def fillSchedule (s : State) : State :=
  let list := (scheduleEntries s).foldl (fun l e => insertScheduled e l) []
  (list.filter fun e => decide (e.due ≤ (s.time : Int))).foldl (fun s e => takeScheduled e s)
    (s.setClc { s.clc with sched := list.filter fun e => !decide (e.due ≤ (s.time : Int)) })

/-- The list is emptied when the phase has left INTERVAL (R155). -/
def clearSchedule (s : State) : State := s.setClc { s.clc with sched := [] }

/-! ### Commits and resets (R165, R166) -/

/-- A commit of the Message Table or the Schedule Table (R165). -/
def callsCleared (s : State) : State :=
  let n := s.clc.queue.length
  let s1 := s.setClc { s.clc with queue := [], sched := [] }
  if s.clc.queue.isEmpty && s.clc.sched.isEmpty then s1 else post .callsCleared 0 (some n) s1

/-- The station is a PAGING STATION of LPC's records. -/
def isPagingStation (s : State) (a : Nat) : Bool :=
  s.lpc.stations.any fun st => st.address == a && st.kind == .paging

/-- A rebuild of LPC's records: the announcer status becomes UNKNOWN; the records, marks and pages of
stations no longer in the Poll List end (R157, R165). The status is UNKNOWN before a page ends, so that END
PAGE is not handed to LPC. DESIGN CHOICE (log entry 48), unsafe. -/
def callsLoopRebuilt (s : State) : State :=
  let s1 := s.setClc { s.clc with announcer := .unknown }
  let gone := match s1.clc.holder with
    | some (a, _) => !isPagingStation s1 a
    | none => false
  let s2 := if gone then endPage false .pageEnded id s1 else s1
  s2.setClc { s2.clc with
    requests := s2.clc.requests.filter fun r => isPagingStation s2 r.station
    owing := s2.clc.owing.filter (isPagingStation s2)
    showing := s2.clc.showing.filter (isPagingStation s2)
    revokeOwed := s2.clc.revokeOwed.filter (isPagingStation s2) }

/-- The union of the FOH zone sets of every group that is EVACUATING (R166). -/
def evacuatingZones (s : State) : FohSet :=
  (s.asc.groups.zipIdx.map fun g => match g.1 with
    | .evacuating _ _ => groupFoh s.tbs.active.zone g.2
    | .clear | .pending _ => 0).foldl (· ||| ·) 0

/-- Warm restart of CLC (R166); the unit report is kept (R156). -/
def callsRestart (s : State) : State :=
  let s1 := match s.clc.holder with
    | some (a, _) => post .pageRevoked a (some revokedRestart)
        (s.setClc { s.clc with revokeOwed := a :: s.clc.revokeOwed.filter fun x => x != a })
    | none => s
  s1.setClc
    { s1.clc with
      queue := [], sched := [], requests := []
      owing := s1.clc.showing
      channel := if s1.asc.stage = .evacuate then .evacuation else .idle
      current := none, playTaken := false, overrun := none, cut := none, cutTaken := false
      holder := none, pageLimit := none
      evacZones := if s1.asc.stage = .evacuate then evacuatingZones s1 else 0
      evacOwed := false
      announcer := .unknown }

end Sys2Proof.Machine
end

