-- ==== Sys2Proof/Machine/Detect.lean ====
section
/-! DEFINITION. ZMN's shared operations (chapter 5): zone records, the latch with its route (R79), the two
halves of the close of a window (R93), the budget, and the rebuild at a commit (R97). The fire that a
latch hands to ASC is taken by the callers (Alarm.lean). -/

namespace Sys2Proof.Machine

/-- The zone record of a number. -/
def findZone (s : State) (z : Nat) : Option Zone := s.zmn.zones.find? fun r => r.number == z

/-- Changes the record of one zone. -/
def modZone (z : Nat) (f : Zone → Zone) (s : State) : State :=
  s.setZmn { s.zmn with zones := s.zmn.zones.map fun r => if r.number = z then f r else r }

/-- The budget-used count of a zone number (R77). -/
def usedOf (s : State) (z : Nat) : Nat := s.zmn.used.getD (z - 1) 0

/-- The budget of a zone number in the authority record (R204). -/
def budgetOf (s : State) (z : Nat) : Nat := s.tbs.auth.budget.getD (z - 1) 0

/-- The maximum window of a zone number in the authority record (R204). -/
def maxWindowOf (s : State) (z : Nat) : Nat := s.tbs.auth.maxWindow.getD (z - 1) 0

/-- Adds a charge to a zone number's budget-used count (R93). -/
def chargeZone (z charge : Nat) (s : State) : State :=
  s.setZmn { s.zmn with used := s.zmn.used.set (z - 1) (usedOf s z + charge) }

/-- The route of a fire (R79): GENERAL for MANUAL, and otherwise by the phase in force. -/
def routeOf (r : Zone) (p : Phase) : FireRoute :=
  if r.kind = .manual then .general
  else match (if p.audience then r.present else r.absent) with
    | .investigate => .investigate
    | .evacuate => .evacuate

/-- A zone is latched (R79): the latch is set and ZONE FIRE posted. -/
def latchZone (r : Zone) (s : State) : State :=
  post .zoneFire r.number (some (routeOf r s.phc.phase).code)
    (modZone r.number (fun r => { r with latch := true }) s)

/-- The fire that a latched zone hands to ASC (R79). -/
def fireOf (r : Zone) (s : State) : Fire := ⟨r.number, r.group, routeOf r s.phc.phase⟩

/-- The charge of a window closed at `now` (R93): the elapsed time in whole seconds, rounded up. -/
def chargeOf (w : Window) (now : Nat) : Nat := (now - w.start + 999) / 1000

/-- A close latches the zone: its condition is FIRE, or LOST with the deferred-fire flag (R93). -/
def latchesAtClose (r : Zone) : Bool :=
  r.condition == .fire || (r.condition == .lost && r.deferred)

/-- What a close found: the state, the fire to hand over, and the charge when a window stood. -/
structure Closed where
  state : State
  fire : Option Fire
  charge : Option Nat
  deriving DecidableEq, Repr

/-- Steps 1 to 3 of a close (R93): charge, remove, latch. A zone without a window is left. -/
def closeBegin (z : Nat) (s : State) : Closed :=
  match findZone s z with
  | none => ⟨s, none, none⟩
  | some r =>
    match r.window with
    | none => ⟨s, none, none⟩
    | some w =>
      let s1 := modZone z (fun r => { r with window := none, deferred := false })
        (chargeZone z (chargeOf w s.time) s)
      if latchesAtClose r then ⟨latchZone r s1, some (fireOf r s1), some (chargeOf w s.time)⟩
      else ⟨s1, none, some (chargeOf w s.time)⟩

/-- Step 4 of a close (R93): SUPPRESSION CLOSED, and BUDGET SPENT when the count equals the budget. -/
def closeReport (z charge : Nat) (s : State) : State :=
  let s1 := post .suppressionClosed z (some charge) s
  if usedOf s1 z = budgetOf s1 z then post .budgetSpent z none s1 else s1

/-- A close whose fire is taken later (R114): all four steps, with the fire handed over. -/
def closeWhole (z : Nat) (s : State) : State × Option Fire :=
  let c := closeBegin z s
  match c.charge with
  | some charge => (closeReport z charge c.state, c.fire)
  | none => (c.state, c.fire)

/-- The zone numbers with a record, ascending. -/
def zoneNumbers (s : State) : List Nat := s.zmn.zones.map (·.number)

/-- Every open window is closed whole, in ascending zone number, with the fires in the order in which they
are handed over (R94). -/
def closeAllWhole (s : State) : State × List Fire :=
  (zoneNumbers s).foldl
    (fun acc z =>
      let c := closeWhole z acc.1
      (c.1, acc.2 ++ c.2.toList))
    (s, [])

/-- The fire latch of every zone record is cleared (R84). -/
def clearLatches (s : State) : State :=
  s.setZmn { s.zmn with zones := s.zmn.zones.map fun r => { r with latch := false } }

/-- Some zone record reports FIRE (R116). -/
def anyFire (s : State) : Bool := s.zmn.zones.any fun r => r.condition == .fire

/-- Entry to PRESHOW sets every budget-used count to 0 (R5, R77). -/
def budgetsPreshow (s : State) : State := s.setZmn { s.zmn with used := List.replicate 64 0 }

/-- The records that a new Zone Table makes (R97), with the latches kept. -/
def rebuiltZones (old : List Zone) (b : Bank) : List Zone :=
  (b.filter fun e => e.index ≤ 64).map fun e =>
    { zoneOf e.index e.bytes with
      latch := ((old.find? fun r => r.number == e.index).map (·.latch)).getD false }

/-- A commit of the Zone Table (R97). A commit completes under a phase other than ACT, where no window is
open; a window that stood nevertheless is closed first. DEDUCED (log entry 22), safe. -/
def zonesRebuild (s : State) : State :=
  let s1 := (closeAllWhole s).1
  s1.setZmn { s1.zmn with zones := rebuiltZones s1.zmn.zones s1.tbs.active.zone }

end Sys2Proof.Machine
end

