-- ==== Sys2Proof/Machine/Motion.lean ====
section
/-! DEFINITION. CTC's shared operations (chapter 7): curtain records, the commands issued to a drive, the
end of a segment, the demonstration's end, and what the alarm, phases, losses, commits and resets do to
the curtains. The notice to TBS of a change (R124) stands with the callers. -/

namespace Sys2Proof.Machine

/-! ### Records -/

/-- The curtain record of a number. -/
def findCurtain (s : State) (n : Nat) : Option Curtain := s.ctc.curtains.find? fun c => c.number == n

/-- The curtain whose drive unit has an address (R124). -/
def curtainOfUnit (s : State) (a : Nat) : Option Curtain := s.ctc.curtains.find? fun c => c.unit == a

/-- Changes the record of one curtain. -/
def modCurtain (n : Nat) (f : Curtain → Curtain) (s : State) : State :=
  s.setCtc { s.ctc with curtains := s.ctc.curtains.map fun c => if c.number = n then f c else c }

/-- Replaces the demonstration record. -/
def setDemo (d : Demo) (s : State) : State := s.setCtc { s.ctc with demo := d }

/-- The demonstration is running (R140). -/
def Demo.running (d : Demo) : Bool :=
  match d.state with
  | .lowering | .dwell | .raising => true
  | .notDone | .passed | .failed => false

/-- The curtain with the demonstration flag (R121). -/
def demoCurtain (s : State) : Option Curtain := s.ctc.curtains.find? fun c => c.demoFlag

/-- The demonstration is running on curtain `n` (R126, R140). -/
def demoRunsOn (s : State) (n : Nat) : Bool :=
  s.ctc.demo.running && (demoCurtain s).any fun c => c.number == n

/-! ### Commands to a drive (R123) -/

/-- CTC issues a command to a curtain: it becomes the outstanding command and is handed to LPC. While the
release field is SENT no command but RELEASE is issued (R123). -/
def issueDrive (n : Nat) (cmd : DriveCmd) (s : State) : State :=
  match findCurtain s n with
  | none => s
  | some c =>
    if c.release = .sent ∧ cmd ≠ .release then s
    else issue c.unit (.drive cmd) (modCurtain n (fun c => { c with outstanding := some cmd }) s)

/-- EXPLICIT ownership becomes IMPLICIT (R128, R135, R137, R143). -/
def Ownership.ended : Ownership → Ownership
  | .explicit => .implicit
  | o => o

/-- The motion record is removed and EXPLICIT ownership becomes IMPLICIT. -/
def Curtain.endMotion (c : Curtain) : Curtain :=
  { c with motion := none, ownership := c.ownership.ended }

/-- A LOWER or a RAISE is outstanding. -/
def Curtain.moving (c : Curtain) : Bool :=
  c.outstanding == some .lower || c.outstanding == some .raise

/-- CTC issues YIELD for a hold request: ownership IMPLICIT, no YIELD outstanding, release not SENT
(R131). -/
def yieldIfHeld (n : Nat) (s : State) : State :=
  match findCurtain s n with
  | none => s
  | some c =>
    if c.ownership = .implicit ∧ c.outstanding ≠ some .yield ∧ c.release ≠ .sent then
      issueDrive n .yield s
    else s

/-- A segment has ended: hold waiting is examined (R132). -/
def segmentEnded (n : Nat) (s : State) : State :=
  match findCurtain s n with
  | none => s
  | some c =>
    if c.holdWaiting then
      let s1 := modCurtain n (fun c => { c with holdWaiting := false }) s
      if c.lastHold then yieldIfHeld n s1 else s1
    else s

/-! ### The demonstration ends early (R142) -/

/-- The lowering start, the lowering expiry and the dwell expiry are removed; a lowering time already
recorded is kept (R142). -/
def Demo.ended (d : Demo) (state : DemoState) (failure : Option DemoFailure) : Demo :=
  { d with state, failure, loweringStart := none, loweringExpiry := none, dwellExpiry := none }

/-- A demonstration running on curtain `n` fails (R142). -/
def failDemo (n : Nat) (why : DemoFailure) (s : State) : State :=
  if demoRunsOn s n then
    post .demonstrationFailed n (some why.code) (setDemo (s.ctc.demo.ended .failed (some why)) s)
  else s

/-- The causes of DEMONSTRATION ABANDONED (the events table of chapter 7). -/
def abandonInvestigate : Nat := 1
def abandonEvacuate : Nat := 2
def abandonRestart : Nat := 3
def abandonPreshow : Nat := 4

/-- A running demonstration is abandoned: its state becomes NOT DONE, with the event (R142). -/
def abandonDemo (cause : Nat) (s : State) : State :=
  match demoCurtain s with
  | some c =>
    if s.ctc.demo.running then
      post .demonstrationAbandoned c.number (some cause) (setDemo (s.ctc.demo.ended .notDone none) s)
    else s
  | none => s

/-! ### The alarm stage (7.5) -/

/-- A raising segment is stopped when the stage leaves NORMAL (R134); a RAISE outstanding without one is
replaced by STOP (R138). -/
def stopRaising (n : Nat) (s : State) : State :=
  match findCurtain s n with
  | some c =>
    if (c.motion.map (·.up)) = some true then
      segmentEnded n (modCurtain n (fun c => { c.endMotion with state := .stopped }) (issueDrive n .stop s))
    else if c.outstanding = some .raise then issueDrive n .stop s
    else s
  | none => s

/-- The segment of an abandoned demonstration ends where it stands: the motion record is removed and ownership
becomes IMPLICIT, and the segment has ended (R142). -/
def endDemoSegment (n : Nat) (s : State) : State := segmentEnded n (modCurtain n Curtain.endMotion s)

/-- The stage leaves NORMAL for INVESTIGATE (R134, R142). -/
def curtainsInvestigate (s : State) : State :=
  let dwell := s.ctc.demo.state == .dwell
  let s1 := abandonDemo abandonInvestigate s
  let s2 := match demoCurtain s1 with
    | some c => if dwell then endDemoSegment c.number s1 else s1
    | none => s1
  (s.ctc.curtains.map (·.number)).foldl (fun s n => stopRaising n s) s2

/-- Entry to EVACUATE at one curtain (R135). A curtain that is LOWERED, or whose release field is not NONE, is
issued no RELEASE: R134 governs it, and a RAISE outstanding is replaced by STOP (R138). -/
def evacuateCurtain (n : Nat) (s : State) : State :=
  match findCurtain s n with
  | none => s
  | some c =>
    let latched := modCurtain n (fun c => { c with latch := some .fire })
    if c.state = .lowered ∨ c.release ≠ .none then latched (stopRaising n s)
    else
      issueDrive n .release
        (modCurtain n (fun c =>
          { c.endMotion with
            latch := some .fire, holdWaiting := false, release := .sent, releaseRefused := false
            state := if c.state = .unknown then .unknown else .emergency }) s)

/-- The demonstration curtain is not released at the entry to EVACUATE, and is not raising: it is LOWERED, or its
release field is not NONE already (R135). Its segment ends with the demonstration (R142). -/
def Curtain.endsUnreleased (c : Curtain) : Bool :=
  (c.state == .lowered || c.release != .none) && c.motion.map (·.up) != some true

/-- Entry to EVACUATE (R135): a running demonstration is abandoned first, and then each curtain in
ascending number. A demonstration curtain that is issued no RELEASE has its segment ended, so that its ownership
is IMPLICIT and a hold that waits is issued YIELD (R132, R142). DEDUCED (log entry 28), unsafe. -/
def curtainsEvacuate (s : State) : State :=
  let s1 := abandonDemo abandonEvacuate s
  let s2 := match demoCurtain s1 with
    | some c => if s.ctc.demo.running && c.endsUnreleased then endDemoSegment c.number s1 else s1
    | none => s1
  (s.ctc.curtains.map (·.number)).foldl (fun s n => evacuateCurtain n s) s2

/-! ### Entry to PRESHOW (R5, R142) -/

/-- Entry to PRESHOW: a running demonstration is abandoned with STOP, and the state becomes NOT DONE
(R142). -/
def curtainsPreshow (s : State) : State :=
  let s1 := match demoCurtain s with
    | some c =>
      if s.ctc.demo.running then
        segmentEnded c.number
          (modCurtain c.number Curtain.endMotion (issueDrive c.number .stop (abandonDemo abandonPreshow s)))
      else s
    | none => s
  setDemo { s1.ctc.demo with state := .notDone, failure := none } s1

/-! ### Loss of a drive unit (R143) -/

/-- The loss of a drive unit at its curtain (R143): an outstanding RELEASE is kept, since CTC issues no
other command while the release field is SENT. DEMONSTRATION FAILED stands after CURTAIN LOST. DESIGN CHOICE (log
entry 6), unsafe. -/
def curtainLost (a : Nat) (s : State) : State :=
  match curtainOfUnit s a with
  | none => s
  | some c =>
    let s1 := post .curtainLost c.number (some c.position)
      (modCurtain c.number (fun c => { c with state := .unknown, latch := some .lost }) s)
    let s2 := if c.motion.isSome || c.moving then issueDrive c.number .stop s1 else s1
    failDemo c.number .lost
      (modCurtain c.number (fun c => { c.endMotion with holdWaiting := false }) s2)

/-! ### Commits and resets (7.8) -/

/-- The record of a new entry of the Curtain Table (R144): the old record of its drive unit whole, or a new
record (R122). -/
def rebuiltCurtain (old : List Curtain) (e : BankEntry) : Curtain :=
  let entry := curtainEntryOf e.bytes
  match old.find? fun c => c.unit == entry.unit with
  | some c => { c with number := e.index, proscenium := entry.proscenium, demoFlag := entry.demo }
  | none => { number := e.index, unit := entry.unit, proscenium := entry.proscenium, demoFlag := entry.demo }

/-- A commit of the Curtain Table (R144). -/
def curtainsRebuild (s : State) : State :=
  let new := s.tbs.active.curtain.map (rebuiltCurtain s.ctc.curtains)
  let oldUnit := (demoCurtain s).map (·.unit)
  let newUnit := (new.find? fun c => c.demoFlag).map (·.unit)
  let demo := if oldUnit.isSome && oldUnit == newUnit then s.ctc.demo
    else { s.ctc.demo.ended .notDone none with loweringTime := none }
  s.setCtc { curtains := new, demo }

/-- After a rebuild of LPC's records CTC issues again each curtain's outstanding command (R144, R181). -/
def reissueOutstanding (s : State) : State :=
  s.ctc.curtains.foldl (fun s c =>
    match c.outstanding with
    | some cmd => issue c.unit (.drive cmd) s
    | none => s) s

/-- Warm restart at one curtain (R145): STOP to a curtain with a motion record, RELEASE again where the
release field is SENT; an outstanding YIELD, RESUME or other command whose carriage LPC dropped is no
longer outstanding (log entry 13). -/
def restartCurtain (n : Nat) (s : State) : State :=
  match findCurtain s n with
  | none => s
  | some c =>
    let s1 := modCurtain n (fun c => { c.endMotion with holdWaiting := false, outstanding := none }) s
    if c.release = .sent then issueDrive n .release s1
    else if c.motion.isSome then issueDrive n .stop s1
    else s1

/-- Warm restart of CTC (R145). -/
def curtainsRestart (s : State) : State :=
  (s.ctc.curtains.map (·.number)).foldl (fun s n => restartCurtain n s) (abandonDemo abandonRestart s)

end Sys2Proof.Machine
end

