-- ==== Sys2Proof/Machine/Operands.lean ====
section
/-! DEFINITION. Reading the payload of each command (R206): the fields that the owner's rule names, in
the order named. A payload that does not have the command's form reads as none, and the owner answers
BAD_ARGUMENT (R184). A command that carries no payload has the form of the empty payload. -/

namespace Sys2Proof.Machine

/-- SET PHASE: phase code; interval length in minutes, 0 when absent (R2, R206). -/
structure PhaseArgs where
  code : Nat
  minutes : Option Nat
  deriving DecidableEq, Repr

def readPhase (p : List Byte) : Option PhaseArgs :=
  if p.length = 2 then some ⟨at1 p 0, if at1 p 1 = 0 then none else some (at1 p 1)⟩ else none

/-- HOUSE FADE: scope GROUP 1 or CIRCUIT 2; number; target; fade time in tenths, two bytes, 65 535 when
absent (R48, R206). -/
structure FadeArgs where
  scope : Nat
  number : Nat
  target : Nat
  tenths : Option Nat
  deriving DecidableEq, Repr

def readFade (p : List Byte) : Option FadeArgs :=
  if p.length = 5 then
    some ⟨at1 p 0, at1 p 1, at1 p 2, if at2 p 3 = 65535 then none else some (at2 p 3)⟩
  else none

/-- HOUSE CONSOLE: group; handover time in tenths, two bytes (R50). -/
def readConsole (p : List Byte) : Option (Nat × Nat) :=
  if p.length = 3 then some (at1 p 0, at2 p 1) else none

/-- One field of one byte: CLEAR LATCH, CANCEL CALLS, SET ATTENTION MASK (R139, R154, R195). -/
def readOne (p : List Byte) : Option Nat :=
  if p.length = 1 then some (at1 p 0) else none

/-- Two fields of one byte: HOUSE MASTER, GET HOUSE, GET ZONES, CURTAIN MOVE (R51, R52, R100, R126). -/
def readPair (p : List Byte) : Option (Nat × Nat) :=
  if p.length = 2 then some (at1 p 0, at1 p 1) else none

/-- GO CUE: a cue number, two bytes (R69). -/
def readCueNumber (p : List Byte) : Option Nat :=
  if p.length = 2 then some (at2 p 0) else none

/-- SUPPRESS: the zone list, as a count and the zones, and the duration in s, two bytes (R85; the list
form is log entry 12). -/
def readSuppress (p : List Byte) : Option (List Nat × Nat) :=
  if 3 ≤ p.length ∧ p.length = 3 + at1 p 0 then
    some (((p.drop 1).take (at1 p 0)).map BitVec.toNat, at2 p (1 + at1 p 0))
  else none

/-- CALL: message; FOH zone set, no zone when absent; priority, 0 when absent (R153, R206). -/
structure CallArgs where
  message : Nat
  zones : Option FohSet
  priority : Nat
  deriving DecidableEq, Repr

def readCall (p : List Byte) : Option CallArgs :=
  if p.length = 4 then
    some ⟨at1 p 0, if at2 p 1 = 0 then none else some (atFoh p 1), at1 p 3⟩
  else none

/-- READ ACTIVE: table id; first index, two bytes; count (R203). -/
structure ActiveArgs where
  table : Nat
  first : Nat
  count : Nat
  deriving DecidableEq, Repr

def readActiveArgs (p : List Byte) : Option ActiveArgs :=
  if p.length = 4 then some ⟨at1 p 0, at2 p 1, at1 p 3⟩ else none

/-- SET AUTHORITY: a selector 1-6 with a value in two bytes, or selector 7 with a first zone, a count and
for each zone a maximum window and a budget in two bytes each (R204, R206). -/
inductive AuthArgs where
  | single (selector value : Nat)
  | zones (first : Nat) (values : List (Nat × Nat))
  deriving DecidableEq, Repr

def readAuthority (p : List Byte) : Option AuthArgs :=
  if at1 p 0 = 7 then
    if 3 ≤ p.length ∧ p.length = 3 + 4 * at1 p 2 then
      some (.zones (at1 p 1)
        ((List.range (at1 p 2)).map fun i => (at2 p (3 + 4 * i), at2 p (5 + 4 * i))))
    else none
  else if p.length = 3 ∧ 1 ≤ at1 p 0 ∧ at1 p 0 ≤ 6 then some (.single (at1 p 0) (at2 p 1))
  else none

end Sys2Proof.Machine
end

