-- ==== Sys2Proof/Machine/House.lean ====
section
/-! DEFINITION. HLU (chapter 3): the level of a circuit, and what commands, the alarm, commits and
resets do to circuit and group records. -/

namespace Sys2Proof.Machine

/-! ### The level of a circuit (3.2) -/

/-- From `a` toward `b` after `e` of `d` ms, rounded half up on the magnitude (R41, R42). -/
def glide (a b e d : Nat) : Nat :=
  if a ≤ b then a + (2 * (b - a) * e + d) / (2 * d) else a - (2 * (a - b) * e + d) / (2 * d)

/-- The value that the input level table holds at a slot. -/
def slotLevel (table : List Nat) (slot : Nat) : Nat := if slot = 0 then 0 else table.getD (slot - 1) 0

/-- The base level in PRESET mode (R41). -/
def fadeLevel (f : Fade) (t : Nat) : Nat :=
  if f.duration = 0 then f.target
  else if t - f.start < f.duration then glide f.fromLevel f.target (t - f.start) f.duration
  else f.target

/-- The base level in CONSOLE mode, with the console value `c` (R42). -/
def consoleLevel (h : Option Handover) (c t : Nat) : Nat :=
  match h with
  | none => c
  | some h => if t - h.start < h.duration then glide h.fromLevel c (t - h.start) h.duration else c

/-- The present base of a circuit (R40): stage 1, whether or not an override record exists. -/
def baseLevel (table : List Nat) (c : Circuit) (t : Nat) : Nat :=
  match c.source with
  | .preset f => fadeLevel f t
  | .console h => consoleLevel h (slotLevel table c.slot) t

/-- Stage 2: the base scaled by the master, rounded half up (R44). -/
def scaledLevel (b m : Nat) : Nat := (2 * b * m + 255) / 510

/-- Stage 3: the circuit's limits, with the walk floor in the audience phases (R45). -/
def limitedLevel (c : Circuit) (audience : Bool) (v : Nat) : Nat :=
  if audience then max c.floor (min c.ceiling v) else min c.ceiling v

/-- Stage 4: the override level (R46). -/
def overrideLevel (o : Override) (t : Nat) : Nat :=
  if t - o.start < o.duration then
    o.fromLevel + (2 * (255 - o.fromLevel) * (t - o.start) + o.duration) / (2 * o.duration)
  else 255

/-- The master level of a group (R39). -/
def masterOf (h : House) (g : Nat) : Nat :=
  ((h.groups.find? fun x => x.number == g).map (·.master)).getD 255

/-- The level of a circuit at an instant (R40). -/
def circuitLevel (s : State) (c : Circuit) (t : Nat) : Nat :=
  match c.override with
  | some o => overrideLevel o t
  | none =>
    limitedLevel c s.phc.phase.audience
      (scaledLevel (baseLevel s.srx.table c t) (masterOf s.hlu c.group))

/-- The circuit record of a number. -/
def findCircuit (h : House) (n : Nat) : Option Circuit := h.circuits.find? fun c => c.number == n

/-- Changes every circuit record. -/
def mapCircuits (f : Circuit → Circuit) (s : State) : State :=
  s.setHlu { s.hlu with circuits := s.hlu.circuits.map f }

/-! ### Commands (3.3) -/

/-- Starts a preset fade on a circuit from its present base (R48). -/
def Circuit.startFade (table : List Nat) (now target duration : Nat) (c : Circuit) : Circuit :=
  { c with source := .preset ⟨baseLevel table c now, target, now, duration⟩ }

/-- Returns a circuit to the console, with a handover of `duration` ms when it is not 0 (R50). -/
def Circuit.toConsole (table : List Nat) (now duration : Nat) (c : Circuit) : Circuit :=
  { c with
    source := .console (if duration = 0 then none else some ⟨baseLevel table c now, now, duration⟩) }

/-- The circuits in a scope: CIRCUIT 2 one circuit, GROUP 1 the circuits of a group (R48). -/
def inScope (scope number : Nat) (c : Circuit) : Bool :=
  if scope = 1 then c.group == number else c.number == number

/-- Step 1 of R47: the scope and the number are in range. -/
def scopeInRange (scope number : Nat) : Bool :=
  (scope == 1 && 1 ≤ number && number ≤ 8) || (scope == 2 && 1 ≤ number && number ≤ 48)

/-- The group whose default fade time a HOUSE FADE uses: the named group, or the group of the named
circuit (R48). -/
def scopeGroup (h : House) (scope number : Nat) : Nat :=
  if scope = 1 then number else ((findCircuit h number).map (·.group)).getD 0

/-- The default fade time of a group, in tenths (R39). -/
def defaultFadeOf (h : House) (g : Nat) : Nat :=
  ((h.groups.find? fun x => x.number == g).map (·.fade)).getD 0

/-- The fade time in tenths that a HOUSE FADE settles on (R48). -/
def settledFade (h : House) (a : FadeArgs) : Nat :=
  match a.tenths with
  | none => defaultFadeOf h (scopeGroup h a.scope a.number)
  | some t => min t 6000

/-- A fade time given above 6000 tenths is clamped (R48). -/
def fadeClamped (a : FadeArgs) : Bool := (a.tenths.map fun t => decide (6000 < t)).getD false

/-- HLU takes a HOUSE FADE that its form allows: the checks of R47, then R48 and R49. -/
def houseFadeArgs (a : FadeArgs) (s : State) : Answer :=
  if !scopeInRange a.scope a.number then ⟨s, .badArgument, []⟩
  else if !s.hlu.circuits.any (inScope a.scope a.number) then ⟨s, .badArgument, []⟩
  else if s.asc.stage = .evacuate then ⟨s, .refusedState, []⟩
  else
    ⟨mapCircuits (fun c =>
        if inScope a.scope a.number c then
          c.startFade s.srx.table s.time a.target (settledFade s.hlu a * 100)
        else c) s,
      if fadeClamped a then .clamped else .done, []⟩

/-- HOUSE FADE (R47, R48). The form is checked first. DESIGN CHOICE (log entry 47), unsafe. -/
def houseFadeCmd (p : List Byte) (s : State) : Answer :=
  match readFade p with
  | none => ⟨s, .badArgument, []⟩
  | some a => houseFadeArgs a s

/-- HOUSE CONSOLE (R47, R50). The form is checked first. DESIGN CHOICE (log entry 47), unsafe. -/
def houseConsoleCmd (p : List Byte) (s : State) : Answer :=
  match readConsole p with
  | none => ⟨s, .badArgument, []⟩
  | some (g, tenths) =>
    if !scopeInRange 1 g then ⟨s, .badArgument, []⟩
    else if !s.hlu.circuits.any (inScope 1 g) then ⟨s, .badArgument, []⟩
    else if s.asc.stage = .evacuate then ⟨s, .refusedState, []⟩
    else
      ⟨mapCircuits (fun c =>
          if inScope 1 g c then c.toConsole s.srx.table s.time (min tenths 6000 * 100) else c) s,
        if 6000 < tenths then .clamped else .done, []⟩

/-- HOUSE MASTER (R47, R51). The form is checked first. DESIGN CHOICE (log entry 47), unsafe. -/
def houseMasterCmd (p : List Byte) (s : State) : Answer :=
  match readPair p with
  | none => ⟨s, .badArgument, []⟩
  | some (g, level) =>
    if !scopeInRange 1 g then ⟨s, .badArgument, []⟩
    else if s.asc.stage = .evacuate then ⟨s, .refusedState, []⟩
    else
      ⟨s.setHlu { s.hlu with
          groups := s.hlu.groups.map fun x => if x.number = g then { x with master := level } else x },
        .done, []⟩

/-- The reply's items for one circuit number (R52): a running fade is 1, a complete one 2. DEDUCED (log entry
29), unsafe. -/
def circuitReport (s : State) (n : Nat) : List Byte :=
  match findCircuit s.hlu n with
  | none => encYes false
  | some c =>
    encYes true ++ enc1 c.group ++ enc1 c.floor ++ enc1 c.ceiling ++
    (match c.source with
      | .console h => enc1 1 ++ encYes h.isSome
      | .preset f => enc1 2 ++ enc1 f.target ++ encChoice (decide (s.time - f.start < f.duration)) ++ encYes false) ++
    encYes c.override.isSome ++ enc1 (baseLevel s.srx.table c s.time) ++
    enc1 (circuitLevel s c s.time) ++ enc1 c.lastSent

/-- GET HOUSE (R52). -/
def getHouseCmd (p : List Byte) (s : State) : Answer :=
  match readPair p with
  | none => ⟨s, .badArgument, []⟩
  | some (first, count) =>
    if 1 ≤ first ∧ first ≤ 48 ∧ 1 ≤ count ∧ count ≤ 16 ∧ first + count ≤ 49 then
      ⟨s, .done, (s.hlu.groups.map fun g => enc1 g.master ++ enc2 g.fade).flatten ++
        ((List.range count).map fun i => circuitReport s (first + i)).flatten⟩
    else ⟨s, .badArgument, []⟩

/-! ### The end of a handover (R43) -/

/-- The handover of a circuit is over at an instant. -/
def Circuit.handoverDue (now : Nat) (c : Circuit) : Bool :=
  match c.source with
  | .console (some h) => h.start + h.duration ≤ now
  | _ => false

/-- The handover expiry of circuit `n` (R43): the record is removed; an expiry that is not due is not
taken. -/
def handoverExpire (n : Nat) (s : State) : State :=
  mapCircuits (fun c =>
    if c.number = n ∧ c.handoverDue s.time then { c with source := .console none } else c) s

/-! ### Alarm (3.5) -/

/-- L0 of an override begun in a phase (R55). -/
def overrideStart (audience : Bool) (c : Circuit) : Nat :=
  if audience && c.lastSent < c.floor then c.floor else c.lastSent

/-- A handover record, when present, is removed; the mode and the fade record are left (R55). -/
def Source.withoutHandover : Source → Source
  | .console _ => .console none
  | .preset f => .preset f

/-- Entry to EVACUATE: an override record on every circuit (R55). -/
def houseEvacuate (s : State) : State :=
  mapCircuits (fun c =>
    { c with
      override := some ⟨overrideStart s.phc.phase.audience c, s.time, s.tbs.auth.alarmFade * 100⟩
      source := c.source.withoutHandover }) s

/-- ALARM RESET: the house to full (R56). -/
def houseAlarmReset (s : State) : State :=
  s.setHlu
    { circuits := s.hlu.circuits.map fun c =>
        { c with override := none, source := .preset ⟨255, 255, s.time, 0⟩ }
      groups := s.hlu.groups.map fun g => { g with master := 255 } }

/-! ### Commits (3.7) -/

/-- The circuit record that a new entry makes, steady at the last sent level kept (R58). -/
def rebuiltCircuit (old : House) (now : Nat) (e : BankEntry) : Circuit :=
  let sent := ((findCircuit old e.index).map (·.lastSent)).getD 0
  let entry := circuitEntryOf e.bytes
  { number := e.index, group := entry.group, slot := entry.slot, floor := entry.floor,
    ceiling := entry.ceiling, source := .preset ⟨sent, sent, now, 0⟩, lastSent := sent }

/-- A commit of the House Circuit Table rebuilds the records from the new active bank (R58). -/
def houseRebuild (s : State) : State :=
  s.setHlu
    { circuits := (s.tbs.active.house.filter fun e => e.index != 0).map (rebuiltCircuit s.hlu s.time)
      groups := s.hlu.groups.map fun g => { g with fade := defaultFade s.tbs.active.house g.number } }

end Sys2Proof.Machine
end

