-- ==== Sys2Proof/Machine/Output.lean ====
section
/-! DEFINITION. FBL (2.5, 2.6, 2.8): what each slot of an output level frame carries, the build with its
record of the last sent levels, the output interval, the holding slot, and the rebuild of a frame that
is being sent. -/

namespace Sys2Proof.Machine

/-! ### The build (R32, R33) -/

/-- CTC's state of a curtain number, when a record exists. -/
def curtainStateOf (s : State) (n : Nat) : Option CurtainState :=
  (s.ctc.curtains.find? fun c => c.number == n).map (·.state)

/-- The value of an EFFECT slot (R33): 0 outside NORMAL; with a curtain named, the input only while it
is RAISED. -/
def effectLevel (s : State) (curtain : Option Nat) (input : Nat) : Nat :=
  if s.asc.stage ≠ .normal then 0
  else match curtain with
    | none => input
    | some k => if curtainStateOf s k = some .raised then input else 0

/-- The value sent in slot `n` (R32, R33). A slot of a circuit without a record cannot stand in a
validated map; its level is 0. -/
def slotValue (s : State) (n : Nat) : Nat :=
  match slotClass s.tbs.active.slot n with
  | .pass => slotLevel s.srx.table n
  | .house c => ((findCircuit s.hlu c).map fun r => circuitLevel s r s.time).getD 0
  | .zero => 0
  | .effect k => effectLevel s k (slotLevel s.srx.table n)
  | .work => if s.asc.stage = .evacuate then 255 else slotLevel s.srx.table n

/-- The number of slots of the level frame built: the expected length, or the valid count while the Slot
Map is empty (R32). -/
def frameSlots (s : State) : Nat :=
  if slotMapEmpty s.tbs.active.slot then s.srx.valid
  else (expectedLength? s.tbs.active.slot).getD 0

/-- The levels of the frame built at this instant (R32). -/
def buildLevels (s : State) : List Nat :=
  if slotMapEmpty s.tbs.active.slot then s.srx.table.take s.srx.valid
  else (List.range (frameSlots s)).map fun i => slotValue s (i + 1)

/-- Some HOUSE slot of the frame names the circuit (R32, R54). -/
def housed (b : Bank) (c : Nat) : Bool :=
  (List.range ((expectedLength? b).getD 0)).any fun i => slotClass b (i + 1) == .house c

/-- FBL hands each HOUSE slot's level back to HLU as the circuit's last sent level (R32, R54). -/
def recordSent (s : State) : State :=
  mapCircuits (fun c =>
    if housed s.tbs.active.slot c.number then { c with lastSent := circuitLevel s c s.time } else c) s

/-- A build under R32, and the sending of its frame from its break: 'last sent was other' is cleared and
the output interval timer is set for 25 ms. While the Slot Map is empty and the valid count is 0, no
frame is sent in that interval, and a frame that the build cuts is no longer in progress. -/
def buildAndSend (cutBefore : Bool) (s : State) : State :=
  (recordSent s).setFbl
    { s.fbl with
      expiry := some (s.time + Config.outputInterval)
      lastOther := false
      frame :=
        if frameSlots s = 0 then (if cutBefore then none else s.fbl.frame)
        else some ⟨false, s.time, buildLevels s, cutBefore⟩ }

/-! ### The transmit state (R31) -/

/-- FBL goes from STOPPED to RUNNING with its first build; a running FBL runs on (R31). `cutBefore`: the
build cuts a frame still being sent (R33). The new frame begins at once, though a frame that FBL was
completing since QUIET may still be on the line. DESIGN CHOICE (log entry 46), unsafe. -/
def fblStart (cutBefore : Bool) (s : State) : State :=
  if s.fbl.running then s
  else buildAndSend cutBefore (s.setFbl { s.fbl with running := true })

/-- FBL goes to STOPPED: no further build is made, and the holding slot is emptied (R31). A frame being
sent is completed. -/
def fblStop (s : State) : State :=
  s.setFbl { s.fbl with running := false, expiry := none, holding := none }

/-- An other frame handed over by SRX is held while FBL is RUNNING, replacing a frame still held (R34). -/
def holdOther (bytes : List Nat) (s : State) : State :=
  if s.fbl.running then s.setFbl { s.fbl with holding := some bytes } else s

/-- The expiry of the output interval (R31, R34): the held other frame in place of the level frame, when
the frame before was none; otherwise a level frame. -/
def intervalExpire (s : State) : State :=
  match s.fbl.holding with
  | some bytes =>
    if s.fbl.lastOther then buildAndSend false s
    else s.setFbl
      { s.fbl with
        expiry := some (s.time + Config.outputInterval)
        holding := none
        lastOther := true
        frame := some ⟨true, s.time, bytes, false⟩ }
  | none => buildAndSend false s

/-- The output interval timer is due. -/
def intervalDue (s : State) : Bool :=
  s.fbl.running && (s.fbl.expiry.map fun e => decide (e ≤ s.time)).getD false

/-! ### Cutting the frame in progress (R33, R45) -/

/-- A level frame of `slots` slots begun at `start` is still being sent at `now`: its start code and
slots take 44 us each and its break at least 88 us; it is complete within 23 ms (2.5); between the
two the spec leaves the length of break and mark open (log entry 8). -/
def stillSending (start slots now : Nat) : Bool :=
  (now - start) * 1000 < 88 + 44 * (slots + 1) ||
    (now - start < 23 && decide ((now - start) * 1000 < Config.frameMicros start slots))

/-- A level frame is being sent (R33, R45). -/
def sendingLevel (s : State) : Bool :=
  match s.fbl.frame with
  | some f => !f.other && stillSending f.start f.bytes.length s.time
  | none => false

/-- A frame is being sent (R36): a level frame, or an other frame, whose bytes hold its start code. -/
def sendingFrame (s : State) : Bool :=
  match s.fbl.frame with
  | some f => stillSending f.start (if f.other then f.bytes.length - 1 else f.bytes.length) s.time
  | none => false

/-- A change that the frame in progress must not outlive: when a level frame is being sent, it is cut and
a new build is sent at once (R33, R45). While FBL is STOPPED a frame still on the line is completed, as R31
states, and no build is made. DESIGN CHOICE (log entry 46), unsafe. -/
def rebuildIfSending (s : State) : State :=
  if sendingLevel s && s.fbl.running then buildAndSend true s else s

/-! ### Resets (R36) -/

/-- Warm restart of FBL: the frame being sent, level or other, is cut, the holding slot emptied and the flag cleared; with
the stream OK or LOST a build is made at once, otherwise FBL is STOPPED (R36). -/
def fblRestart (s : State) : State :=
  if s.srx.state = .ok ∨ s.srx.state = .lost then
    buildAndSend (sendingFrame s)
      (s.setFbl { s.fbl with running := true, holding := none, lastOther := false })
  else
    s.setFbl { s.fbl with running := false, expiry := none, holding := none, lastOther := false, frame := none }

end Sys2Proof.Machine
end

