-- ==== Sys2Proof/Machine/Signal.lean ====
section
/-! DEFINITION. The stream state (2.3): the two stream timers and the changes into LOST and QUIET, the
break of the cue pair that they bring (R63), and what a commit of the Slot Map does to SRX and CRG
(R29, R71). -/

namespace Sys2Proof.Machine

/-- A break of the cue pair: the previous value becomes absent (R63). -/
def breakPair (s : State) : State := s.setCrg { s.crg with previous := none }

/-- The stream hold timer is due (R24): it runs in OK. -/
def holdDue (s : State) : Bool :=
  s.srx.state == .ok && s.srx.lastGood + holdTime s.tbs.active.slot ≤ s.time

/-- The dark idle timer runs (R25). -/
def idleRuns (s : State) : Bool :=
  (s.srx.state == .ok || s.srx.state == .lost) && s.phc.phase == .dark && s.asc.stage == .normal &&
    idleTime s.tbs.active.slot != 0

/-- The dark idle timer is due (R25). -/
def idleDue (s : State) : Bool :=
  idleRuns s && s.srx.idleRef + idleTime s.tbs.active.slot ≤ s.time

/-- The stream state becomes LOST, with its event and the break of the pair (R24, R27, R63). -/
def streamLose (s : State) : State :=
  breakPair (post .streamLost 0 (some s.srx.state.code) (s.setSrx { s.srx with state := .lost }))

/-- The stream state becomes QUIET, and FBL stops (R25, R31, R63). -/
def streamHush (s : State) : State :=
  fblStop (breakPair (post .streamQuiet 0 (some s.srx.state.code) (s.setSrx { s.srx with state := .quiet })))

/-- The stream hold expiry (R24); an expiry that is not due is not taken. -/
def holdExpire (s : State) : State := if holdDue s then streamLose s else s

/-- The dark idle expiry (R25); an expiry that is not due is not taken. -/
def idleExpire (s : State) : State := if idleDue s then streamHush s else s

/-- The stage leaves NORMAL in QUIET or NO STREAM (R27): LOST, and FBL starts from the held table. -/
def streamAlarm (s : State) : State :=
  if s.srx.state = .quiet ∨ s.srx.state = .noStream then
    fblStart (sendingLevel s)
      (streamLose (s.setSrx { s.srx with wakePending := false, discardOwed := false }))
  else s

/-- The idle reference is set to the present instant (R25). -/
def markIdle (s : State) : State := s.setSrx { s.srx with idleRef := s.time }

/-- A commit of the Slot Map at SRX (R29): the valid count is cut to a new expected length, and a timer
whose new expiry has passed expires. DEDUCED (log entry 21), safe. -/
def streamCommit (s : State) : State :=
  let valid := match expectedLength? s.tbs.active.slot with
    | some e => min s.srx.valid e
    | none => s.srx.valid
  idleExpire (holdExpire (s.setSrx { s.srx with valid }))

/-- A commit of the Slot Map or the Cue Table clears the debounce record (R71). -/
def debounceCommit (s : State) : State := s.setCrg { previous := none, last := none }

end Sys2Proof.Machine
end

