-- ==== Sys2Proof/Machine/Validate.lean ====
section
/-! DEFINITION. Validation at COMMIT (R199): the conditions of each table over the prospective set, taken
entry by entry in ascending index and in the order of the rows. A condition over several entries is
reported at the later entry, or at the entry that carries the lone role; a missing header at index 0. -/

namespace Sys2Proof.Machine

/-- The reason codes (R199). -/
def reasonRange : Nat := 1
def reasonHeader : Nat := 2
def reasonCuePair : Nat := 3
def reasonReference : Nat := 4
def reasonHouseSlot : Nat := 5
def reasonDuplicate : Nat := 6
def reasonOrder : Nat := 7
def reasonRole : Nat := 8

/-- A condition that must hold, with the reason reported when it does not. -/
structure Check where
  holds : Bool
  reason : Nat
  deriving DecidableEq, Repr

/-- The reason of the first condition that fails. -/
def firstFailing (cs : List Check) : Option Nat := (cs.find? fun c => !c.holds).map (·.reason)

/-- The value lies in a range. -/
def within (lo hi n : Nat) : Bool := lo ≤ n && n ≤ hi

/-- Some entry before `e` satisfies `p`. -/
def earlier (b : Bank) (e : BankEntry) (p : BankEntry → Bool) : Bool :=
  b.any fun x => x.index < e.index && p x

/-- The outstation kind that a Poll List gives an address: the first entry's, should two name it. DESIGN CHOICE
(log entry 50), unsafe. -/
def pollKindOf (b : Bank) (a : Nat) : Option StationKind :=
  (b.find? fun e => (stationOf e.index e.bytes).address == a).map fun e => (stationOf e.index e.bytes).kind

/-! ### The entries' own ranges -/

/-- A Slot Map header within its ranges (2.2). -/
def slotHeaderInRange (b : List Byte) : Bool :=
  let h := slotHeaderOf b
  within 24 512 h.expected && within 1 30 h.hold && (h.idle == 0 || within 60 3600 h.idle)

/-- A Slot Map entry within its ranges (12.4). -/
def slotEntryInRange (b : List Byte) : Bool :=
  (match at1 b 0 with
    | 1 => within 1 48 (at1 b 1)
    | 3 => at1 b 1 ≤ 4
    | 0 | 2 | 4 => at1 b 1 == 0
    | _ => false) && at1 b 2 ≤ 2

/-- A House Circuit Table header within its ranges (R37). -/
def houseHeaderInRange (b : List Byte) : Bool := (List.range 8).all fun i => at2 b (2 * i) ≤ 6000

/-- A circuit entry within its ranges (R37). -/
def circuitInRange (b : List Byte) : Bool :=
  let c := circuitEntryOf b
  within 1 8 c.group && within 1 512 c.slot

/-- An action within its ranges (R65, 12.4); one whose parameter length does not match its kind is out of
range. -/
def actionInRange (a : RawAction) : Bool :=
  match actionOf a with
  | none => false
  | some (.suppress zones seconds) => within 1 8 zones.length && zones.all (within 1 64) && seconds ≤ 600
  | some (.house group _ time) => within 1 8 group && (time.map fun t => decide (t ≤ 6000)).getD true
  | some (.call message _ priority) => within 1 32 message && priority ≤ 3
  | some (.phase code _) => code ≤ 5
  | some (.curtain number motion) => within 1 4 number && within 1 3 motion

/-- A cue entry's fields within their ranges, but for the counts checked in the Cue Table's row (R65). -/
def cueInRange (c : CueEntry) : Bool :=
  within 1 65534 c.number && c.filter < 64 && c.actions.all actionInRange

/-- A zone entry within its ranges (R74). -/
def zoneInRange (b : List Byte) : Bool :=
  within 1 5 (at1 b 0) && within 1 126 (at1 b 1) && within 1 8 (at1 b 2) && within 1 2 (at1 b 3) &&
    within 1 2 (at1 b 4) && at1 b 5 ≤ 6

/-- A curtain entry within its ranges (R121). -/
def curtainInRange (b : List Byte) : Bool :=
  within 1 126 (at1 b 0) && within 1 2 (at1 b 1) && at1 b 2 ≤ 1

/-- A message entry within its ranges (R148); its part duration has two bytes. DESIGN CHOICE (log entry 57), unsafe. -/
def messageInRange (b : List Byte) : Bool :=
  within 1 3 (at1 b 0) && within 1 5 (at1 b 1) && within 100 30000 (at2 b 2) && within 1 3 (at1 b 6) &&
    at2 b 7 ≤ 600

/-- The Schedule Table record within its ranges (R149, 12.4): bell slots beyond the count are 0. -/
def scheduleInRange (b : List Byte) : Bool :=
  within 5 60 (at1 b 0) && at1 b 1 ≤ 4 &&
    ((List.range 4).all fun i =>
      if i < at1 b 1 then at1 b (2 + 2 * i) ≤ 60 else at1 b (2 + 2 * i) == 0 && at1 b (3 + 2 * i) == 0) &&
    at1 b 10 ≤ 1 && (at1 b 10 == 0 || at1 b 11 ≤ 60) && within 10 300 (at2 b 19)

/-- A Poll List entry within its ranges (R174). -/
def pollInRange (b : List Byte) : Bool := within 1 126 (at1 b 0) && within 1 4 (at1 b 1)

/-! ### The conditions of each table -/

/-- Slot Map: RANGE, HEADER, CUE PAIR, REFERENCE, HOUSE SLOT, REFERENCE. -/
def checkSlot (t : PerTable Bank) (e : BankEntry) : List Check :=
  if e.index = 0 then [⟨slotHeaderInRange e.bytes, reasonRange⟩]
  else
    let role := slotRoleOf e.bytes
    let cls := slotClassOf e.bytes
    [⟨slotEntryInRange e.bytes, reasonRange⟩,
     ⟨e.index ≤ (expectedLength? t.slot).getD 0, reasonHeader⟩,
     ⟨role == 0 || (!(earlier t.slot e fun x => x.index != 0 && slotRoleOf x.bytes == role) &&
        (roleSlot t.slot (3 - role)).isSome), reasonCuePair⟩,
     ⟨match cls with | .house c => c != 0 && (bankFind t.house c).isSome | _ => true, reasonReference⟩,
     ⟨match cls with
        | .house _ => !(earlier t.slot e fun x => x.index != 0 && slotClassOf x.bytes == cls)
        | _ => true, reasonHouseSlot⟩,
     ⟨match cls with | .effect (some k) => (bankFind t.curtain k).isSome | _ => true, reasonReference⟩]

/-- House Circuit Table: RANGE, REFERENCE. -/
def checkHouse (t : PerTable Bank) (e : BankEntry) : List Check :=
  if e.index = 0 then [⟨houseHeaderInRange e.bytes, reasonRange⟩]
  else
    [⟨circuitInRange e.bytes, reasonRange⟩,
     ⟨slotMapEmpty t.slot || (circuitEntryOf e.bytes).slot ≤ (expectedLength? t.slot).getD 0, reasonReference⟩]

/-- What an action names exists in the prospective set (R65, R199). -/
def actionRefers (t : PerTable Bank) (a : RawAction) : Bool :=
  match actionOf a with
  | some (.suppress zones _) => zones.all fun z => (bankFind t.zone z).isSome
  | some (.house group _ _) => t.house.any fun e => e.index != 0 && (circuitEntryOf e.bytes).group == group
  | some (.call message _ _) => (bankFind t.message message).isSome
  | some (.curtain number _) => (bankFind t.curtain number).isSome
  | some (.phase _ _) | none => true

/-- Cue Table: RANGE, DUPLICATE, RANGE, REFERENCE. -/
def checkCue (t : PerTable Bank) (e : BankEntry) : List Check :=
  let c := cueEntryOf e.bytes
  [⟨cueInRange c, reasonRange⟩,
   ⟨!(earlier t.cue e fun x => (cueEntryOf x.bytes).number == c.number), reasonDuplicate⟩,
   ⟨c.filter != 0 && within 1 4 c.actions.length, reasonRange⟩,
   ⟨c.actions.all (actionRefers t), reasonReference⟩]

/-- Zone Table: RANGE, ORDER, REFERENCE, DUPLICATE for a zone entry; a group entry's offset is clamped at
completion and not refused (R199). -/
def checkZone (t : PerTable Bank) (e : BankEntry) : List Check :=
  if e.index ≤ 64 then
    [⟨zoneInRange e.bytes, reasonRange⟩,
     ⟨!slotMapEmpty t.slot, reasonOrder⟩,
     ⟨pollKindOf t.poll (at1 e.bytes 1) == some .zoneUnit, reasonReference⟩,
     ⟨!(earlier t.zone e fun x =>
        at1 x.bytes 1 == at1 e.bytes 1 && at1 x.bytes 2 == at1 e.bytes 2), reasonDuplicate⟩]
  else []

/-- Curtain Table: RANGE, REFERENCE, DUPLICATE, ROLE. -/
def checkCurtain (t : PerTable Bank) (e : BankEntry) : List Check :=
  let c := curtainEntryOf e.bytes
  [⟨curtainInRange e.bytes, reasonRange⟩,
   ⟨pollKindOf t.poll c.unit == some .curtainUnit, reasonReference⟩,
   ⟨!(earlier t.curtain e fun x => (curtainEntryOf x.bytes).unit == c.unit), reasonDuplicate⟩,
   ⟨!(c.proscenium && earlier t.curtain e fun x => (curtainEntryOf x.bytes).proscenium) &&
      (!c.demo || (c.proscenium && !(earlier t.curtain e fun x => (curtainEntryOf x.bytes).demo))), reasonRole⟩]

/-- Message Table: RANGE. -/
def checkMessage (_t : PerTable Bank) (e : BankEntry) : List Check :=
  [⟨messageInRange e.bytes, reasonRange⟩]

/-- Schedule Table: RANGE, REFERENCE. -/
def checkSchedule (t : PerTable Bank) (e : BankEntry) : List Check :=
  let r := scheduleEntryOf e.bytes
  let named (m : Nat) : Bool := (bankFind t.message m).isSome
  [⟨scheduleInRange e.bytes, reasonRange⟩,
   ⟨named r.staffMessage && named r.evacMessage && (r.bells.all fun b => named b.2) &&
      (match r.beginners with | some (_, m, _) => named m | none => true), reasonReference⟩]

/-- Poll List: RANGE, DUPLICATE, ROLE. -/
def checkPoll (t : PerTable Bank) (e : BankEntry) : List Check :=
  [⟨pollInRange e.bytes, reasonRange⟩,
   ⟨!(earlier t.poll e fun x => at1 x.bytes 0 == at1 e.bytes 0), reasonDuplicate⟩,
   ⟨at1 e.bytes 1 != 3 || !(earlier t.poll e fun x => at1 x.bytes 1 == 3), reasonRole⟩]

/-- The conditions of one entry of a table. DESIGN CHOICE (log entry 23), unsafe. -/
def checkEntry (i : TableId) (t : PerTable Bank) (e : BankEntry) : List Check :=
  match i with
  | .slot => checkSlot t e
  | .house => checkHouse t e
  | .cue => checkCue t e
  | .zone => checkZone t e
  | .curtain => checkCurtain t e
  | .message => checkMessage t e
  | .schedule => checkSchedule t e
  | .poll => checkPoll t e

/-- A Slot Map with entries has a header (R199). -/
def headerMissing (i : TableId) (b : Bank) : Bool :=
  i == .slot && !b.isEmpty && (bankFind b 0).isNone

/-- The first failure of one table. -/
def validateTable (t : PerTable Bank) (i : TableId) : Option Failure :=
  if headerMissing i (t.get i) then some ⟨i.code, 0, reasonHeader⟩
  else (t.get i).findSome? fun e => (firstFailing (checkEntry i t e)).map fun r => ⟨i.code, e.index, r⟩

/-- Validation of the prospective set: the tables in ascending id, and the first condition that fails
(R199). -/
def validate (t : PerTable Bank) : Option Failure := TableId.all.findSome? (validateTable t)

end Sys2Proof.Machine
end

