-- ==== Sys2Proof/Machine/Commit.lean ====
section
/-! DEFINITION. TBS (chapter 11): the staging banks, the commit with its safe point and its completion,
the commit status, the reading of an active bank and the authority record; and the rebuild of LPC's
records (R181). -/

namespace Sys2Proof.Machine

/-! ### Staging banks and the commit status -/

/-- Replaces the staging bank of a table. -/
def setStaging (i : TableId) (x : Staging) (s : State) : State :=
  s.setTbs { s.tbs with staging := s.tbs.staging.set i x }

/-- A commit is pending (R202). -/
def commitPending (s : State) : Bool := s.tbs.commit.current == .pending

/-- The tables whose staging bank is QUEUED. -/
def queuedTables (s : State) : List TableId :=
  TableId.all.filter fun i => (s.tbs.staging.get i).state == .queued

/-- A table is QUEUED. -/
def isQueued (s : State) (i : TableId) : Bool := (queuedTables s).contains i

/-- The commit status changes: previous takes the value replaced, unless that is PENDING (R202).
DEDUCED (log entry 24), unsafe. -/
def changeCommit (x : CommitState) (failure : Option Failure) (s : State) : State :=
  let c := s.tbs.commit
  s.setTbs { s.tbs with commit :=
    { c with
      current := x
      previous := if c.current = .pending then c.previous else c.current
      failure := failure
      outcome := s.time } }

/-- Every QUEUED bank becomes OPEN with its contents kept (R199, R202). -/
def reopenQueued (s : State) : State :=
  TableId.all.foldl (fun s i =>
    if (s.tbs.staging.get i).state = .queued then setStaging i { s.tbs.staging.get i with state := .opened } s
    else s) s

/-- Every staging bank becomes EMPTY (R197). -/
def emptyStaging (s : State) : State :=
  s.setTbs { s.tbs with staging := ⟨{}, {}, {}, {}, {}, {}, {}, {}⟩ }

/-- The prospective set (R199): each QUEUED bank, and the active bank of each other table. -/
def prospective (s : State) : PerTable Bank :=
  let pick (i : TableId) : Bank :=
    if (s.tbs.staging.get i).state = .queued then (s.tbs.staging.get i).bank else s.tbs.active.get i
  ⟨pick .slot, pick .house, pick .cue, pick .zone, pick .curtain, pick .message, pick .schedule, pick .poll⟩

/-! ### The safe point (R200) -/

/-- A curtain stands RAISED or LOWERED with ownership IMPLICIT. -/
def Curtain.settled (c : Curtain) : Bool :=
  (c.state == .raised || c.state == .lowered) && c.ownership == .implicit

/-- The present instant is a safe point for a commit of the QUEUED tables (R200). -/
def safePoint (s : State) : Bool :=
  s.asc.stage == .normal && s.phc.phase != .act &&
    (!isQueued s .curtain || s.ctc.curtains.all Curtain.settled) &&
    (!(isQueued s .message || isQueued s .schedule) || s.clc.channel == .idle)

/-! ### Completion (R201) -/

/-- The staging offset of a group entry, lowered to the staging limit (R201). DEDUCED (log entry 25), unsafe. -/
def clampEntry (limit : Nat) (e : BankEntry) : BankEntry :=
  if 65 ≤ e.index ∧ limit < at2 e.bytes 2 then { e with bytes := e.bytes.take 2 ++ enc2 limit } else e

/-- Some group entry's offset is above the staging limit. -/
def anyClamped (limit : Nat) (b : Bank) : Bool :=
  b.any fun e => decide (65 ≤ e.index ∧ limit < at2 e.bytes 2)

/-- The record of a new Poll List entry (R181): UNKNOWN and not opened, with the pending command and the
last tag of an old record of the same address and kind. -/
def rebuiltStation (old : List Station) (e : BankEntry) : Station :=
  let st := stationOf e.index e.bytes
  match old.find? fun x => x.address == st.address && x.kind == st.kind with
  | some x => { st with pending := x.pending, lastTag := x.lastTag }
  | none => st

/-- The records after the transaction is abandoned (R181, R182): a poll being sent is cut and a reply is not
judged; polling begins again at the first entry once the pair has been quiet. -/
def abandonTransaction (stations : List Station) (s : State) : Loop :=
  { stations
    position := (stations.head?.map (·.index)).getD 0
    tx := none
    busyUntil := if s.lpc.tx.isSome then max s.lpc.busyUntil s.time else s.lpc.busyUntil
    quietOwed := true }

/-- LPC's rebuild at a commit of the Poll List (R181): the transaction is abandoned, the records made, and
the poll position the first entry. -/
def loopRebuild (s : State) : State :=
  s.setLpc (abandonTransaction (s.tbs.active.poll.map (rebuiltStation s.lpc.stations)) s)

/-- The QUEUED banks become the active banks, with the offsets clamped, and their staging banks EMPTY
(R201). -/
def activate (s : State) : State :=
  let next := prospective s
  let zone := next.zone.map (clampEntry s.tbs.auth.stagingLimit)
  TableId.all.foldl (fun s i =>
      if (s.tbs.staging.get i).state = .queued then setStaging i {} s else s)
    (s.setTbs { s.tbs with active := { next with zone := zone } })

/-- Does `f` when `b` holds. -/
def whenState (b : Bool) (f : State → State) (s : State) : State := if b then f s else s

/-- The owners rebuild their records from the new active tables (R201); `q` says which tables were in the
commit. LPC comes before CTC and CLC. The events of the rebuilds stand in the order of the blocks: SRX's STREAM LOST or
STREAM QUIET, and then CLC's CALLS CLEARED and PAGE ENDED. DESIGN CHOICE (log entry 6), unsafe. -/
def rebuildOwners (q : TableId → Bool) (s : State) : State :=
  whenState (q .poll) reissueOutstanding
    (whenState (q .poll) callsLoopRebuilt
      (whenState (q .message || q .schedule) callsCleared
        (whenState (q .curtain) curtainsRebuild
          (whenState (q .zone) zonesRebuild
            (whenState (q .slot || q .cue) debounceCommit
              (whenState (q .house) houseRebuild
                (whenState (q .slot) streamCommit
                  (whenState (q .poll) loopRebuild s))))))))

/-- The commit completes at this instant (R201). -/
def complete (s : State) : State :=
  rebuildOwners (isQueued s) (changeCommit .passed none (activate s))

/-- Completion lowers an offset (R200, R201). -/
def clampsOffset (s : State) : Bool := anyClamped s.tbs.auth.stagingLimit (prospective s).zone

/-- TBS re-examines a pending commit (R200). COMMIT DONE stands after the events of the rebuilds. DESIGN CHOICE
(log entry 6), unsafe. -/
def reexamine (s : State) : State :=
  if commitPending s && safePoint s then
    post .commitDone 0 (some (if clampsOffset s then 1 else 0)) (complete s)
  else s

/-- The channel has become IDLE: TBS is told, and then CLC chooses afresh (R156, R158, R200). The callers have posted
CLC's own event for the change, so that CALLS CLEARED and COMMIT DONE stand after it, and CALL STARTED or PAGE GRANTED
after them (R192). DESIGN CHOICE (log entry 6), unsafe. -/
def freed (s : State) : State := select (reexamine s)

/-! ### The staging commands (R198) -/

/-- The payload of the staging commands: the bank's state and the number of its entries. -/
def stagingReport (s : State) (i : TableId) : List Byte :=
  enc1 (s.tbs.staging.get i).state.code ++ enc2 (s.tbs.staging.get i).bank.length

/-- STAGE OPEN of a table (R198). -/
def stageOpenAt (i : TableId) (s : State) : Answer :=
  if (s.tbs.staging.get i).state = .queued ∧ commitPending s then ⟨s, .busy, stagingReport s i⟩
  else ⟨setStaging i ⟨.opened, []⟩ s, .done, stagingReport (setStaging i ⟨.opened, []⟩ s) i⟩

/-- STAGE OPEN (R198). The form is checked before BUSY. DESIGN CHOICE (log entry 47), unsafe. -/
def stageOpenCmd (p : List Byte) (s : State) : Answer :=
  match TableId.ofCode (at1 p 0) with
  | none => ⟨s, .badArgument, []⟩
  | some i => if p.length = 1 then stageOpenAt i s else ⟨s, .badArgument, stagingReport s i⟩

/-- Cuts a payload into whole cue entries; `fuel` bounds their number. -/
def cutCues : Nat → List Byte → Option (List (List Byte))
  | 0, b => if b.isEmpty then some [] else none
  | fuel + 1, b =>
    if b.isEmpty then some []
    else match takeCueEntry b with
      | none => none
      | some (_, rest) => (cutCues fuel rest).map fun l => b.take (b.length - rest.length) :: l

/-- Cuts a payload into `n` entries of `len` bytes. -/
def cutFixed (len : Nat) (b : List Byte) : List (List Byte) :=
  (List.range (b.length / len)).map fun i => (b.drop (i * len)).take len

/-- Cuts the entries of a STAGE WRITE (R198, 12.4): whole entries in the layout of the first index, at
indices that share that layout. -/
def cutEntries (i : TableId) (first : Nat) (b : List Byte) : Option (List (List Byte)) :=
  match entryLength i first with
  | none => cutCues b.length b
  | some len =>
    if b.length % len ≠ 0 then none
    else if entryLength i (first + b.length / len - 1) ≠ some len then none
    else some (cutFixed len b)

/-- The entries that a STAGE WRITE places: one or more, within the table's indices (R198). -/
def writeEntries (i : TableId) (p : List Byte) : Option (Nat × List (List Byte)) :=
  if p.length < 3 then none
  else
    let first := at2 p 1
    match cutEntries i first (p.drop 3) with
    | none => none
    | some es =>
      if es.isEmpty || first < i.first || i.lastIndex + 1 < first + es.length then none
      else some (first, es)

/-- Places entries at consecutive indices (R198). -/
def placeEntries (b : Bank) (first : Nat) (es : List (List Byte)) : Bank :=
  (es.zipIdx first).foldl (fun b e => bankPut b e.2 e.1) b

/-- STAGE WRITE of a table, with its whole payload (R198). -/
def stageWriteAt (i : TableId) (p : List Byte) (s : State) : Answer :=
  if (s.tbs.staging.get i).state ≠ .opened then ⟨s, .refusedState, stagingReport s i⟩
  else match writeEntries i p with
    | none => ⟨s, .badArgument, stagingReport s i⟩
    | some (first, es) =>
      let s1 := setStaging i ⟨.opened, placeEntries (s.tbs.staging.get i).bank first es⟩ s
      ⟨s1, .done, stagingReport s1 i⟩

/-- STAGE WRITE (R198). -/
def stageWriteCmd (p : List Byte) (s : State) : Answer :=
  match TableId.ofCode (at1 p 0) with
  | none => ⟨s, .badArgument, []⟩
  | some i => stageWriteAt i p s

/-- STAGE QUEUE of a table (R198). -/
def stageQueueAt (i : TableId) (s : State) : Answer :=
  if (s.tbs.staging.get i).state = .empty then ⟨s, .refusedState, stagingReport s i⟩
  else if commitPending s then ⟨s, .busy, stagingReport s i⟩
  else
    let s1 := setStaging i { s.tbs.staging.get i with state := .queued } s
    ⟨s1, .done, stagingReport s1 i⟩

/-- STAGE QUEUE (R198). The form is checked before REFUSED_STATE and BUSY. DESIGN CHOICE (log entry 47), unsafe. -/
def stageQueueCmd (p : List Byte) (s : State) : Answer :=
  match TableId.ofCode (at1 p 0) with
  | none => ⟨s, .badArgument, []⟩
  | some i => if p.length = 1 then stageQueueAt i s else ⟨s, .badArgument, stagingReport s i⟩

/-! ### COMMIT, ABORT COMMIT, GET COMMIT (R199, R202) -/

/-- Notes the tables of the latest commit (R202). -/
def noteTables (s : State) : State :=
  s.setTbs { s.tbs with commit := { s.tbs.commit with tables := (queuedTables s).map (·.code) } }

/-- The detail of a failed validation (R199). -/
def failureBytes (f : Failure) : List Byte := enc1 f.table ++ enc2 f.index ++ enc1 f.reason

/-- COMMIT with a QUEUED bank and no commit pending (R199). -/
def commitQueued (s : State) : Answer :=
  match validate (prospective s) with
  | some f => ⟨changeCommit .failed (some f) (reopenQueued (noteTables s)), .refusedState, failureBytes f⟩
  | none =>
    if safePoint s then
      ⟨complete (noteTables s), if clampsOffset s then .clamped else .done, []⟩
    else ⟨changeCommit .pending none (noteTables s), .accepted, []⟩

/-- COMMIT (R199). The form is checked first. DESIGN CHOICE (log entry 47), unsafe. -/
def commitCmd (p : List Byte) (s : State) : Answer :=
  if !p.isEmpty then ⟨s, .badArgument, []⟩
  else if commitPending s then ⟨s, .busy, []⟩
  else if (queuedTables s).isEmpty then ⟨s, .refusedState, []⟩
  else commitQueued s

/-- A pending commit ends ABORTED (R202). -/
def abortPending (s : State) : State := changeCommit .aborted none (reopenQueued s)

/-- ABORT COMMIT (R202). The form is checked first. DESIGN CHOICE (log entry 47), unsafe. -/
def abortCommitCmd (p : List Byte) (s : State) : Answer :=
  if !p.isEmpty then ⟨s, .badArgument, []⟩
  else if commitPending s then ⟨abortPending s, .done, []⟩
  else ⟨s, .refusedState, []⟩

/-- GET COMMIT (R202): the commit status record and, for each table, its banks. -/
def getCommitCmd (p : List Byte) (s : State) : Answer :=
  if !p.isEmpty then ⟨s, .badArgument, []⟩
  else
    let c := s.tbs.commit
    ⟨s, .done,
      enc1 c.current.code ++ enc1 c.previous.previousCode ++ encList enc1 c.tables ++
      encOpt s.fresh 1 4 failureBytes c.failure ++ enc4 c.outcome ++
      (TableId.all.map fun i => stagingReport s i ++ enc2 (s.tbs.active.get i).length).flatten⟩

/-! ### READ ACTIVE (R203) -/

/-- One index of a READ ACTIVE: whether an entry is present, and the entry. -/
def activeItem (b : Bank) (n : Nat) : List Byte :=
  match bankFind b n with
  | some bytes => encYes true ++ bytes
  | none => encYes false

/-- The items, in order, as long as the next one fits in `room` bytes. -/
def fitting : Nat → List (List Byte) → List (List Byte)
  | _, [] => []
  | room, x :: rest => if x.length ≤ room then x :: fitting (room - x.length) rest else []

/-- READ ACTIVE of a table (R203). -/
def readActiveAt (i : TableId) (a : ActiveArgs) (s : State) : Answer :=
  if 1 ≤ a.count ∧ a.count ≤ 16 ∧ i.first ≤ a.first ∧ a.first + a.count ≤ i.lastIndex + 1 then
    let items := fitting 499 ((List.range a.count).map fun k => activeItem (s.tbs.active.get i) (a.first + k))
    ⟨s, .done, enc1 items.length ++ items.flatten⟩
  else ⟨s, .badArgument, []⟩

/-- READ ACTIVE (R203). -/
def readActiveCmd (p : List Byte) (s : State) : Answer :=
  match readActiveArgs p with
  | none => ⟨s, .badArgument, []⟩
  | some a =>
    match TableId.ofCode a.table with
    | none => ⟨s, .badArgument, []⟩
    | some i => readActiveAt i a s

/-! ### The authority record (R204, R205) -/

/-- A value brought into its range (R204). -/
def clampTo (lo hi n : Nat) : Nat := max lo (min hi n)

/-- Replaces the authority record. -/
def setAuth (a : Authority) (s : State) : State := s.setTbs { s.tbs with auth := a }

/-- Writes one single field (R204); none for a demonstration rule code other than the three. -/
def writeSingle (a : Authority) (selector v : Nat) : Option (Authority × Bool) :=
  match selector with
  | 1 => some ({ a with ackTime := clampTo 10 120 v }, clampTo 10 120 v != v)
  | 2 => some ({ a with invTime := clampTo 30 300 v }, clampTo 30 300 v != v)
  | 3 => some ({ a with stagingLimit := clampTo 0 300 v }, clampTo 0 300 v != v)
  | 4 => some ({ a with descentLimit := clampTo 10 60 v }, clampTo 10 60 v != v)
  | 5 => some ({ a with alarmFade := clampTo 5 50 v }, clampTo 5 50 v != v)
  | 6 => (DemoRule.ofCode v).map fun r => ({ a with demoRule := r }, false)
  | _ => none

/-- Writes values at consecutive places of a list held by zone number. -/
def writeAt (l : List Nat) (first : Nat) (vs : List Nat) : List Nat :=
  (vs.zipIdx first).foldl (fun l v => l.set (v.2 - 1) v.1) l

/-- Writes the zone values (R204); none for a range beyond zone 64 or a count outside 1-64. -/
def writeZones (a : Authority) (first : Nat) (vs : List (Nat × Nat)) : Option (Authority × Bool) :=
  if 1 ≤ first ∧ 1 ≤ vs.length ∧ vs.length ≤ 64 ∧ first + vs.length ≤ 65 then
    some
      ({ a with
          maxWindow := writeAt a.maxWindow first (vs.map fun v => clampTo 0 600 v.1)
          budget := writeAt a.budget first (vs.map fun v => clampTo 0 3600 v.2) },
        vs.any fun v => 600 < v.1 || 3600 < v.2)
  else none

/-- What a SET AUTHORITY payload writes, and whether a value was clamped (R204). -/
def writeAuthority (a : Authority) : AuthArgs → Option (Authority × Bool)
  | .single selector v => writeSingle a selector v
  | .zones first vs => writeZones a first vs

/-- SET AUTHORITY (R204). -/
def setAuthorityCmd (p : List Byte) (s : State) : Answer :=
  if s.tbs.auth.locked then ⟨s, .locked, []⟩
  else match (readAuthority p).bind (writeAuthority s.tbs.auth) with
    | none => ⟨s, .badArgument, []⟩
    | some (a, clamped) => ⟨setAuth a s, if clamped then .clamped else .done, []⟩

/-- LOCK AUTHORITY, received with the key on (R205). The form is checked first. DESIGN CHOICE (log entry 47),
unsafe. -/
def lockAuthorityCmd (p : List Byte) (s : State) : Answer :=
  if !p.isEmpty then ⟨s, .badArgument, []⟩
  else if s.tbs.auth.locked then ⟨s, .done, []⟩
  else ⟨post .authorityLocked 0 none (setAuth { s.tbs.auth with locked := true } s), .done, []⟩

/-- GET AUTHORITY (R205): every field. -/
def getAuthorityCmd (p : List Byte) (s : State) : Answer :=
  if !p.isEmpty then ⟨s, .badArgument, []⟩
  else
    let a := s.tbs.auth
    ⟨s, .done,
      (a.maxWindow.map enc2).flatten ++ (a.budget.map enc2).flatten ++ enc1 a.ackTime ++ enc2 a.invTime ++
      enc2 a.stagingLimit ++ enc1 a.descentLimit ++ enc1 a.alarmFade ++ enc1 a.demoRule.code ++
      encYes a.locked⟩

/-! ### Warm restart (R197, R202) -/

/-- Warm restart of TBS: a pending commit ends ABORTED with its event, and every staging bank is
emptied. -/
def storeRestart (s : State) : State :=
  if commitPending s then post .commitAborted 0 none (emptyStaging (abortPending s))
  else emptyStaging s

end Sys2Proof.Machine
end

