-- ==== Sys2Proof/Machine/Alarm.lean ====
section
/-! DEFINITION. ASC (chapter 6): the fires that ZMN hands over, the entries to INVESTIGATE and EVACUATE
with what each reader of the stage does (R114), the groups, the timers, and the commands. -/

namespace Sys2Proof.Machine

/-! ### Telling the readers of the stage (R114) -/

/-- A reader acts on a change of stage that cuts the frame in progress; the stream ends QUIET or NO STREAM
on leaving NORMAL (R27, R33). -/
def streamTold (leaving : Bool) (s : State) : State :=
  if leaving && (s.srx.state == .quiet || s.srx.state == .noStream) then streamAlarm s
  else rebuildIfSending s

/-- The windows are closed on leaving NORMAL (R94), with the fires handed over. -/
def windowsTold (leaving : Bool) (s : State) : State × List Fire :=
  if leaving then closeAllWhole s else (s, [])

/-- CLC is told of group starts, in ascending group number (R111, R162). -/
def groupsTold (gs : List Nat) (s : State) : State := gs.foldl (fun s g => evacuateGroup g s) s

/-- The readers act on the entry to INVESTIGATE, in this order (R114). DESIGN CHOICE (log entry 6), unsafe. -/
def tellInvestigate (s : State) : State × List Fire :=
  let r := windowsTold true (streamTold true s)
  (curtainsInvestigate r.1, r.2)

/-- The readers act on the entry to EVACUATE, in this order (R114); `leaving`: from NORMAL. DESIGN CHOICE (log
entry 6), unsafe. -/
def tellEvacuate (leaving : Bool) (gs : List Nat) (s : State) : State × List Fire :=
  let r := windowsTold leaving (streamTold leaving (houseEvacuate s))
  (groupsTold gs (seizeChannel (curtainsEvacuate r.1)), r.2)

/-! ### Groups (R102, R111, R112) -/

/-- The causes of ALARM EVACUATE (R111). -/
def causeFireRoute : Nat := 1
def causeSecondFire : Nat := 2
def causeAckTimer : Nat := 3
def causeInvTimer : Nat := 4
def causeGeneral : Nat := 5

/-- The staging offset used for a group in s (R111): the lesser of its entry's and the staging limit. -/
def offsetOf (s : State) (g : Nat) : Nat := min (groupOffset s.tbs.active.zone g) s.tbs.auth.stagingLimit

/-- A group starts at the entry to a staged evacuation (R111). -/
def startsAtEntry (s : State) (fireGroup : Option Nat) (g : Nat) : Bool :=
  g == 0 || s.asc.group == some g || fireGroup == some g || offsetOf s g == 0

/-- The record of a group at the entry to EVACUATE (R111). -/
def entryGroup (s : State) (general : Bool) (fireGroup : Option Nat) (g : Nat) : GroupState :=
  if general then .evacuating s.time .general
  else if startsAtEntry s fireGroup g then .evacuating s.time .entry
  else .pending (s.time + offsetOf s g * 1000)

/-- The start cause of a group that is EVACUATING. -/
def GroupState.cause? : GroupState → Option StartCause
  | .evacuating _ c => some c
  | .clear | .pending _ => none

/-- The groups that are EVACUATING, ascending. -/
def evacuatingGroups (s : State) : List Nat :=
  (List.range 7).filter fun g => ((s.asc.groups.getD g .clear).cause?).isSome

/-- GROUP STARTED for a group that is EVACUATING (R111, R112). -/
def postStarted (g : Nat) (s : State) : State :=
  match (s.asc.groups.getD g .clear).cause? with
  | some c => post .groupStarted g (some c.code) s
  | none => s

/-- The state of a group, and its replacement. -/
def groupState (s : State) (g : Nat) : GroupState := s.asc.groups.getD g .clear

def setGroup (g : Nat) (x : GroupState) (s : State) : State :=
  s.setAsc { s.asc with groups := s.asc.groups.set g x }

/-- A PENDING group is started (R112): the record, GROUP STARTED, and CLC told; any other group is left. -/
def startGroup (g : Nat) (cause : StartCause) (s : State) : State :=
  match groupState s g with
  | .pending _ => evacuateGroup g (postStarted g (setGroup g (.evacuating s.time cause) s))
  | .clear | .evacuating _ _ => s

/-! ### The entries (R107, R111) -/

/-- The record at the entry to INVESTIGATE (R107). -/
def investigateRecord (s : State) : State :=
  s.setAsc { s.asc with
    stage := .investigate, stageStart := s.time, invStep := some .awaitingAck,
    ackExpiry := some (s.time + s.tbs.auth.ackTime * 1000) }

/-- Entry to INVESTIGATE (R107): the record, the event, the staff alert, the readers. -/
def enterInvestigate (s : State) : State × List Fire :=
  let s1 := investigateRecord s
  tellInvestigate (staffAlert
    (post .alarmInvestigate (s1.asc.zone.getD 0) (some (s1.asc.group.getD 0)) s1))

/-- The record at the entry to EVACUATE (R111). -/
def evacuateRecord (general : Bool) (fireGroup : Option Nat) (s : State) : State :=
  s.setAsc { s.asc with
    stage := .evacuate, stageStart := s.time, evacStart := some s.time, invStep := none,
    ackExpiry := none, invExpiry := none, showStop := true, general := general,
    groups := (List.range 7).map (entryGroup s general fireGroup) }

/-- Entry to EVACUATE (R111): the record, ALARM EVACUATE, GROUP STARTED for each group started, the readers,
and CLC told of the groups. -/
def enterEvacuate (general : Bool) (cause : Nat) (fireGroup : Option Nat) (s : State) :
    State × List Fire :=
  let leaving := s.asc.stage == .normal
  let s1 := evacuateRecord general fireGroup s
  let gs := evacuatingGroups s1
  tellEvacuate leaving gs
    (gs.foldl (fun s g => postStarted g s)
      (post .alarmEvacuate (s1.asc.zone.getD 0) (some cause) s1))

/-! ### Fires (R103, R104, R105) -/

/-- A fire taken while the stage is EVACUATE (R105). GENERAL EVACUATION stands in the queue before GROUP
STARTED (6.8, Example: a staged evacuation). -/
def fireInEvacuate (f : Fire) (s : State) : State :=
  match f.route with
  | .investigate | .evacuate => startGroup f.group .fire s
  | .general =>
    if s.asc.general then s
    else
      (List.range 7).foldl (fun s g => startGroup g .general s)
        (post .generalEvacuation f.zone none (s.setAsc { s.asc with general := true }))

/-- A fire taken outside NORMAL (R104, R105). DEDUCED (log entry 36), unsafe. -/
def fireUnderAlarm (f : Fire) (s : State) : State :=
  match s.asc.stage with
  | .investigate => (enterEvacuate (f.route == .general) causeSecondFire (some f.group) s).1
  | .evacuate => fireInEvacuate f s
  | .normal => s

/-- The originating zone and group are recorded (R103). -/
def recordOrigin (f : Fire) (s : State) : State :=
  s.setAsc { s.asc with zone := some f.zone, group := some f.group }

/-- A fire taken while the stage is NORMAL (R103), with the fires handed over while the readers were told. -/
def fireInNormal (f : Fire) (s : State) : State × List Fire :=
  match f.route with
  | .investigate => enterInvestigate (recordOrigin f s)
  | .evacuate => enterEvacuate false causeFireRoute (some f.group) (recordOrigin f s)
  | .general => enterEvacuate true causeGeneral (some f.group) (recordOrigin f s)

/-- ASC takes a fire (R103 to R105); the fires handed over while it tells the readers are taken once every
reader has acted, in the order in which they were handed over (R114). -/
def takeFire (f : Fire) (s : State) : State :=
  match s.asc.stage with
  | .normal =>
    let r := fireInNormal f s
    r.2.foldl (fun s f => fireUnderAlarm f s) r.1
  | .investigate | .evacuate => fireUnderAlarm f s

/-- Takes a fire when there is one. -/
def takeFire? (f : Option Fire) (s : State) : State :=
  match f with
  | some f => takeFire f s
  | none => s

/-- A window is closed outside a change of stage (R90, R91, R95, R98): the fire is taken before the report, with
the other windows that its change of stage closes (R94). DESIGN CHOICE (log entry 52), unsafe. -/
def closeWindow (z : Nat) (s : State) : State :=
  let c := closeBegin z s
  match c.charge with
  | some charge => closeReport z charge (takeFire? c.fire c.state)
  | none => s

/-- Every open window is closed, in ascending zone number, and each fire taken at its close (R95, R98). -/
def closeAllWindows (s : State) : State := (zoneNumbers s).foldl (fun s z => closeWindow z s) s

/-! ### Timers (R109, R112) -/

/-- An expiry is due. -/
def due (expiry : Option Nat) (now : Nat) : Bool := (expiry.map fun e => decide (e ≤ now)).getD false

/-- The acknowledge timer is due (R109). -/
def ackDue (s : State) : Bool :=
  s.asc.stage == .investigate && s.asc.invStep == some .awaitingAck && due s.asc.ackExpiry s.time

/-- The investigation timer is due (R109). -/
def invDue (s : State) : Bool :=
  s.asc.stage == .investigate && s.asc.invStep == some .investigating && due s.asc.invExpiry s.time

/-- The acknowledge expiry (R109); an expiry that is not due is not taken. -/
def ackExpire (s : State) : State :=
  if ackDue s then (enterEvacuate false causeAckTimer none s).1 else s

/-- The investigation expiry (R109). -/
def invExpire (s : State) : State :=
  if invDue s then (enterEvacuate false causeInvTimer none s).1 else s

/-- The offset timer of a group is due (R112). -/
def offsetDue (s : State) (g : Nat) : Bool :=
  match groupState s g with
  | .pending d => d ≤ s.time
  | .clear | .evacuating _ _ => false

/-- The offset expiry of a group (R112). -/
def offsetExpire (g : Nat) (s : State) : State :=
  if offsetDue s g then startGroup g .offset s else s

/-! ### The return to NORMAL (R110, R116) -/

/-- The stage becomes NORMAL, and the readers that act on it: SRX, TBS, CLC (R114). -/
def returnToNormal (s : State) : State :=
  markIdle (s.setAsc { s.asc with stage := .normal, stageStart := s.time })

/-- ALARM ACK (R108). The payload's form is checked before the stage, here and in ALARM FALSE and ALARM RESET.
DESIGN CHOICE (log entry 47), unsafe. -/
def alarmAckCmd (p : List Byte) (s : State) : Answer :=
  if !p.isEmpty then ⟨s, .badArgument, []⟩
  else if s.asc.stage = .investigate ∧ s.asc.invStep = some .awaitingAck then
    ⟨post .alarmAcknowledged (s.asc.zone.getD 0) none
      (s.setAsc { s.asc with
        ackExpiry := none, invStep := some .investigating,
        invExpiry := some (s.time + s.tbs.auth.invTime * 1000) }), .done, []⟩
  else ⟨s, .refusedState, []⟩

/-- The originating zone reports FIRE (R110). -/
def originFires (s : State) : Bool :=
  match s.asc.zone with
  | some z => ((findZone s z).map fun r => r.condition == .fire).getD false
  | none => false

/-- ALARM FALSE taken (R110). -/
def declareFalse (s : State) : State :=
  let zone := s.asc.zone.getD 0
  let s1 := removeDetection (clearLatches s)
  let s2 := s1.setAsc { s1.asc with
    ackExpiry := none, invExpiry := none, invStep := none, zone := none, group := none }
  freed (returnToNormal (post .alarmFalse zone none s2))

/-- ALARM FALSE, received with the key on (R110). The form is checked first. DESIGN CHOICE (log entry 47),
unsafe. -/
def alarmFalseCmd (p : List Byte) (s : State) : Answer :=
  if !p.isEmpty then ⟨s, .badArgument, []⟩
  else if s.asc.stage = .investigate then
    if originFires s then ⟨s, .refusedState, []⟩ else ⟨declareFalse s, .done, []⟩
  else ⟨s, .refusedState, []⟩

/-- The alarm record after ALARM RESET, before the stage becomes NORMAL (R116). -/
def clearedAlarm (s : State) : State :=
  s.setAsc { s.asc with
    groups := List.replicate 7 .clear, general := false, zone := none, group := none,
    evacStart := none, showStop := false }

/-- PHC is forced to HOUSE CLEAR (R13): the record, the list of the interval that is left, the event. -/
def forceClear (s : State) : State :=
  let s1 := s.setPhc { s.phc with phase := .houseClear, start := s.time }
  post .phaseForced s.phc.act (some Phase.houseClear.code)
    (if s.phc.phase = .interval then clearSchedule s1 else s1)

/-- ALARM RESET taken (R116). -/
def resetAlarm (s : State) : State :=
  let zone := s.asc.zone.getD 0
  freed (channelAlarmReset (returnToNormal
    (post .alarmReset zone none (clearedAlarm (clearLatches (houseAlarmReset (forceClear s)))))))

/-- ALARM RESET, received with the key on (R116). The form is checked first. DESIGN CHOICE (log entry 47),
unsafe. -/
def alarmResetCmd (p : List Byte) (s : State) : Answer :=
  if !p.isEmpty then ⟨s, .badArgument, []⟩
  else if s.asc.stage = .evacuate then
    if anyFire s then ⟨s, .refusedState, []⟩ else ⟨resetAlarm s, .done, []⟩
  else ⟨s, .refusedState, []⟩

end Sys2Proof.Machine
end

