-- ==== Sys2Proof/Machine/Zones.lean ====
section
/-! DEFINITION. ZMN's commands and reports (chapter 5): SUPPRESS, the reports and the loss of a zone
interface unit, the end of a window, GET ZONES; and GET ALARM (R117), which reads ZMN. -/

namespace Sys2Proof.Machine

/-! ### SUPPRESS (R85 to R90) -/

/-- The numbers of a list, each at its first place (R85). -/
def dedupe : List Nat → List Nat
  | [] => []
  | x :: rest => x :: (dedupe rest).filter fun y => y != x

/-- The budget of a zone in ms less its budget-used count (R87). -/
def budgetLeft (s : State) (r : Zone) : Nat := (budgetOf s r.number - usedOf s r.number) * 1000

/-- The remaining budget of a zone in ms (R88, R100): with a window, less the time that it has run. -/
def remainingBudget (s : State) (r : Zone) : Nat :=
  budgetLeft s r -
    match r.window with
    | some w => s.time - w.start
    | none => 0

/-- The kinds that hold no window (R86). -/
def ZoneKind.unsuppressed : ZoneKind → Bool
  | .heat | .manual | .sprinkler => true
  | .smoke | .flame => false

/-- The number of the first check of R86 that holds for a zone; none when the zone is taken. -/
def refusingCheck (s : State) (r : Zone) : Option Nat :=
  if !s.tbs.auth.locked then some 1
  else if s.phc.phase ≠ .act then some 2
  else if s.asc.stage ≠ .normal then some 3
  else if r.kind.unsuppressed then some 4
  else if maxWindowOf s r.number = 0 then some 5
  else if r.condition = .fire ∨ r.latch then some 6
  else if budgetLeft s r = 0 then some 7
  else none

/-- The outcome of one zone of a SUPPRESS (R89): FULL or SHORTENED with the window's end in ms, or REFUSED
with the number of the check. -/
inductive SuppressOutcome where
  | full (finish : Nat)
  | shortened (finish : Nat)
  | refused (check : Nat)
  deriving DecidableEq, Repr

/-- The zone was taken. -/
def SuppressOutcome.taken : SuppressOutcome → Bool
  | .full _ | .shortened _ => true
  | .refused _ => false

/-- The zone was granted in full. -/
def SuppressOutcome.isFull : SuppressOutcome → Bool
  | .full _ => true
  | .shortened _ | .refused _ => false

/-- The length in ms of a new window (R87). -/
def grantedLength (s : State) (r : Zone) (d : Nat) : Nat :=
  min (d * 1000) (min (maxWindowOf s r.number * 1000) (remainingBudget s r))

/-- A window is opened (R87). -/
def openWindow (r : Zone) (d : Nat) (s : State) : State :=
  post .suppressionOpened r.number (some (grantedLength s r d / 1000))
    (modZone r.number
      (fun z => { z with
        window := some ⟨s.time, s.time + grantedLength s r d⟩, deferred := false }) s)

/-- The candidate end of a window that is extended (R88): the instant now + R of the budget is the window's
start plus the budget left at it. -/
def candidateEnd (s : State) (r : Zone) (w : Window) (d : Nat) : Nat :=
  min (s.time + d * 1000) (min (w.start + maxWindowOf s r.number * 1000) (w.start + budgetLeft s r))

/-- A window is extended when the candidate end is later than its end (R88). -/
def extendWindow (r : Zone) (w : Window) (d : Nat) (s : State) : State :=
  if w.finish < candidateEnd s r w d then
    post .suppressionOpened r.number (some ((candidateEnd s r w d - s.time) / 1000))
      (modZone r.number (fun z => { z with window := some ⟨w.start, candidateEnd s r w d⟩ }) s)
  else s

/-- FULL when the end is the end asked for and the duration was not clamped, SHORTENED otherwise (R87,
R88). -/
def outcomeAt (asked finish : Nat) (clamped : Bool) : SuppressOutcome :=
  if finish = asked ∧ clamped = false then .full finish else .shortened finish

/-- One zone of a SUPPRESS with a duration above 0 (R86 to R88). -/
def suppressZone (z d : Nat) (clamped : Bool) (s : State) : State × SuppressOutcome :=
  match findZone s z with
  | none => (s, .refused 0)
  | some r =>
    match refusingCheck s r with
    | some k => (s, .refused k)
    | none =>
      match r.window with
      | none =>
        (openWindow r d s, outcomeAt (s.time + d * 1000) (s.time + grantedLength s r d) clamped)
      | some w =>
        (extendWindow r w d s,
          if w.finish < candidateEnd s r w d then
            outcomeAt (s.time + d * 1000) (candidateEnd s r w d) clamped
          else .shortened w.finish)

/-- The zones of a SUPPRESS in list order (R85). -/
def suppressZones (zs : List Nat) (d : Nat) (clamped : Bool) (s : State) :
    State × List (Nat × SuppressOutcome) :=
  zs.foldl
    (fun acc z =>
      let r := suppressZone z d clamped acc.1
      (r.1, acc.2 ++ [(z, r.2)]))
    (s, [])

/-- The result of a SUPPRESS with a duration above 0 (R89). -/
def suppressResult (os : List SuppressOutcome) : Result :=
  if os.all SuppressOutcome.isFull then .done
  else if os.all SuppressOutcome.taken then .clamped
  else if os.any SuppressOutcome.taken then .partly
  else .refusedState

/-- The reply's item for one zone (R89): number, FULL 1, SHORTENED 2 or REFUSED 3, and the end in s or the
check. -/
def outcomeBytes (o : Nat × SuppressOutcome) : List Byte :=
  enc1 o.1 ++ match o.2 with
    | .full f => enc1 1 ++ encSeconds f
    | .shortened f => enc1 2 ++ encSeconds f
    | .refused k => enc1 3 ++ enc1 k

/-- SUPPRESS with a duration of 0 (R90): the windows of the zones are closed in list order, with the
charges. A zone whose window R94 has closed, because an earlier zone of the list took the stage out of NORMAL, has none
to close and no charge. DESIGN CHOICE (log entry 52), unsafe. -/
def closeListed (zs : List Nat) (s : State) : State × List (Option Nat) :=
  zs.foldl (fun acc z => (closeWindow z acc.1, acc.2 ++ [(closeBegin z acc.1).charge])) (s, [])

/-- SUPPRESS of a zone list and a duration in s (R85). -/
def suppressAt (list : List Nat) (d : Nat) (s : State) : Answer :=
  if list.isEmpty || 8 < list.length || !(list.all (within 1 64)) then ⟨s, .badArgument, []⟩
  else if !(list.all fun z => (findZone s z).isSome) then ⟨s, .badArgument, []⟩
  else if d = 0 then
    let r := closeListed (dedupe list) s
    ⟨r.1, .done, encList (encOpt s.fresh 2 2 enc2) r.2⟩
  else
    let r := suppressZones (dedupe list) (min d 600) (decide (600 < d)) s
    ⟨r.1, suppressResult (r.2.map (·.2)), encList outcomeBytes r.2⟩

/-- SUPPRESS (R85). -/
def suppressCmd (p : List Byte) (s : State) : Answer :=
  match readSuppress p with
  | none => ⟨s, .badArgument, []⟩
  | some (zs, d) => suppressAt zs d s

/-! ### Reports (R78, R80, R81, R92) -/

/-- The event of a change of condition (R80). -/
def conditionEvent (before after : Condition) : Option Event :=
  match after with
  | .prealarm => some .zonePrealarm
  | .fault => some .zoneFault
  | .isolated => some .zoneIsolated
  | .lost => some .zoneLost
  | .normal => if before = .unknown then none else some .zoneNormal
  | .unknown | .fire => none

/-- The event of a change of condition is posted (R80). -/
def postCondition (z : Nat) (before after : Condition) (s : State) : State :=
  if before = after then s
  else match conditionEvent before after with
    | some e => post e z (some before.code) s
    | none => s

/-- A zone goes into PREALARM: ASC records it (R81, R106). -/
def notePrealarm (z : Nat) (before after : Condition) (s : State) : State :=
  if after = .prealarm ∧ before ≠ .prealarm then s.setAsc { s.asc with lastPre := some (z, s.time) } else s

/-- Step 3 of a report, when it is FIRE (R78, R92): latched and handed to ASC, or deferred. -/
def reportFire (r : Zone) (s : State) : State :=
  match r.window with
  | none => if r.latch then s else takeFire (fireOf r s) (latchZone r s)
  | some _ =>
    if r.deferred then s
    else post .fireDeferred r.number none (modZone r.number (fun z => { z with deferred := true }) s)

/-- A report other than FIRE clears a deferred-fire flag (R92). -/
def clearDeferred (r : Zone) (s : State) : State :=
  if r.deferred then
    post .deferredFireCleared r.number none (modZone r.number (fun z => { z with deferred := false }) s)
  else s

/-- One report on one zone (R78). -/
def zoneReport (r : Zone) (value : Nat) (s : State) : State :=
  let c := Condition.ofReport value
  let s1 := modZone r.number (fun z => { z with condition := c }) s
  let s2 := notePrealarm r.number r.condition c
    (postCondition r.number r.condition c (if c = .fire then reportFire r s1 else s1))
  if c = .fire then s2 else clearDeferred r s2

/-- The zone that an input of a unit carries. -/
def zoneAt (s : State) (unit input : Nat) : Option Zone :=
  s.zmn.zones.find? fun r => r.unit == unit && r.input == input

/-- The report of one input (R78). -/
def inputReport (unit input value : Nat) (s : State) : State :=
  match zoneAt s unit input with
  | some r => zoneReport r value s
  | none => s

/-- The eight reports of a good reply from a zone interface unit, in ascending input (R78). -/
def zoneReply (unit : Nat) (content : List Byte) (s : State) : State :=
  (List.range 8).foldl (fun s i => inputReport unit (i + 1) (at1 content i) s) s

/-- A zone of a lost unit goes to LOST (R82). -/
def loseZone (unit input : Nat) (s : State) : State :=
  match zoneAt s unit input with
  | some r =>
    postCondition r.number r.condition .lost (modZone r.number (fun z => { z with condition := .lost }) s)
  | none => s

/-- A zone interface unit is lost (R82). -/
def zoneUnitLost (unit : Nat) (s : State) : State :=
  (List.range 8).foldl (fun s i => loseZone unit (i + 1) s) s

/-! ### The end of a window (R91) -/

/-- The end timer of a zone's window is due. -/
def windowDue (s : State) (z : Nat) : Bool :=
  (((findZone s z).bind (·.window)).map fun w => decide (w.finish ≤ s.time)).getD false

/-- The window end expiry (R91); an expiry that is not due is not taken. DEDUCED (log entry 17), safe. -/
def windowExpire (z : Nat) (s : State) : State := if windowDue s z then closeWindow z s else s

/-! ### GET ZONES (R100) and GET ALARM (R117) -/

/-- The reply's items for one zone number (R100). -/
def zoneBytes (s : State) (n : Nat) : List Byte :=
  match findZone s n with
  | none => encYes false ++ enc2 (usedOf s n)
  | some r =>
    encYes true ++ enc1 r.kind.code ++ enc1 r.unit ++ enc1 r.input ++ enc1 r.group ++
    enc1 r.condition.code ++ encChoice r.latch ++ encChoice r.deferred ++
    (match r.window with
      | some w => encYes true ++ enc4 (s.time - w.start) ++ enc4 (w.finish - s.time)
      | none => encYes false) ++
    enc2 (maxWindowOf s n) ++ enc2 (budgetOf s n) ++ enc2 (usedOf s n) ++ enc2 (remainingBudget s r / 1000)

/-- GET ZONES (R100). -/
def getZonesCmd (p : List Byte) (s : State) : Answer :=
  match readPair p with
  | none => ⟨s, .badArgument, []⟩
  | some (first, count) =>
    if 1 ≤ first ∧ first ≤ 64 ∧ 1 ≤ count ∧ count ≤ 16 ∧ first + count ≤ 65 then
      ⟨s, .done, ((List.range count).map fun i => zoneBytes s (first + i)).flatten⟩
    else ⟨s, .badArgument, []⟩

/-- The remaining time in ms of the timer that runs (R117). -/
def timerRemaining (s : State) : Option Nat :=
  match s.asc.ackExpiry with
  | some e => some (e - s.time)
  | none => s.asc.invExpiry.map fun e => e - s.time

/-- The reply's items for one group (R117): its state, its due or start time, its start cause. -/
def groupBytes (s : State) (g : Nat) : List Byte :=
  match groupState s g with
  | .clear => enc1 0 ++ unstated s.fresh (20 + g) 4 ++ unstated s.fresh (30 + g) 1
  | .pending d => enc1 1 ++ encSeconds d ++ unstated s.fresh (30 + g) 1
  | .evacuating t c => enc1 2 ++ encSeconds t ++ enc1 c.code

/-- GET ALARM (R117). -/
def getAlarmCmd (p : List Byte) (s : State) : Answer :=
  if !p.isEmpty then ⟨s, .badArgument, []⟩
  else
    ⟨s, .done,
      enc1 s.asc.stage.code ++ encOpt s.fresh 10 1 (fun x : InvStep => enc1 x.code) s.asc.invStep ++
      encOpt s.fresh 11 1 enc1 s.asc.zone ++ encOpt s.fresh 12 1 enc1 s.asc.group ++ encYes s.asc.general ++
      encSeconds s.asc.stageStart ++ encOpt s.fresh 13 4 encSeconds s.asc.evacStart ++
      encOpt s.fresh 14 4 enc4 (timerRemaining s) ++ encChoice s.asc.showStop ++
      encOpt s.fresh 15 5 (fun x : Nat × Nat => enc1 x.1 ++ encSeconds x.2) s.asc.lastPre ++
      enc1 (s.zmn.zones.countP (·.latch)) ++ enc1 (s.zmn.zones.countP fun r => r.condition == .fire) ++
      ((List.range 7).map (groupBytes s)).flatten⟩

end Sys2Proof.Machine
end

