-- ==== Sys2Proof/Machine/Show.lean ====
section
/-! DEFINITION. PHC (chapter 1): SET PHASE with its checks in order, the transition with the effects on the
other blocks (R4 to R12), and GET SHOW. The forced entry of R13 stands with ALARM RESET. -/

namespace Sys2Proof.Machine

/-- The allowed transitions (R3); DARK to DARK is treated before (R2). -/
def allowed : Phase → Phase → Bool
  | .dark, .preshow => true
  | .preshow, .houseOpen | .preshow, .dark => true
  | .houseOpen, .act | .houseOpen, .dark => true
  | .act, .interval | .act, .houseClear | .act, .dark => true
  | .interval, .act | .interval, .dark => true
  | .houseClear, .dark => true
  | _, _ => false

/-- The show record in the form that GET SHOW returns (R15). -/
def showBytes (s : State) : List Byte :=
  enc1 s.phc.phase.code ++ enc2 s.phc.performance ++ enc1 s.phc.act ++ enc1 s.phc.interval ++
    encSeconds s.phc.start ++ encSeconds (s.time - s.phc.start)

/-- The demonstration has not passed (R8). -/
def notPassed (s : State) : Bool := s.ctc.demo.state != .passed

/-- The entry to ACT is refused by the act limit or the demonstration (R7, R8). -/
def actRefused (s : State) : Bool :=
  s.phc.act == 9 || (s.phc.act == 0 && notPassed s && s.tbs.auth.demoRule == .enforce)

/-- The interval length fixed at an entry to INTERVAL (R9), from the Schedule Table that is active before a
commit that completes in the same entry. DESIGN CHOICE (log entry 45), unsafe. -/
def intervalLength (s : State) : Option Nat → Nat
  | some m => clampTo 5 60 m
  | none => defaultInterval s.tbs.active.schedule

/-- The show record after a transition (R4 to R11). -/
def enteredRecord (s : State) (new : Phase) (minutes : Option Nat) : ShowRecord :=
  { phase := new
    performance := if new = .preshow then (s.phc.performance + 1) % 65536 else s.phc.performance
    act := if new = .preshow then 0 else if new = .act then s.phc.act + 1 else s.phc.act
    interval := if new = .interval then intervalLength s minutes else s.phc.interval
    start := s.time }

/-- The exit effects (R12): windows closed on leaving ACT, the list emptied on leaving INTERVAL. -/
def exitPhase (old : Phase) (s : State) : State :=
  match old with
  | .act => closeAllWindows s
  | .interval => clearSchedule s
  | .dark | .preshow | .houseOpen | .houseClear => s

/-- The entry effects, but for the fill of the scheduled-call list (R5, R6, R11, R45). -/
def enterPhase (new : Phase) (s : State) : State :=
  match new with
  | .dark => markIdle s
  | .preshow => curtainsPreshow (budgetsPreshow s)
  | .houseOpen => rebuildIfSending s
  | .act | .interval | .houseClear => s

/-- The fill of the scheduled-call list, after TBS has re-examined a pending commit (R4, R155). -/
def fillPhase (new : Phase) (s : State) : State := if new = .interval then fillSchedule s else s

/-- DEMONSTRATION MISSED at the entry to the first act under WARN (R8). -/
def missed (s : State) (new : Phase) : Bool :=
  new == .act && s.phc.act == 0 && notPassed s && s.tbs.auth.demoRule == .warn

/-- PHC takes a transition (R4). DEMONSTRATION MISSED stands after PHASE ENTERED (R8). DESIGN CHOICE (log entry 6),
unsafe. -/
def transition (new : Phase) (minutes : Option Nat) (s : State) : State :=
  let record := enteredRecord s new minutes
  let s1 := fillPhase new (reexamine (enterPhase new (exitPhase s.phc.phase (s.setPhc record))))
  let s2 := post .phaseEntered record.act (some new.code) s1
  if missed s new then post .demonstrationMissed 1 none s2 else s2

/-- The interval length given was clamped (R9). -/
def minutesClamped (new : Phase) (minutes : Option Nat) : Bool :=
  new == .interval && (minutes.map fun m => decide (clampTo 5 60 m ≠ m)).getD false

/-- SET PHASE of a phase code and an optional interval length: the checks of R2 in order. The payload is
added by the caller. -/
def setPhaseAt (code : Nat) (minutes : Option Nat) (s : State) : Answer :=
  match Phase.ofCode code with
  | none => ⟨s, .badArgument, []⟩
  | some new =>
    if s.asc.stage ≠ .normal then ⟨s, .refusedState, []⟩
    else if new = .dark ∧ s.phc.phase = .dark then ⟨s, .done, []⟩
    else if !allowed s.phc.phase new then ⟨s, .refusedState, []⟩
    else if new = .act ∧ actRefused s then ⟨s, .refusedState, []⟩
    else ⟨transition new minutes s, if minutesClamped new minutes then .clamped else .done, []⟩

/-- SET PHASE (R2): whatever the result, the reply carries the show record. The form is checked first.
DESIGN CHOICE (log entry 47), unsafe. -/
def setPhaseCmd (p : List Byte) (s : State) : Answer :=
  match readPhase p with
  | none => ⟨s, .badArgument, showBytes s⟩
  | some a =>
    let r := setPhaseAt a.code a.minutes s
    { r with payload := showBytes r.state }

/-- GET SHOW (R15). -/
def getShowCmd (p : List Byte) (s : State) : Answer :=
  if !p.isEmpty then ⟨s, .badArgument, []⟩ else ⟨s, .done, showBytes s⟩

end Sys2Proof.Machine
end

