-- ==== Sys2Proof/Machine/Curtains.lean ====
section
/-! DEFINITION. CTC (chapter 7): the reply of a drive unit in its five steps (R124), the commands, the
timers and GET CURTAINS. Each change of a curtain's state or ownership is followed by TBS's
re-examination of a pending commit. -/

namespace Sys2Proof.Machine

/-! ### The reply (R123) -/

/-- The motion that a drive unit reports. -/
inductive DriveMotion where
  | still | up | down | falling
  deriving DecidableEq, Repr

/-- A drive unit's reply (R123). -/
structure DriveReply where
  position : Nat
  motion : DriveMotion
  upper : Bool
  lower : Bool
  obstruction : Bool
  hold : Bool
  released : Bool
  deriving DecidableEq, Repr

/-- The content of a drive unit's reply: position, two bytes; motion; limit byte (12.3). -/
def driveReplyOf (b : List Byte) : DriveReply :=
  let l := at1 b 3
  { position := at2 b 0
    motion := match at1 b 2 with | 0 => .still | 1 => .up | 2 => .down | _ => .falling
    upper := l.testBit 0
    lower := l.testBit 1
    obstruction := l.testBit 2
    hold := l.testBit 3
    released := l.testBit 4 }

/-- The reply shows a release (R125, R137). -/
def DriveReply.shows (r : DriveReply) : Bool := r.released || r.motion == .falling

/-- The state that the table of R125 gives for a reply. FALLING with neither limit has no row there: such a reply that
R137 does not take, since the release field is SENT, TAKEN or LOCAL already, leaves the state as it is. DEDUCED (log
entry 28), unsafe. -/
def DriveReply.confirmed (r : DriveReply) : Option CurtainState :=
  if r.upper && r.lower then some .fault
  else if r.lower then some .lowered
  else if r.upper then some .raised
  else match r.motion with
    | .up => some .raising
    | .down => some .lowering
    | .still => some .stopped
    | .falling => none

/-- Acts on the curtain of a drive unit, when it has one. -/
def withUnit (a : Nat) (f : Curtain → State → State) (s : State) : State :=
  match curtainOfUnit s a with
  | some c => f c s
  | none => s

/-! ### Step 1: position (R124) -/

/-- The position is recorded, and the progress time when it differs; what the reply shows of hold and
obstruction is kept for later. -/
def notePosition (r : DriveReply) (c : Curtain) (s : State) : State :=
  modCurtain c.number (fun c =>
    { c with
      position := r.position
      motion := c.motion.map fun m => if c.position = r.position then m else { m with progress := s.time }
      lastHold := r.hold
      lastObstruction := r.obstruction }) s

/-! ### Confirmation (R125) -/

/-- The state of a curtain that the table of R125 confirms, when its case holds. A reply that shows a
release not yet recorded is left to R137. -/
def confirmable (r : DriveReply) (c : Curtain) : Bool :=
  !(r.shows && c.release == .none) &&
    match c.state with
    | .unknown => c.release == .none
    | .raised | .lowered | .stopped | .raising | .lowering => c.ownership == .implicit && c.motion.isNone
    | .emergency | .fault => false

/-- An uncommanded motion (R125): RAISING or LOWERING under IMPLICIT, the hold request clear and no YIELD or
STOP outstanding. -/
def uncommanded (r : DriveReply) (c : Curtain) (x : CurtainState) : Bool :=
  (x == .raising || x == .lowering) && c.ownership == .implicit && !r.hold &&
    c.outstanding != some .yield && c.outstanding != some .stop

/-- The events of a confirmation: CURTAIN FOUND for an UNKNOWN curtain, CURTAIN LIMITS on both limits. A
curtain in FAULT is confirmed again under PENDANT alone, by every reply (R125, R133).
DEDUCED (log entry 26), unsafe. -/
def postConfirmed (c : Curtain) (x : CurtainState) (s : State) : State :=
  let s1 := if c.state = .unknown then post .curtainFound c.number (some x.code) s else s
  if x = .fault then post .curtainLimits c.number none s1 else s1

/-- Sets the state of a curtain. -/
def setCurtainState (n : Nat) (x : CurtainState) (s : State) : State :=
  modCurtain n (fun c => { c with state := x }) s

/-- The state is confirmed from the reply (R125). While the release field is SENT the STOP of an uncommanded motion is
not issued (R123), and CURTAIN UNCOMMANDED is posted at each reply that shows one. DESIGN CHOICE (log entry 54),
unsafe. -/
def confirmCurtain (r : DriveReply) (c : Curtain) (s : State) : State :=
  if confirmable r c then
    match r.confirmed with
    | none => s
    | some x =>
      let s1 := postConfirmed c x (setCurtainState c.number x s)
      if uncommanded r c x then
        post .curtainUncommanded c.number (some x.code) (issueDrive c.number .stop s1)
      else s1
  else s

/-! ### Step 2: acknowledgement -/

/-- LOWER acknowledged TAKEN: in the demonstration it starts the lowering (R141). -/
def lowerTaken (c : Curtain) (s : State) : State :=
  if demoRunsOn s c.number ∧ s.ctc.demo.state = .lowering then
    setDemo { s.ctc.demo with
      loweringStart := some s.time
      loweringExpiry := some (s.time + s.tbs.auth.descentLimit * 1000) } s
  else s

/-- LOWER or RAISE acknowledged REFUSED (R128, R142): the segment ends. DEMONSTRATION FAILED stands after CURTAIN
REFUSED. DESIGN CHOICE (log entry 6), unsafe. -/
def moveRefused (r : DriveReply) (cmd : DriveCmd) (c : Curtain) (s : State) : State :=
  let s1 := modCurtain c.number Curtain.endMotion s
  let s2 := withUnit c.unit (confirmCurtain r) s1
  let s3 := failDemo c.number .refused (post .curtainRefused c.number (some cmd.code) s2)
  if c.motion.isSome then segmentEnded c.number s3 else s3

/-- A descent record that starts now (R136, R137). -/
def descentNow (s : State) : Descent :=
  { start := s.time, expiry := s.time + s.tbs.auth.descentLimit * 1000 }

/-- RELEASE acknowledged TAKEN (R136). The descent record is set in every state: at a curtain that is LOWERED already, or
was confirmed in another state, the state is kept and no lower limit removes the record, so that CURTAIN LATE follows at
its expiry. DESIGN CHOICE (log entry 56), unsafe. -/
def releaseTaken (c : Curtain) (s : State) : State :=
  post .curtainReleased c.number (some c.position)
    (modCurtain c.number (fun c =>
      { c with
        release := .taken
        descent := some (descentNow s)
        state := if c.state = .unknown then .emergency else c.state }) s)

/-- RELEASE acknowledged REFUSED (R136): issued again, with the event at the first refusal. -/
def releaseRefused (c : Curtain) (s : State) : State :=
  let s1 := issueDrive c.number .release s
  if c.releaseRefused then s1
  else post .curtainReleaseRefused c.number none
    (modCurtain c.number (fun c => { c with releaseRefused := true }) s1)

/-- YIELD acknowledged TAKEN (R131, R133). -/
def yieldTaken (c : Curtain) (s : State) : State :=
  if c.ownership = .pendant then s
  else post .curtainOwnership c.number (some Ownership.pendant.code)
    (modCurtain c.number (fun c => { c with ownership := .pendant }) s)

/-- RESUME acknowledged TAKEN (R133). -/
def resumeTaken (c : Curtain) (s : State) : State :=
  post .curtainOwnership c.number (some Ownership.implicit.code)
    (modCurtain c.number (fun c => { c with ownership := .implicit }) s)

/-- The outstanding command is acknowledged (R124): with TAKEN when `taken`, REFUSED otherwise. A refused YIELD
posts CURTAIN REFUSED under PENDANT too. DEDUCED (log entry 26), unsafe. -/
def driveAnswered (r : DriveReply) (cmd : DriveCmd) (taken : Bool) (c : Curtain) (s : State) : State :=
  match cmd, taken with
  | .lower, true => lowerTaken c s
  | .raise, true => modCurtain c.number (fun c => { c with release := .none }) s
  | .stop, true => s
  | .release, true => releaseTaken c s
  | .yield, true => yieldTaken c s
  | .resume, true => resumeTaken c s
  | .lower, false => moveRefused r .lower c s
  | .raise, false => moveRefused r .raise c s
  | .stop, false =>
    post .curtainRefused c.number (some DriveCmd.stop.code) (setCurtainState c.number .fault s)
  | .release, false => releaseRefused c s
  | .yield, false => post .curtainRefused c.number (some DriveCmd.yield.code) s
  | .resume, false => s

/-- The acknowledgement that CTC heeds in a reply of drive unit `a`: one of the outstanding command. Any other is
ignored, in every step of the reply (R123). -/
def heededAck (a : Nat) (ack : Option (DriveCmd × Bool)) (s : State) : Option (DriveCmd × Bool) :=
  ack.filter fun x => ((curtainOfUnit s a).bind (·.outstanding)) == some x.1

/-- Step 2: the acknowledgement that is heeded removes the outstanding command and is taken (R123, R124). -/
def takeAck (r : DriveReply) (ack : Option (DriveCmd × Bool)) (c : Curtain) (s : State) : State :=
  match ack with
  | none => s
  | some (cmd, taken) =>
    driveAnswered r cmd taken c (modCurtain c.number (fun c => { c with outstanding := none }) s)

/-! ### Step 3: release (R137) -/

/-- The records of a local release. -/
def localRecord (r : DriveReply) (s : State) (c : Curtain) : Curtain :=
  { c.endMotion with
    release := .localRelease
    latch := some .localRelease
    holdWaiting := false
    releaseRefused := false
    state := if r.lower then .lowered else .emergency
    lastDescent := if r.lower then some 0 else c.lastDescent
    descent := if r.lower then c.descent else some (descentNow s) }

/-- A local release (R137). DEMONSTRATION FAILED stands after CURTAIN LOCAL RELEASE and before CURTAIN DOWN.
DESIGN CHOICE (log entry 6), unsafe. -/
def localRelease (r : DriveReply) (c : Curtain) (s : State) : State :=
  let s1 := post .curtainLocalRelease c.number (some c.position) (modCurtain c.number (localRecord r s) s)
  let s2 := if c.motion.isSome || c.moving then issueDrive c.number .stop s1 else s1
  let s3 := failDemo c.number .localRelease s2
  if r.lower then post .curtainDown c.number (some 0) s3 else s3

/-- Step 3: the released indication and FALLING while the release field is NONE (R137). -/
def takeRelease (r : DriveReply) (c : Curtain) (s : State) : State :=
  if r.shows ∧ c.release = .none then localRelease r c s else s

/-! ### Step 4: state -/

/-- A plain segment ends at its limit (R128). -/
def segmentLimit (x : CurtainState) (c : Curtain) (s : State) : State :=
  segmentEnded c.number
    (post .curtainMoved c.number (some x.code)
      (modCurtain c.number (fun c => { c.endMotion with state := x }) s))

/-- An obstruction ends a lowering segment (R129, R142). DEMONSTRATION FAILED stands after CURTAIN OBSTRUCTED, and
the hold that waits is examined last. DESIGN CHOICE (log entry 6), unsafe. -/
def segmentObstructed (c : Curtain) (s : State) : State :=
  segmentEnded c.number
    (failDemo c.number .obstruction
      (post .curtainObstructed c.number (some c.position)
        (modCurtain c.number (fun c => { c.endMotion with state := .stopped })
          (issueDrive c.number .stop s))))

/-- The lower limit is reached in the demonstration (R141). The lowering time is absent without a lowering start.
DEDUCED (log entry 28), unsafe. -/
def demoLowered (c : Curtain) (s : State) : State :=
  setDemo { s.ctc.demo with
      state := .dwell
      loweringTime := s.ctc.demo.loweringStart.map fun t => s.time - t
      loweringStart := none
      loweringExpiry := none
      dwellExpiry := some (s.time + 5000) }
    (setCurtainState c.number .lowered s)

/-- The upper limit is reached in the demonstration (R141). DEMONSTRATION PASSED has no argument when no lowering time
stands, the lower limit having been reached before LOWER was acknowledged. DEDUCED (log entry 28), unsafe. -/
def demoPassed (c : Curtain) (s : State) : State :=
  segmentEnded c.number
    (post .demonstrationPassed c.number (s.ctc.demo.loweringTime.map fun t => t / 100)
      (setDemo { s.ctc.demo with state := .passed }
        (modCurtain c.number (fun c => { c.endMotion with state := .raised }) s)))

/-- A reply during a segment (R128, R129, R141). In DWELL neither limits nor obstructions are acted on.
DEDUCED (log entry 28), unsafe. -/
def segmentReply (r : DriveReply) (m : Motion) (c : Curtain) (s : State) : State :=
  if demoRunsOn s c.number then
    match s.ctc.demo.state with
    | .lowering =>
      if r.lower then demoLowered c s else if r.obstruction then segmentObstructed c s else s
    | .raising => if r.upper then demoPassed c s else s
    | .dwell | .notDone | .passed | .failed => s
  else if m.up then (if r.upper then segmentLimit .raised c s else s)
  else if r.lower then segmentLimit .lowered c s
  else if r.obstruction then segmentObstructed c s
  else s

/-- The descent time in ms when the lower limit is reached (R136); free without a descent record (log
entry 10). -/
def descentTimeOf (c : Curtain) (s : State) : Nat :=
  match c.descent with
  | some d => s.time - d.start
  | none => Config.descentTime s.fresh

/-- The lower limit ends a descent (R136). -/
def descentDown (c : Curtain) (s : State) : State :=
  let t := descentTimeOf c s
  post .curtainDown c.number (some (t / 100))
    ((modCurtain c.number (fun c =>
      { c with state := .lowered, lastDescent := some t, descent := none }) s).setFresh (s.fresh + 1))

/-- A reply during a descent, or to an UNKNOWN curtain that has released (R136, R143); `before`: the previous
reply showed the obstruction. The lower limit ends the descent, and an obstruction in that reply is not
posted. DEDUCED (log entry 26), unsafe. -/
def descentReply (r : DriveReply) (before : Bool) (c : Curtain) (s : State) : State :=
  if r.lower then descentDown c s
  else
    let s1 := setCurtainState c.number .emergency s
    if r.obstruction && !before then postAt 6 .curtainObstructed c.number (some c.position) s1 else s1

/-- A reply under PENDANT (R133). CURTAIN FOUND and CURTAIN LIMITS, from the table, stand before CURTAIN OBSTRUCTED of
the same reply. DESIGN CHOICE (log entry 6), unsafe. -/
def pendantReply (r : DriveReply) (before : Bool) (c : Curtain) (s : State) : State :=
  let s1 := match r.confirmed with
    | some x => postConfirmed c x (setCurtainState c.number x s)
    | none => s
  if r.obstruction && !before then post .curtainObstructed c.number (some c.position) s1 else s1

/-- The curtain is in a descent, or UNKNOWN after a release that was taken or local (R136, R143). -/
def Curtain.descending (c : Curtain) : Bool :=
  c.state == .emergency ||
    (c.state == .unknown && (c.release == .taken || c.release == .localRelease))

/-- A first obstruction while RELEASE is on its way to an UNKNOWN curtain: posted at level 5 under PENDANT
(R133); the state is left to the release (R125, R136). -/
def sentReply (r : DriveReply) (before : Bool) (c : Curtain) (s : State) : State :=
  if c.ownership = .pendant ∧ r.obstruction ∧ !before then
    post .curtainObstructed c.number (some c.position) s
  else s

/-- Step 4: the state is advanced under the rule for the state in force. -/
def takeState (r : DriveReply) (before : Bool) (c : Curtain) (s : State) : State :=
  if c.descending then descentReply r before c s
  else if c.state = .unknown ∧ c.release = .sent then sentReply r before c s
  else match c.motion with
    | some m => segmentReply r m c s
    | none => if c.ownership = .pendant then pendantReply r before c s else confirmCurtain r c s

/-! ### Step 5: hold request (R131 to R133) -/

/-- The outstanding YIELD or RESUME was refused in this reply; the next reply issues it again (R131, R133).
DEDUCED (log entry 28), unsafe. -/
def refusedNow (cmd : DriveCmd) (ack : Option (DriveCmd × Bool)) : Bool := ack == some (cmd, false)

/-- Step 5. DEDUCED (log entry 27), unsafe. -/
def takeHold (r : DriveReply) (ack : Option (DriveCmd × Bool)) (c : Curtain) (s : State) : State :=
  match c.ownership, r.hold with
  | .implicit, true => if refusedNow .yield ack then s else yieldIfHeld c.number s
  | .implicit, false => s
  | .explicit, true => modCurtain c.number (fun c => { c with holdWaiting := true }) s
  | .explicit, false => s
  | .pendant, true => if c.outstanding = some .resume then issueDrive c.number .yield s else s
  | .pendant, false =>
    if c.outstanding = some .resume ∨ c.outstanding = some .yield ∨ refusedNow .resume ack then s
    else issueDrive c.number .resume s

/-- A good reply from drive unit `a`, in the five steps of R124. TBS re-examines at the end of a step: COMMIT DONE
stands after the step's own event (CURTAIN MOVED, CURTAIN OWNERSHIP, DEMONSTRATION PASSED), and a YIELD that was
held is issued before it. DESIGN CHOICE (log entry 6), unsafe. -/
def driveReply (a : Nat) (r : DriveReply) (ack : Option (DriveCmd × Bool)) (s : State) : State :=
  let before := ((curtainOfUnit s a).map (·.lastObstruction)).getD false
  let heeded := heededAck a ack s
  let s1 := withUnit a (notePosition r) s
  let s2 := reexamine (withUnit a (takeAck r heeded) s1)
  let s3 := reexamine (withUnit a (takeRelease r) s2)
  let s4 := reexamine (withUnit a (takeState r before) s3)
  withUnit a (takeHold r heeded) s4

/-- The loss of drive unit `a` (R143). -/
def driveUnitLost (a : Nat) (s : State) : State := reexamine (curtainLost a s)

/-! ### CURTAIN MOVE (R126, R127) -/

/-- A segment begins (R127). -/
def startSegment (n : Nat) (up : Bool) (s : State) : State :=
  modCurtain n (fun c =>
    { c with
      ownership := .explicit
      motion := some ⟨up, s.time, s.time⟩
      state := if up then .raising else .lowering })
    (issueDrive n (if up then .raise else .lower) s)

/-- A segment is stopped: STOP, STOPPED, IMPLICIT, and the segment has ended (R127). -/
def stopSegment (n : Nat) (s : State) : State :=
  segmentEnded n (modCurtain n (fun c => { c.endMotion with state := .stopped }) (issueDrive n .stop s))

/-- LOWER or RAISE taken (R127). -/
def moveTaken (c : Curtain) (up : Bool) (s : State) : Answer :=
  if c.state = (if up then .raised else .lowered) then ⟨s, .done, []⟩
  else if (c.motion.map (·.up)) = some up then ⟨s, .accepted, []⟩
  else ⟨reexamine (startSegment c.number up s), .accepted, []⟩

/-- STOP taken (R127). -/
def stopTaken (c : Curtain) (s : State) : Answer :=
  if c.motion.isSome then ⟨reexamine (stopSegment c.number s), .done, []⟩ else ⟨s, .done, []⟩

/-- Checks 2 to 4 of R126. -/
def moveRefusedBy (s : State) (c : Curtain) : Bool :=
  c.ownership == .pendant || c.outstanding == some .yield || demoRunsOn s c.number ||
    c.state == .unknown || c.state == .emergency || c.release == .sent

/-- CURTAIN MOVE of a curtain number and a motion, LOWER 1, RAISE 2 or STOP 3 (R126). -/
def curtainMoveAt (number motion : Nat) (s : State) : Answer :=
  match findCurtain s number with
  | none => ⟨s, .badArgument, []⟩
  | some c =>
    if !within 1 3 motion || !within 1 4 number then ⟨s, .badArgument, []⟩
    else if moveRefusedBy s c then ⟨s, .refusedState, []⟩
    else if motion = 2 ∧ (c.latch.isSome ∨ s.asc.stage ≠ .normal) then ⟨s, .refusedState, []⟩
    else if motion = 3 then stopTaken c s
    else moveTaken c (motion == 2) s

/-- CURTAIN MOVE (R126). The form is checked first. DESIGN CHOICE (log entry 47), unsafe. -/
def curtainMoveCmd (p : List Byte) (s : State) : Answer :=
  match readPair p with
  | none => ⟨s, .badArgument, []⟩
  | some (number, motion) => curtainMoveAt number motion s

/-! ### CLEAR LATCH (R139) -/

/-- CLEAR LATCH of a curtain number, received with the key on (R139). -/
def clearLatchAt (number : Nat) (s : State) : Answer :=
  match findCurtain s number with
  | none => ⟨s, .badArgument, []⟩
  | some c =>
    if !within 1 4 number then ⟨s, .badArgument, []⟩
    else if s.asc.stage ≠ .normal then ⟨s, .refusedState, []⟩
    else if c.state = .unknown ∨ c.state = .emergency then ⟨s, .refusedState, []⟩
    else match c.latch with
      | none => ⟨s, .done, []⟩
      | some cause =>
        ⟨post .latchCleared number (some cause.code)
          (modCurtain number (fun c => { c with latch := none }) s), .done, []⟩

/-- CLEAR LATCH (R139). The form is checked first. DESIGN CHOICE (log entry 47), unsafe. -/
def clearLatchCmd (p : List Byte) (s : State) : Answer :=
  match readOne p with
  | none => ⟨s, .badArgument, []⟩
  | some number => clearLatchAt number s

/-! ### DEMONSTRATE (R140) -/

/-- Check 2 of R140. -/
def demoRefused (s : State) : Bool :=
  !(s.phc.phase == .houseOpen || s.phc.phase == .interval) || s.asc.stage != .normal ||
    s.ctc.demo.running || s.ctc.demo.state == .passed

/-- Check 3 of R140. -/
def demoCurtainRefused (c : Curtain) : Bool :=
  c.state != .raised || c.latch.isSome || c.ownership != .implicit || c.outstanding == some .yield ||
    c.holdWaiting

/-- The demonstration starts (R140). With the release field SENT the LOWER is not issued (R123), and the rest of R140
happens. DESIGN CHOICE (log entry 54), unsafe. -/
def startDemo (n : Nat) (s : State) : State :=
  setDemo { s.ctc.demo with
    state := .lowering, failure := none, loweringStart := none, loweringExpiry := none, dwellExpiry := none }
    (startSegment n false s)

/-- DEMONSTRATE (R140). The form is checked before phase and stage. DESIGN CHOICE (log entry 47), unsafe. -/
def demonstrateCmd (p : List Byte) (s : State) : Answer :=
  if !p.isEmpty then ⟨s, .badArgument, []⟩
  else match demoCurtain s with
    | none => ⟨s, .badArgument, []⟩
    | some c =>
      if demoRefused s then ⟨s, .refusedState, []⟩
      else if demoCurtainRefused c then ⟨s, .refusedState, []⟩
      else ⟨reexamine (startDemo c.number s), .accepted, []⟩

/-! ### Timers (R130, R136, R141, R142) -/

/-- The stall timer of a curtain is due (R130); it is suspended in DWELL (R141). -/
def stallDue (s : State) (c : Curtain) : Bool :=
  !(demoRunsOn s c.number && s.ctc.demo.state == .dwell) &&
    (c.motion.map fun m => decide (m.progress + 3000 ≤ s.time)).getD false

/-- The stall timer expires (R130, R142). DEMONSTRATION FAILED stands after CURTAIN STALLED. DESIGN CHOICE (log
entry 6), unsafe. -/
def stallTaken (c : Curtain) (s : State) : State :=
  reexamine (segmentEnded c.number
    (failDemo c.number .stall
      (post .curtainStalled c.number (some c.position)
        (modCurtain c.number (fun c => { c.endMotion with state := .fault })
          (issueDrive c.number .stop s)))))

/-- The stall expiry of a curtain number; an expiry that is not due is not taken. -/
def stallExpire (n : Nat) (s : State) : State :=
  match findCurtain s n with
  | some c => if stallDue s c then stallTaken c s else s
  | none => s

/-- The descent limit of a curtain is due (R136). -/
def descentDue (s : State) (c : Curtain) : Bool :=
  (c.descent.map fun d => !d.taken && decide (d.expiry ≤ s.time)).getD false

/-- The descent expiry of a curtain number (R136): taken once for each descent. -/
def descentExpire (n : Nat) (s : State) : State :=
  match findCurtain s n with
  | some c =>
    if descentDue s c then
      post .curtainLate n (some c.position)
        (modCurtain n (fun c => { c with descent := c.descent.map fun d => { d with taken := true } }) s)
    else s
  | none => s

/-- The dwell of the demonstration is due to end (R141). -/
def dwellDue (s : State) : Bool := s.ctc.demo.state == .dwell && due s.ctc.demo.dwellExpiry s.time

/-- The dwell expiry (R141). -/
def dwellExpire (s : State) : State :=
  match demoCurtain s with
  | some c =>
    if dwellDue s then
      reexamine (setDemo { s.ctc.demo with state := .raising, dwellExpiry := none }
        (startSegment c.number true s))
    else s
  | none => s

/-- The lowering limit of the demonstration is due (R142). -/
def loweringDue (s : State) : Bool := s.ctc.demo.state == .lowering && due s.ctc.demo.loweringExpiry s.time

/-- The lowering expiry (R142). -/
def loweringExpire (s : State) : State :=
  match demoCurtain s with
  | some c =>
    if loweringDue s then
      reexamine (segmentEnded c.number
        (failDemo c.number .overtime
          (modCurtain c.number (fun c => { c.endMotion with state := .stopped })
            (issueDrive c.number .stop s))))
    else s
  | none => s

/-! ### GET CURTAINS (R147) -/

/-- The reply's items for one curtain number (R147). -/
def curtainBytes (s : State) (n : Nat) : List Byte :=
  match findCurtain s n with
  | none => encYes false
  | some c =>
    encYes true ++ enc1 c.unit ++ enc1 (if c.proscenium then 1 else 2) ++ encYes c.demoFlag ++
    enc1 c.state.code ++ enc2 c.position ++ enc1 c.ownership.code ++
    encChoice c.latch.isSome ++ encOpt s.fresh (40 + n) 1 (fun x : LatchCause => enc1 x.code) c.latch ++
    encOpt s.fresh (45 + n) 1 (fun x : DriveCmd => enc1 x.code) c.outstanding ++
    enc1 c.release.code ++ encYes c.holdWaiting ++
    encOpt s.fresh (50 + n) 5 (fun d : Descent => enc4 (s.time - d.start) ++ encYes d.taken) c.descent ++
    encOpt s.fresh (55 + n) 4 enc4 c.lastDescent

/-- GET CURTAINS (R147). -/
def getCurtainsCmd (p : List Byte) (s : State) : Answer :=
  if !p.isEmpty then ⟨s, .badArgument, []⟩
  else
    ⟨s, .done,
      ([1, 2, 3, 4].map (curtainBytes s)).flatten ++ enc1 s.ctc.demo.state.code ++
      encOpt s.fresh 60 4 enc4 s.ctc.demo.loweringTime ++
      encOpt s.fresh 61 1 (fun x : DemoFailure => enc1 x.code) s.ctc.demo.failure⟩

end Sys2Proof.Machine
end

