-- ==== Sys2Proof/Machine/Calls.lean ====
section
/-! DEFINITION. CLC (chapter 8): CALL and CANCEL CALLS, the timers of the queue, the list and the channel,
the replies and the losses of the announcement unit and of the paging stations, and GET CALLS. -/

namespace Sys2Proof.Machine

/-! ### CALL (R153) -/

/-- The reply's payload of a call that was placed (R153). -/
def placedBytes (e : Call) (merged : Bool) : List Byte :=
  enc1 e.message ++ enc1 e.priority.code ++ encFoh e.zones ++ encYes merged

/-- A call with its zones and priority settled is placed (R153). DEDUCED (log entry 31), unsafe. -/
def callPlaced (message : Nat) (zones : FohSet) (priority : Priority) (origin : Origin) (s : State) : Answer :=
  let r := placeAndSelect (newCall s message zones priority origin) s
  match r.entry with
  | some e => ⟨r.state, .accepted, placedBytes e r.merged⟩
  | none => ⟨r.state, .busy, []⟩

/-- The priority of a call (R153): the one given, or the message's default; none for a code that is not
ROUTINE, SHOW or STAFF. -/
def callPriority (m : MessageEntry) (code : Nat) : Option Priority :=
  if code = 0 then some m.priority else Priority.ofCode code

/-- CALL (R153), from a command or from a cue. -/
def callAt (a : CallArgs) (origin : Origin) (s : State) : Answer :=
  match findMessage s.tbs.active.message a.message with
  | none => ⟨s, .badArgument, []⟩
  | some m =>
    match callPriority m a.priority with
    | none => ⟨s, .badArgument, []⟩
    | some p =>
      if a.zones.getD m.zones = 0 then ⟨s, .badArgument, []⟩
      else callPlaced a.message (a.zones.getD m.zones) p origin s

/-- CALL (R153). -/
def callCmd (p : List Byte) (s : State) : Answer :=
  match readCall p with
  | none => ⟨s, .badArgument, []⟩
  | some a => callAt a .command s

/-! ### CANCEL CALLS (R154) -/

/-- The channel plays a call of priority at most `p`. -/
def cancelsCurrent (s : State) (p : Nat) : Bool :=
  s.clc.channel == .playing && (s.clc.current.map fun c => decide (c.priority.code ≤ p)).getD false

/-- The queue entries that CANCEL CALLS removes. -/
def cancelled (s : State) (p : Nat) : List Call := s.clc.queue.filter fun c => c.priority.code ≤ p

/-- CANCEL CALLS up to a priority 1-3 (R154). DEDUCED (log entry 32), unsafe. Where it frees the channel, CALLS CANCELLED
stands before COMMIT DONE. DESIGN CHOICE (log entry 6), unsafe. -/
def cancelAt (p : Nat) (s : State) : State :=
  let n := (cancelled s p).length
  let s1 := setQueue (s.clc.queue.filter fun c => !decide (c.priority.code ≤ p)) s
  if cancelsCurrent s p then
    freed (post .callsCancelled 0 (some n) (dropCurrent (unitIssue (.stopPlay false) s1)))
  else if n = 0 then s1
  else post .callsCancelled 0 (some n) s1

/-- CANCEL CALLS (R154). -/
def cancelCallsCmd (payload : List Byte) (s : State) : Answer :=
  match readOne payload with
  | none => ⟨s, .badArgument, []⟩
  | some p =>
    if within 1 3 p then
      ⟨cancelAt p s, .done, enc1 (cancelled s p).length ++ encYes (cancelsCurrent s p)⟩
    else ⟨s, .badArgument, []⟩

/-! ### Timers (R152, R155, R159, R160) -/

/-- An entry of the queue whose expiry timer is due (R152). -/
def Call.expired (c : Call) (now : Nat) : Bool := due c.expiry now

/-- The expiry timer of the entry of a message and a priority code (R152). -/
def callExpire (message priority : Nat) (s : State) : State :=
  match s.clc.queue.find? (fun c => c.message == message && c.priority.code == priority && c.expired s.time) with
  | some c => post .callExpired c.message (some c.priority.code) (setQueue (s.clc.queue.erase c) s)
  | none => s

/-- The due timer of the scheduled-call list's entry of a source (R155). -/
def scheduleExpire (source : Nat) (s : State) : State :=
  match s.clc.sched.find? (fun e => e.source == source && decide (e.due ≤ (s.time : Int))) with
  | some e => takeScheduled e (s.setClc { s.clc with sched := s.clc.sched.erase e })
  | none => s

/-- The overrun expiry is due (R159). -/
def overrunDue (s : State) : Bool := s.clc.channel == .playing && due s.clc.overrun s.time

/-- The overrun expiry (R159). CALL OVERRUN stands before COMMIT DONE. DESIGN CHOICE (log entry 6), unsafe. -/
def overrunExpire (s : State) : State :=
  match s.clc.current with
  | some c =>
    if overrunDue s then
      freed (post .callOverrun c.message (some c.priority.code)
        (dropCurrent (unitIssue (.stopPlay false) s)))
    else s
  | none => s

/-- A page has ended, with its event: the channel is IDLE, or EVACUATION in EVACUATE (R160, R163). PAGE ENDED or PAGE
REVOKED stands before COMMIT DONE. DESIGN CHOICE (log entry 6), unsafe. -/
def afterPage (s : State) : State :=
  if s.clc.channel = .evacuation then resumeEvacuation s else freed s

/-- The page limit expiry is due (R160). -/
def pageLimitDue (s : State) : Bool := s.clc.channel == .paging && due s.clc.pageLimit s.time

/-- The page limit expiry (R160). -/
def pageLimitExpire (s : State) : State :=
  if pageLimitDue s then afterPage (endPage true .pageRevoked (fun _ => revokedLimit) s) else s

/-! ### The announcement unit (R159, R162, R163, R164) -/

/-- A reply of the announcement unit (R156): its activity, the part in progress, and whether it shows an
ended indication. -/
structure UnitReply where
  activity : Activity
  part : Nat
  ended : Bool
  deriving DecidableEq, Repr

/-- The content of the unit's reply (12.3). -/
def unitReplyOf (b : List Byte) : UnitReply :=
  { activity := match at1 b 0 with | 0 => .idle | 1 => .playing | _ => .pageOpen
    part := at1 b 1
    ended := at1 b 2 != 0 }

/-- The zone set of the request record of a station. -/
def requestZones (s : State) (station : Nat) : FohSet :=
  ((s.clc.requests.find? fun r => r.station == station).map (·.zones)).getD 0

/-- The unit answers again (R164): PRESENT, and what the channel state requires. Play taken and the overrun expiry go
with the PLAY that is issued again, after a rebuild as after a loss. DEDUCED (log entry 33), unsafe. -/
def announcerRegained (r : UnitReply) (s : State) : State :=
  let s1 := s.setClc { s.clc with announcer := .present, playTaken := false, overrun := none, cutTaken := false }
  match s1.clc.channel with
  | .playing => match s1.clc.current with
    | some c => unitIssue (playOf s1 c) s1
    | none => s1
  | .paging => match s1.clc.holder with
    | some (a, _) => unitIssue (.page a (requestZones s1 a)) s1
    | none => s1
  | .evacuation => issueEvacPlay s1
  | .idle =>
    select (match r.activity with
      | .playing => unitIssue (.stopPlay false) s1
      | .pageOpen => unitIssue .endPage s1
      | .idle => s1)

/-- The overrun time in ms of a message (R159). -/
def overrunTime (s : State) (m : Nat) : Nat :=
  ((findMessage s.tbs.active.message m).map fun e => e.parts * e.duration).getD 0 + 5000

/-- A cut pending is issued again (R164). -/
def recut (s : State) : State :=
  if s.clc.cut.isSome then
    (unitIssue (.stopPlay true) s).setClc { (unitIssue (.stopPlay true) s).clc with cutTaken := false }
  else s

/-- The PLAY of the current call is acknowledged TAKEN (R159), and a cut pending is issued again (R164). -/
def playIsTaken (c : Call) (s : State) : State :=
  recut (s.setClc { s.clc with playTaken := true, overrun := some (s.time + overrunTime s c.message) })

/-- The current call ends at an ended indication (R159). CALL ENDED or CALL CUT stands before CALLS CLEARED and
COMMIT DONE of a commit that the freed channel completes. DESIGN CHOICE (log entry 6), unsafe. -/
def callEnds (c : Call) (s : State) : State :=
  let s1 := dropCurrent s
  freed (match s.clc.cut with
    | none => post .callEnded c.message (some c.priority.code) s1
    | some why => post .callCut c.message (some why.code) s1)

/-- A reply while the channel is PLAYING (R159). CALL REFUSED stands before COMMIT DONE. DESIGN CHOICE (log entry 6),
unsafe. The acknowledgement of a reply is taken before its ended indication, so that a PLAY taken counts it, and with a
cut pending STOP AT PART END is issued again first. DEDUCED (log entry 33), unsafe. -/
def playingReply (r : UnitReply) (ack : Option (LoopCmd × Bool)) (c : Call) (s : State) : State :=
  match ack with
  | some (.play _ _ _ _, false) => freed (post .callRefused c.message (some c.priority.code) (dropCurrent s))
  | some (.play _ _ _ _, true) => if r.ended then callEnds c (playIsTaken c s) else playIsTaken c s
  | some _ | none => if r.ended ∧ s.clc.playTaken then callEnds c s else s

/-- The evacuation message that the Schedule Table names, 0 for none. -/
def evacMessage (s : State) : Nat :=
  ((scheduleEntry? s.tbs.active.schedule).map (·.evacMessage)).getD 0

/-- The unit refuses the evacuation PLAY (R162). -/
def evacPlayRefused (s : State) : State :=
  let s1 := issueEvacPlay s
  if s1.clc.evacRefused then s1
  else post .evacuationRefused (evacMessage s) none (s1.setClc { s1.clc with evacRefused := true })

/-- The acknowledgement in a reply while the channel is in EVACUATION (R162, R163). The evacuation PLAY is the
one with repeat; the PLAY of a discarded call has none and is not acted on. A STOP AT PART END that was TAKEN stands
through a PLAY that a group's start issues after it, so that the ended indications count from it (R163). A cut pending
whose STOP was not TAKEN is issued again, and a STOP that is REFUSED leaves the cut pending. DEDUCED (log entry 33),
unsafe. -/
def evacAck (ack : Option (LoopCmd × Bool)) (s : State) : State :=
  match ack with
  | some (.play _ _ _ true, false) => evacPlayRefused s
  | some (.play _ _ _ true, true) => if s.clc.cutTaken then s else recut s
  | some (.stopPlay true, true) => s.setClc { s.clc with cutTaken := s.clc.cut.isSome }
  | some _ | none => s

/-- The message has stopped for a FIRE page (R163): the waiting head is granted when its class is FIRE, and
otherwise the message is played again. -/
def evacCut (s : State) : State :=
  let s1 := s.setClc { s.clc with cut := none, cutTaken := false }
  match waitingHead s1 with
  | some q => if q.cls = .fire then grantPage q s1 else issueEvacPlay s1
  | none => issueEvacPlay s1

/-- A reply while the channel is in EVACUATION (R162, R163). -/
def evacReply (r : UnitReply) (ack : Option (LoopCmd × Bool)) (s : State) : State :=
  let s1 := evacAck ack s
  if r.ended ∧ s1.clc.cut.isSome ∧ s1.clc.cutTaken then evacCut s1 else s1

/-- A good reply of the announcement unit. The acknowledgement and the ended indication of the reply that
regains the unit belong to what was issued before (R164). DEDUCED (log entry 33), unsafe. -/
def announcerReply (r : UnitReply) (ack : Option (LoopCmd × Bool)) (s : State) : State :=
  let s1 := s.setClc { s.clc with unitReport := some (r.activity, r.part) }
  if s.clc.announcer ≠ .present then announcerRegained r s1
  else match s1.clc.channel, s1.clc.current with
    | .playing, some c => playingReply r ack c s1
    | .evacuation, _ => evacReply r ack s1
    | _, _ => s1

/-- The announcement unit is lost (R164). -/
def announcerLost (a : Nat) (s : State) : State :=
  post .announcerLost a none
    (s.setClc { s.clc with announcer := .lost, playTaken := false, overrun := none })

/-! ### Paging stations (R157, R160, R163) -/

/-- `a` stands before `b` in the request list: class, highest first, and then first seen (R157). -/
def Request.before (a b : Request) : Bool :=
  b.cls.code < a.cls.code || (a.cls == b.cls && a.firstSeen ≤ b.firstSeen)

/-- Adds a record at its place (R157). -/
def insertRequest (r : Request) : List Request → List Request
  | [] => [r]
  | x :: rest => if x.before r then x :: insertRequest r rest else r :: x :: rest

/-- An empty zone set in a request asks for every zone (R156). DEDUCED (log entry 34), unsafe. -/
def askedZones (z : FohSet) : FohSet := if z = 0 then BitVec.allOnes 16 else z

/-- The holder's class is below FIRE. -/
def holderBelowFire (s : State) : Bool := (s.clc.holder.map fun h => h.2 != .fire).getD false

/-- A request record was added, or rose in class (R157): the channel is chosen afresh, and a FIRE request is
taken. -/
def requestRose (cls : PageClass) (s : State) : State :=
  match s.clc.channel with
  | .idle => select s
  | .playing => if cls = .fire then cutCall .firePage s else s
  | .paging =>
    if cls = .fire ∧ holderBelowFire s then
      afterPage (endPage true .pageRevoked (fun _ => revokedPreempted) s)
    else s
  | .evacuation => if cls = .fire then fireInEvacuation s else s

/-- Replaces the request list. -/
def setRequests (rs : List Request) (s : State) : State := s.setClc { s.clc with requests := rs }

/-- The request record of a station. -/
def findRequest (s : State) (a : Nat) : Option Request := s.clc.requests.find? fun r => r.station == a

/-- A station shows a request (R157). -/
def requestShown (a : Nat) (cls : PageClass) (zones : FohSet) (s : State) : State :=
  match findRequest s a with
  | none =>
    if s.clc.owing.contains a then s
    else
      requestRose cls
        (setRequests (insertRequest ⟨a, cls, askedZones zones, s.time, .waiting⟩ s.clc.requests) s)
  | some r =>
    match r.state with
    | .granted | .revoked => s
    | .waiting =>
      let s1 := setRequests
        (insertRequest { r with cls := cls, zones := askedZones zones } (s.clc.requests.erase r)) s
      if r.cls.code < cls.code then requestRose cls s1 else s1

/-- The record of a station is removed, and a page that it held ends (R157, R160). -/
def requestGone (a : Nat) (s : State) : State :=
  let held := (s.clc.holder.map fun h => h.1 == a).getD false
  let s1 := if held then endPage false .pageEnded id s else s
  let s2 := setRequests (s1.clc.requests.filter fun r => r.station != a) s1
  if held then afterPage s2 else s2

/-- A station that held a page at a warm restart is issued REVOKE at its first reply (R166). -/
def owedRevoke (a : Nat) (s : State) : State :=
  if s.clc.revokeOwed.contains a then
    issue a .revoke (s.setClc { s.clc with revokeOwed := s.clc.revokeOwed.filter fun x => x != a })
  else s

/-- A good reply of a paging station (R157). -/
def pagingReply (a : Nat) (cls : Option PageClass) (zones : FohSet) (s : State) : State :=
  let s1 := owedRevoke a s
  match cls with
  | some k =>
    requestShown a k zones
      (s1.setClc { s1.clc with showing := a :: s1.clc.showing.filter fun x => x != a })
  | none =>
    requestGone a
      (s1.setClc { s1.clc with
        showing := s1.clc.showing.filter fun x => x != a
        owing := s1.clc.owing.filter fun x => x != a })

/-- A paging station is lost (R157). -/
def pagingLost (a : Nat) (s : State) : State := requestGone a s

/-! ### GET CALLS (R167) -/

/-- The fields given in PLAYING (R148, R167). -/
def playingBytes (s : State) : List Byte :=
  match s.clc.channel, s.clc.current with
  | .playing, some c =>
    enc1 c.message ++ enc1 (messageKind s c.message) ++ enc1 c.priority.code ++ encFoh c.zones ++
      encYes s.clc.playTaken ++
      encOpt s.fresh 72 4 (fun e => enc4 (e - s.time)) s.clc.overrun
  | _, _ => []

/-- The fields given in PAGING (R167). -/
def pagingBytes (s : State) : List Byte :=
  match s.clc.channel, s.clc.holder with
  | .paging, some (a, cls) =>
    enc1 a ++ enc1 cls.code ++ encOpt s.fresh 73 4 (fun e => enc4 (e - s.time)) s.clc.pageLimit
  | _, _ => []

/-- A queue entry in GET CALLS (R148, R167). -/
def callBytes (s : State) (c : Call) : List Byte :=
  enc1 c.message ++ enc1 (messageKind s c.message) ++ enc1 c.priority.code ++ enc1 c.origin.code ++
    encFoh c.zones ++ encSeconds c.enqueued ++ encOpt s.fresh 74 4 encSeconds c.expiry

/-- An entry of the scheduled-call list in GET CALLS (R148, R167). -/
def scheduledBytes (s : State) (e : Scheduled) : List Byte :=
  enc1 e.source ++ enc1 e.message ++ enc1 (messageKind s e.message) ++ encSeconds e.due.toNat

/-- A paging request record in GET CALLS (R167). -/
def requestBytes (r : Request) : List Byte :=
  enc1 r.station ++ enc1 r.cls.code ++ enc1 r.state.code ++ encSeconds r.firstSeen

/-- GET CALLS (R148, R167): each message is followed by its kind. DEDUCED (log entry 51), unsafe. Cut pending and the
unit's activity have the codes of log entry 29 (DEDUCED, unsafe), and a cut pending of none is a free byte: DESIGN
CHOICE (log entry 9). -/
def getCallsCmd (p : List Byte) (s : State) : Answer :=
  if !p.isEmpty then ⟨s, .badArgument, []⟩
  else
    ⟨s, .done,
      enc1 s.clc.channel.code ++ enc1 s.clc.announcer.code ++
      encOpt s.fresh 70 1 (fun x : CutReason => enc1 x.code) s.clc.cut ++ encYes s.clc.evacOwed ++
      encOpt s.fresh 71 2 (fun x : Activity × Nat => enc1 x.1.code ++ enc1 x.2) s.clc.unitReport ++
      playingBytes s ++ pagingBytes s ++ encFoh s.clc.evacZones ++
      encList (callBytes s) s.clc.queue ++ encList (scheduledBytes s) s.clc.sched ++
      encList requestBytes s.clc.requests⟩

end Sys2Proof.Machine
end

