-- ==== Sys2Proof/Machine/Cues.lean ====
section
/-! DEFINITION. CRG (chapter 4): the counted frame and the break of the pair, recognition, the run of an
entry's actions, and GO CUE. -/

namespace Sys2Proof.Machine

/-! ### Running the actions (R67, R68) -/

/-- An action is handed to its owner and taken as the matching command (R65, R67). -/
def actionAnswer (a : RawAction) (s : State) : Answer :=
  match actionOf a with
  | some (.suppress zones seconds) => suppressAt zones seconds s
  | some (.house group target time) => houseFadeArgs ⟨1, group, target, time⟩ s
  | some (.call message zones priority) => callAt ⟨message, zones, priority⟩ .cue s
  | some (.phase code minutes) => setPhaseAt code minutes s
  | some (.curtain number motion) => curtainMoveAt number motion s
  | none => ⟨s, .badArgument, []⟩

/-- The event that reports the result of an action of a recognised cue (R68). -/
def actionEvent : Result → Option Event
  | .done | .accepted => none
  | .clamped => some .cueActionClamped
  | .partly => some .cueActionPartial
  | .busy | .refusedState | .refusedKey | .badArgument | .locked | .unknownCommand => some .cueActionRefused

/-- CRG reports an action's result (R68): the argument is position × 256 + result code. -/
def reportAction (cue position : Nat) (r : Result) (s : State) : State :=
  match actionEvent r with
  | some e => post e cue (some (position * 256 + r.code)) s
  | none => s

/-- Runs the actions of an entry in listed order, from a position on, with their results (R67); a
recognised cue reports each (R68). -/
def runActions (cue : Nat) (report : Bool) : Nat → List RawAction → State → State × List Result
  | _, [], s => (s, [])
  | position, a :: rest, s =>
    let r := actionAnswer a s
    let s1 := if report then reportAction cue position r.result r.state else r.state
    let next := runActions cue report (position + 1) rest s1
    (next.1, r.result :: next.2)

/-! ### Recognition (R64, R66) -/

/-- A recognised number is looked up, and its entry run (R66). -/
def lookUp (x : Nat) (s : State) : State :=
  match findCue s.tbs.active.cue x with
  | none => post .cueUnknown x none s
  | some c =>
    if c.allows s.phc.phase then (runActions x true 1 c.actions (post .cueRun x (some 0) s)).1
    else post .cueOutOfPhase x (some s.phc.phase.code) s

/-- Step 1 of R64: the last recognised value after re-opening. -/
def reopened (d : Debounce) (x : Nat) : Option Nat := if d.last = some x then d.last else none

/-- Step 2 of R64: the number is recognised. -/
def recognises (d : Debounce) (x : Nat) : Bool :=
  d.previous == some x && x != 0 && x != 65535 && (reopened d x).isNone

/-- A counted frame with cue value `x` (R64). The debounce record is complete before the entry runs, so that
a commit which an action completes leaves it cleared (R71). DEDUCED (log entry 35), unsafe. -/
def countFrame (x : Nat) (s : State) : State :=
  let found := recognises s.crg x
  let s1 := s.setCrg { previous := some x, last := if found then some x else reopened s.crg x }
  if found then lookUp x s1 else s1

/-- A good level frame of `k` slots is reported to CRG (R62, R63). -/
def frameReported (k : Nat) (s : State) : State :=
  match cuePair s.tbs.active.slot with
  | none => s
  | some (h, l) =>
    if s.srx.state = .ok ∧ max h l ≤ k then
      countFrame (slotLevel s.srx.table h * 256 + slotLevel s.srx.table l) s
    else breakPair s

/-- A discarded level frame is reported to CRG (R63). -/
def discardReported (s : State) : State :=
  match cuePair s.tbs.active.slot with
  | none => s
  | some _ => breakPair s

/-! ### GO CUE (R69) -/

/-- The result of a run by GO CUE: the first result other than DONE (R69). -/
def runResult (rs : List Result) : Result := (rs.find? fun r => r != .done).getD .done

/-- GO CUE of a number (R69). -/
def goCueAt (x : Nat) (s : State) : Answer :=
  if x = 0 ∨ x = 65535 then ⟨s, .badArgument, []⟩
  else match findCue s.tbs.active.cue x with
    | none => ⟨s, .badArgument, []⟩
    | some c =>
      if c.allows s.phc.phase then
        let r := runActions x false 1 c.actions (post .cueRun x (some 1) s)
        ⟨r.1, runResult r.2, enc2 x ++ enc1 c.actions.length ++ (r.2.map fun k => enc1 k.code).flatten⟩
      else ⟨s, .refusedState, []⟩

/-- GO CUE (R69). -/
def goCueCmd (p : List Byte) (s : State) : Answer :=
  match readCueNumber p with
  | none => ⟨s, .badArgument, []⟩
  | some x => goCueAt x s

end Sys2Proof.Machine
end

