-- ==== Sys2Proof/Machine/Loop.lean ====
section
/-! DEFINITION. LPC (chapter 9): the poll, the judgement of a reply, the good reply with its delivery, the
miss with the loss it may bring, and the warm restart. -/

namespace Sys2Proof.Machine

/-! ### The poll (R169, R171, R174, R179) -/

/-- The record at an index of the Poll List. -/
def stationAt (s : State) (index : Nat) : Option Station := s.lpc.stations.find? fun st => st.index == index

/-- The record of an address. -/
def stationOfAddress (s : State) (a : Nat) : Option Station :=
  s.lpc.stations.find? fun st => st.address == a

/-- Changes the record of one address. -/
def modStation (a : Nat) (f : Station → Station) (s : State) : State :=
  s.setLpc { s.lpc with stations := s.lpc.stations.map fun st => if st.address = a then f st else st }

/-- The poll kind that LPC chooses from the record (R179). -/
def pollKind (st : Station) : PollKind :=
  if !st.opened then .opening
  else match st.pending with
    | some (c, tag) => .command c tag
    | none => .plain

/-- The pair is not quiet yet after an abandoned transaction (R181, R182). The 0.5 ms are counted to the next
ms. DESIGN CHOICE (log entry 18), unsafe. -/
def lineBusy (s : State) : Bool := s.lpc.quietOwed && decide (s.time ≤ s.lpc.busyUntil)

/-- LPC starts a poll of the outstation at the poll position (R171): nothing while a transaction runs, while the
pair must first be quiet (R181, R182), or when the list is empty. -/
def startPoll (s : State) : State :=
  if s.lpc.tx.isSome || lineBusy s then s
  else match stationAt s s.lpc.position with
    | none => s
    | some st =>
      s.setLpc { s.lpc with tx := some ⟨st.address, pollKind st, s.time, none⟩, quietOwed := false }

/-- The code and the parameters of a command (12.3). -/
def LoopCmd.bytes : LoopCmd → List Byte
  | .drive c => enc1 c.code
  | .play m k z r => enc1 1 ++ enc1 m ++ enc1 k ++ encFoh z ++ encYes r
  | .stopPlay atPartEnd => enc1 2 ++ encYes atPartEnd
  | .page a z => enc1 3 ++ enc1 a ++ encFoh z
  | .endPage => enc1 4
  | .grant => enc1 1
  | .revoke => enc1 2

/-- The payload of a poll (R169). -/
def PollKind.payload : PollKind → List Byte
  | .plain | .opening => []
  | .command c tag => enc1 tag ++ c.bytes

/-- The kind byte of a poll (R169). -/
def PollKind.code : PollKind → Nat
  | .plain => 1 | .command _ _ => 2 | .opening => 3

/-- The parity bit of a byte: it makes the ones among the data bits, the mark bit and itself even (R168). -/
def parityBit (value : Byte) (mark : Bool) : Bool :=
  ((List.range 8).countP (fun i => value.getLsbD i) + if mark then 1 else 0) % 2 == 1

/-- A byte as it is sent: with correct parity (R168). -/
def sentByte (mark : Bool) (value : Byte) : LoopByte :=
  { value, mark, parity := parityBit value mark }

/-- A frame as it is sent: the mark bit is set in the address byte, and clear in every other (R168). -/
def loopFrame (address : Nat) (rest : List Byte) : List LoopByte :=
  sentByte true (BitVec.ofNat 8 address) :: rest.map (sentByte false)

/-- The bytes of a poll frame: address, poll kind, payload length, payload (R168, R169). -/
def Transaction.bytes (t : Transaction) : List LoopByte :=
  loopFrame t.address (enc1 t.poll.code ++ enc1 t.poll.payload.length ++ t.poll.payload)

/-- The time in us that the poll takes on the pair: 192 us a byte (R168). -/
def Transaction.pollMicros (t : Transaction) : Nat := t.bytes.length * 192

/-- The poll is still being sent at an instant: LPC does not listen (R168). -/
def Transaction.sending (t : Transaction) (now : Nat) : Bool := (now + 1 - t.start) * 1000 ≤ t.pollMicros

/-- The first ms at or after the instant `us` us after the opening of the reply window (R171). -/
def Transaction.after (t : Transaction) (us : Nat) : Nat := t.start + (t.pollMicros + us + 999) / 1000

/-- The instant at which the reply window closes: 5 ms (R171). -/
def Transaction.windowEnd (t : Transaction) : Nat := t.after 5000

/-- The instant at which a reply is forced over: 9 ms from the opening of the window (R171). -/
def Transaction.forcedEnd (t : Transaction) : Nat := t.after 9000

/-- The index polled after an index, in table order (R174). -/
def nextIndex (sts : List Station) (index : Nat) : Nat :=
  match sts.find? fun st => index < st.index with
  | some st => st.index
  | none => (sts.head?.map (·.index)).getD 0

/-- The transaction ends and the poll position moves on (R171, R174). -/
def endTransaction (s : State) : State :=
  s.setLpc { s.lpc with tx := none, position := nextIndex s.lpc.stations s.lpc.position }

/-! ### The judgement (R172) -/

/-- The seven faults of a transaction, as the sticky flags that they set. -/
structure LoopFaults where
  silent : Bool := false
  parity : Bool := false
  framing : Bool := false
  address : Bool := false
  short : Bool := false
  long : Bool := false
  content : Bool := false
  deriving DecidableEq, Repr

/-- Some fault was found. -/
def LoopFaults.any (f : LoopFaults) : Bool :=
  f.silent || f.parity || f.framing || f.address || f.short || f.long || f.content

/-- The flags of the faults are set (R172, R173). -/
def LoopFaults.raise (f : LoopFaults) (x : Sticky) : Sticky :=
  { x with
    loopSilent := x.loopSilent || f.silent
    loopParity := x.loopParity || f.parity
    loopFraming := x.loopFraming || f.framing
    loopAddress := x.loopAddress || f.address
    loopShort := x.loopShort || f.short
    loopLong := x.loopLong || f.long
    loopContent := x.loopContent || f.content }

/-- The content length of each kind (12.3). -/
def contentLength : StationKind → Nat
  | .zoneUnit => 8 | .curtainUnit => 4 | .announcer => 3 | .paging => 3

/-- The ranges checked in the content of each kind (R172): a field that the reply's bytes do not reach is not
out of range, and reads as 0 here. -/
def contentInRange (k : StationKind) (c : List Byte) : Bool :=
  match k with
  | .zoneUnit => true
  | .curtainUnit => (c.length < 2 || at2 c 0 ≤ 1000) && at1 c 2 ≤ 3
  | .announcer => at1 c 0 ≤ 2 && at1 c 1 ≤ 5 && at1 c 2 ≤ 2
  | .paging => at1 c 0 == 0 || within 3 5 (at1 c 0)

/-- The parity of a received byte does not come out even (R168). -/
def parityError (b : LoopByte) : Bool := b.parity != parityBit b.value b.mark

/-- The bytes that count as the reply's: a later byte with the mark bit ends it (R168, R171). -/
def replyBytes : List LoopByte → List LoopByte
  | [] => []
  | b :: rest => b :: rest.takeWhile fun x => !x.mark

/-- A reply's fields (R169): status byte, length, payload. -/
structure ReplyFields where
  status : Nat
  length : Nat
  payload : List Byte
  deriving DecidableEq, Repr

/-- The fields of a reply; the payload is as many of the bytes as the length names. -/
def replyFields (b : List Byte) : ReplyFields := ⟨at1 b 1, at1 b 2, (b.drop 3).take (at1 b 2)⟩

/-- The acknowledgement code in the status byte: its lowest two bits (12.3). -/
def ReplyFields.ack (r : ReplyFields) : Nat := r.status % 4

/-- The kind code in the status byte: its upper four bits (12.3). -/
def ReplyFields.kind (r : ReplyFields) : Nat := r.status / 16

/-- The content: the payload, less the tag when there is an acknowledgement (R169). -/
def ReplyFields.content (r : ReplyFields) : List Byte := if r.ack = 0 then r.payload else r.payload.drop 1

/-- The poll carries a command. -/
def PollKind.carries : PollKind → Bool
  | .command _ _ => true
  | .plain | .opening => false

/-- The payload length that fits the acknowledgement and the kind (R169, R172). -/
def fittingLength (k : StationKind) (r : ReplyFields) : Nat :=
  contentLength k + if r.ack = 0 then 0 else 1

/-- The content fault (R172), found in those fields that the reply's bytes reach.
DEDUCED (log entry 30), unsafe. -/
def contentFault (k : StationKind) (p : PollKind) (b : List Byte) : Bool :=
  let r := replyFields b
  (2 ≤ b.length && (r.kind != k.code || r.ack == 3 || (r.ack != 0 && !p.carries))) ||
    (3 ≤ b.length && r.length != fittingLength k r) ||
    (3 ≤ b.length && r.length == fittingLength k r && !contentInRange k r.content)

/-- The faults of a reply (R172); `forced`: it was forced over at 9 ms. -/
def judge (k : StationKind) (t : Transaction) (forced : Bool) (bs : List LoopByte) : LoopFaults :=
  match replyBytes bs with
  | [] => { silent := true }
  | first :: rest =>
    let b := (first :: rest).map (·.value)
    let need := 3 + at1 b 2
    { parity := (first :: rest).any parityError
      framing := (first :: rest).any (·.framing) || !first.mark
      address := first.value.toNat != t.address
      short := b.length < 3 || b.length < need
      long := forced || (3 ≤ b.length && need < b.length)
      content := contentFault k t.poll b }

/-! ### Delivery (R176, R180) -/

/-- The acknowledgement found in a good reply: the poll carried a command that is still the pending one, and
the reply acknowledges its tag (R172, R176). -/
def foundAck (st : Station) (t : Transaction) (r : ReplyFields) : Option (LoopCmd × Bool) :=
  match t.poll with
  | .command c tag =>
    if st.pending = some (c, tag) ∧ (r.ack = 1 ∨ r.ack = 2) ∧ at1 r.payload 0 = tag then
      some (c, r.ack == 1)
    else none
  | .plain | .opening => none

/-- The acknowledgement of a drive command. -/
def driveAck : Option (LoopCmd × Bool) → Option (DriveCmd × Bool)
  | some (.drive c, taken) => some (c, taken)
  | _ => none

/-- The content of a good reply is delivered to the owner of the kind (R180). -/
def deliver (st : Station) (content : List Byte) (ack : Option (LoopCmd × Bool)) (s : State) : State :=
  match st.kind with
  | .zoneUnit => zoneReply st.address content s
  | .curtainUnit => driveReply st.address (driveReplyOf content) (driveAck ack) s
  | .announcer => announcerReply (unitReplyOf content) ack s
  | .paging => pagingReply st.address (PageClass.ofCode (at1 content 0)) (atFoh content 1) s

/-- The event of an outstation that answers (R176). -/
def postAnswers (st : Station) (s : State) : State :=
  match st.state with
  | .unknown => post .outstationFound st.address (some st.kind.code) s
  | .lost => post .outstationRegained st.address (some st.kind.code) s
  | .present => s

/-- The record after a good reply: steps 1 to 4 of R176. -/
def Station.answered (t : Transaction) (acked : Bool) (st : Station) : Station :=
  { st with
    misses := 0
    state := .present
    opened := st.opened || t.poll == .opening
    pending := if acked then none else st.pending }

/-- A good reply is taken (R176). -/
def goodReply (st : Station) (t : Transaction) (r : ReplyFields) (s : State) : State :=
  let ack := foundAck st t r
  deliver st r.content ack
    (postAnswers st (modStation st.address (Station.answered t ack.isSome) s))

/-! ### Misses (R177) -/

/-- The owner is told of a loss (R177). -/
def tellLoss (st : Station) (s : State) : State :=
  match st.kind with
  | .zoneUnit => zoneUnitLost st.address s
  | .curtainUnit => driveUnitLost st.address s
  | .announcer => announcerLost st.address s
  | .paging => pagingLost st.address s

/-- A miss (R177). -/
def miss (st : Station) (s : State) : State :=
  if st.state = .lost then s
  else if st.misses + 1 < 3 then modStation st.address (fun x => { x with misses := x.misses + 1 }) s
  else
    tellLoss st (post .outstationLost st.address (some st.kind.code)
      (modStation st.address (fun x => { x with misses := 3, state := .lost }) s))

/-- The transaction in progress ends with a judgement (R171, R172). -/
def concludeWith (st : Station) (t : Transaction) (f : LoopFaults) (b : List Byte) (s : State) : State :=
  if f.any then miss st (setSticky f.raise s) else goodReply st t (replyFields b) s

/-- The reply is over and is judged (R171, R172); nothing while no transaction runs. -/
def conclude (forced : Bool) (bs : List LoopByte) (s : State) : State :=
  match s.lpc.tx with
  | none => s
  | some t =>
    match stationOfAddress s t.address with
    | none => endTransaction s
    | some st =>
      concludeWith st t (judge st.kind t forced bs) ((replyBytes bs).map (·.value)) (endTransaction s)

/-! ### The bytes of a reply as they come (R168, R171)

A byte that LPC has been told of carries in `later` the ms of the timebase at which it comes. -/

/-- The greatest `later` of some bytes: when the last of them comes. -/
def lastsFor (bs : List LoopByte) : Nat := (bs.map (·.later)).foldl max 0

/-- A byte reported at an instant, with the ms of the timebase at which it comes. -/
def comes (now : Nat) (b : LoopByte) : LoopByte := { b with later := now + b.later }

/-- Puts a byte among bytes in the order in which they come, after those that come at the same ms. -/
def placeByte (b : LoopByte) : List LoopByte → List LoopByte
  | [] => [b]
  | x :: rest => if b.later < x.later then b :: x :: rest else x :: placeByte b rest

/-- Further bytes among the bytes already known. -/
def mergeBytes (known new : List LoopByte) : List LoopByte := new.foldl (fun l b => placeByte b l) known

/-- The bytes that come before 0.5 ms of quiet (R171): a byte that comes 2 ms or more after the byte before it
is not one of them; `before` is when that byte came. -/
def beforeQuiet (before : Nat) : List LoopByte → List LoopByte
  | [] => []
  | b :: rest => if before + 1 < b.later then [] else b :: beforeQuiet b.later rest

/-- The bytes of one reply among the bytes known: up to a byte with the mark bit, and up to 0.5 ms of quiet unless
the reply is known to be `running` still 9 ms after the opening of the window (R168, R171).
DESIGN CHOICE (log entry 18), unsafe. -/
def replyRun (running : Bool) (bs : List LoopByte) : List LoopByte :=
  match replyBytes bs with
  | [] => []
  | b :: rest => b :: if running then rest else beforeQuiet b.later rest

/-- The instant at which the bytes known end the reply by themselves (R171): that of the byte with the mark bit
that ends it, or that of its last byte, after which the line is quiet; none while it runs on.
DESIGN CHOICE (log entry 18), unsafe. -/
def replyStops (running : Bool) (bs : List LoopByte) : Option Nat :=
  let last := lastsFor (replyRun running bs)
  match bs[(replyRun running bs).length]? with
  | some b => some (if b.mark && (running || decide (b.later ≤ last + 1)) then b.later else last)
  | none => if running then none else some last

/-- The instant at which the reply is over (R171): at the latest 9 ms after the opening of the window. -/
def Transaction.over (t : Transaction) (running : Bool) (bs : List LoopByte) : Nat :=
  match replyStops running bs with
  | some n => min n t.forcedEnd
  | none => t.forcedEnd

/-- The reply is forced over at 9 ms (R171). -/
def Transaction.forced (t : Transaction) (running : Bool) (bs : List LoopByte) : Bool :=
  (replyStops running bs).all fun n => decide (t.forcedEnd ≤ n)

/-- The bytes that count as the reply's: those that have come when it is over (R171). -/
def Transaction.counted (t : Transaction) (running : Bool) (bs : List LoopByte) : List LoopByte :=
  (replyRun running bs).filter fun b => b.later ≤ t.over running bs

/-- A reply that is over, as the part's own command brings it: its bytes, all of them come. -/
def Transaction.taken (t : Transaction) (running : Bool) (bs : List LoopByte) : List LoopByte :=
  (t.counted running bs).map fun b => { b with later := 0 }

/-- The bytes reported that LPC hears: not those that come while it sends a poll (R168). -/
def Transaction.audible (t : Transaction) (now : Nat) (bs : List LoopByte) : List LoopByte :=
  (bs.map (comes now)).filter fun b => !t.sending b.later

/-- The first byte of a reply has begun, or begins by the closing of the reply window (R171). -/
def Transaction.begins (t : Transaction) (now : Nat) (bs : List LoopByte) : Bool :=
  t.heard.isSome || (t.audible now bs).any fun b => decide (b.later ≤ t.windowEnd)

/-- The bytes known of the reply, and whether it is known to be running still at 9 ms, once these bytes are
reported. The part's own command at the end of a reply brings no new byte.
DESIGN CHOICE (log entry 18), unsafe. -/
def Transaction.known (t : Transaction) (now : Nat) (running : Bool) (bs : List LoopByte) : Bool × List LoopByte :=
  match t.heard with
  | none => (running, mergeBytes [] (t.audible now bs))
  | some (r, old) =>
    if t.over r old ≤ now ∧ bs = t.taken r old ∧ running = t.forced r old then (r, old)
    else (r || running, mergeBytes old (t.audible now bs))

/-- Bytes stand on the pair until the last of them has come. -/
def noteBytes (bs : List LoopByte) (s : State) : State :=
  s.setLpc { s.lpc with busyUntil := max s.lpc.busyUntil (s.time + lastsFor bs) }

/-- A reply has begun that is over at an instant still to come (R171): what is known of it is kept, and the pair
is not quiet before that instant. -/
def hear (t : Transaction) (running : Bool) (bs : List LoopByte) (s : State) : State :=
  s.setLpc { s.lpc with
    tx := some { t with heard := some (running, bs) }
    busyUntil := max s.lpc.busyUntil (t.over running bs) }

/-- The reply is judged when it is over (R171), and is heard on until then. -/
def takeReply (t : Transaction) (running : Bool) (bs : List LoopByte) (s : State) : State :=
  if t.over running bs ≤ s.time then conclude (t.forced running bs) (t.counted running bs) s
  else hear t running bs s

/-- Bytes come on the pair (R171): without a transaction, while LPC sends a poll, and when they begin no reply in
the window, they only keep the pair from being quiet. `running`: the reply was still running 9 ms after the
opening of the window. DESIGN CHOICE (log entry 18), unsafe. -/
def bytesCome (running : Bool) (bs : List LoopByte) (s : State) : State :=
  match s.lpc.tx with
  | none => noteBytes bs s
  | some t =>
    if t.begins s.time bs then
      takeReply t (t.known s.time running bs).1 (t.known s.time running bs).2 (noteBytes bs s)
    else noteBytes bs s

/-- LOOP_REPLY: a reply is heard (R171). -/
def replyHeard (bs : List LoopByte) (s : State) : State := bytesCome false bs s

/-- LOOP_REPLY_FORCED_OVER: a reply still running 9 ms after the opening of the window (R171). -/
def replyForcedOver (bs : List LoopByte) (s : State) : State := bytesCome true bs s

/-- The reply window has closed, 5 ms after the poll, with no reply byte begun (R171).
DESIGN CHOICE (log entry 18), unsafe. -/
def silentDue (s : State) : Bool :=
  match s.lpc.tx with
  | some t => t.heard.isNone && decide (t.windowEnd ≤ s.time)
  | none => false

/-- The end of the reply window (R171): SILENT; nothing when it is not due. -/
def windowCloses (s : State) : State := if silentDue s then conclude false [] s else s

/-! ### Warm restart (R182) -/

/-- The record made afresh (R175, R182). -/
def Station.afresh (st : Station) : Station := { index := st.index, address := st.address, kind := st.kind }

/-- Warm restart of LPC (R182): the transaction is abandoned and the records are made afresh. -/
def loopRestart (s : State) : State :=
  s.setLpc (abandonTransaction (s.lpc.stations.map Station.afresh) s)

end Sys2Proof.Machine
end

