-- ==== Sys2Proof/Machine/Restart.lean ====
section
/-! DEFINITION. The two restarts (R190, R191, R208, R209) and the lines that bring them. -/

namespace Sys2Proof.Machine

/-- The causes of RESTART (the events table of chapter 10). -/
def causeLine : Nat := 1
def causeCommand : Nat := 2

/-- CMI and EVQ at a warm restart (R191): the reply is cut, the gap cancelled, the line de-asserted, armed
set, and the count increased. -/
def linkRestart (s : State) : State :=
  (s.setCmi { s.cmi with reply := none, restartOwed := false, restarts := min (s.cmi.restarts + 1) 65535 }).setEvq
    { s.evq with gap := none, line := false, armed := true }

/-- SRX and CRG at a warm restart (R30, R73): a frame being received is dropped, and the previous value
becomes absent. -/
def streamRestart (s : State) : State :=
  breakPair (s.setSrx { s.srx with receiving := false })

/-- ZMN at a warm restart (R98): every window is closed, and every deferred-fire flag is clear. -/
def zonesRestart (s : State) : State :=
  let s1 := closeAllWindows s
  s1.setZmn { s1.zmn with zones := s1.zmn.zones.map fun r => { r with deferred := false } }

/-- A warm restart (R191). It takes no time here; a timer that is due is taken after it. LPC's records are
made afresh before CTC and CLC issue their commands. DESIGN CHOICE (log entry 6), unsafe. -/
def warmRestart (cause : Nat) (s : State) : State :=
  evaluateAttention (zonesRestart (fblRestart (callsRestart (curtainsRestart (storeRestart (streamRestart
    (loopRestart (post .restarted 0 (some cause) (linkRestart s)))))))))

/-- A pulse on the RESTART line (R191, R209): taken once for each low, and not while RESET is held.
DESIGN CHOICE (log entry 19), unsafe. -/
def restartPulse (s : State) : State :=
  if s.restartArmed then
    if s.resetHeld then s.setRestartArmed false else warmRestart causeLine (s.setRestartArmed false)
  else s

/-- The RESTART line has returned high (R209). -/
def restartLineHigh (s : State) : State := s.setRestartArmed true

/-- The AUTHORITY KEY line has changed and stood for 20 ms (R209). -/
def keyChange (isOn : Bool) (s : State) : State := s.setKeyOn isOn

/-- The RESET line is asserted (R190): every block holds its full reset values. The two other input lines
and the waiting commands are outside the blocks. DESIGN CHOICE (log entry 3), unsafe. -/
def resetAssert (s : State) : State :=
  { keyOn := s.keyOn, restartArmed := s.restartArmed, fresh := s.fresh, pending := s.pending }

/-- The unit address that the straps spell (R208). -/
def strapAddress (straps : Nat) : Option Nat := if 1 ≤ straps ∧ straps ≤ 254 then some straps else none

/-- The RESET line is released (R190, R208): the straps are read and START is posted. -/
def resetRelease (straps : Nat) (s : State) : State :=
  if s.resetHeld then
    post .started 0 none (((s.setResetHeld false).setTime 0).setUnit (strapAddress straps))
  else s

end Sys2Proof.Machine
end

