-- ==== Sys2Proof/Machine/Control.lean ====
section
/-! DEFINITION. CMI and EVQ (chapter 10): the taking of a well-formed control frame with its reply, the end
of a reply, READ EVENT, the attention commands, GET STATUS, GET IDENTITY and RESTART. -/

namespace Sys2Proof.Machine

/-! ### EVQ's commands (R194, R195, R196) -/

/-- An event record in 13 bytes (R207). -/
def eventBytes (r : EventRecord) : List Byte :=
  enc4 r.time ++ enc1 r.level ++ enc1 r.event.source ++ enc2 r.index ++ enc2 r.event.code ++
    encYes r.arg.isSome ++ enc2 (r.arg.getD 0)

/-- READ EVENT (R194). -/
def readEventCmd (p : List Byte) (s : State) : Answer :=
  if !p.isEmpty then ⟨s, .badArgument, []⟩
  else match s.evq.queue with
    | [] => ⟨s, .done, []⟩
    | r :: rest => ⟨s.setEvq { s.evq with queue := rest }, .done, eventBytes r ++ enc1 rest.length⟩

/-- ACK ATTENTION (R196). -/
def ackAttentionCmd (p : List Byte) (s : State) : Answer :=
  if !p.isEmpty then ⟨s, .badArgument, []⟩
  else
    ⟨s.setEvq { s.evq with line := false, armed := true, gap := some (s.time + 100) }, .done,
      encYes s.evq.line⟩

/-- SET ATTENTION MASK (R195). -/
def setMaskCmd (p : List Byte) (s : State) : Answer :=
  match readOne p with
  | none => ⟨s, .badArgument, []⟩
  | some m =>
    if m ≤ 6 then ⟨evaluateAttention (s.setEvq { s.evq with mask := m }), .done, []⟩
    else ⟨s, .badArgument, []⟩

/-- The attention gap is due to end (R196). -/
def gapDue (s : State) : Bool := due s.evq.gap s.time

/-- The attention gap expiry (R196). -/
def gapExpire (s : State) : State :=
  if gapDue s then evaluateAttention (s.setEvq { s.evq with gap := none }) else s

/-! ### GET STATUS, GET IDENTITY, RESTART (R188, R189, R191) -/

/-- The code of a last-frame kind: listed order (R28, R206); NONE has none. DEDUCED (log entry 29), unsafe. -/
def FrameKind.code? : FrameKind → Option Nat
  | .none => Option.none | .level => some 1 | .discarded => some 2 | .control => some 3 | .other => some 4

/-- The loop summary's items for one outstation (R173). -/
def stationBytes (st : Station) : List Byte :=
  enc1 st.address ++ enc1 st.kind.code ++ enc1 st.state.code ++ enc1 st.misses ++ encYes st.pending.isSome

/-- The payload of GET STATUS (R188). DEDUCED (log entry 37), unsafe. -/
def statusBytes (s : State) : List Byte :=
  (s.cmi.sticky.toList.map encYes).flatten ++ enc2 s.cmi.discards ++
    encOpt s.fresh 80 1 enc1 s.srx.lastFrame.kind.code? ++ enc2 s.srx.lastFrame.count ++
    encYes s.srx.lastFrame.short ++ encYes s.srx.lastFrame.long ++ enc1 s.srx.state.code ++
    enc2 s.srx.valid ++ encSeconds s.srx.lastGood ++
    enc1 s.lpc.stations.length ++ enc1 s.lpc.position ++ (s.lpc.stations.map stationBytes).flatten ++
    enc1 s.evq.queue.length ++ enc1 s.evq.mask ++ encYes s.evq.armed ++ encChoice s.evq.line ++
    encYes s.evq.gap.isSome ++ encChoice s.keyOn ++ encSeconds s.time

/-- GET STATUS (R188). -/
def getStatusCmd (p : List Byte) (s : State) : Answer :=
  if !p.isEmpty then ⟨s, .badArgument, []⟩ else ⟨s, .done, statusBytes s⟩

/-- GET IDENTITY (R189). -/
def getIdentityCmd (p : List Byte) (s : State) : Answer :=
  if !p.isEmpty then ⟨s, .badArgument, []⟩
  else
    ⟨s, .done,
      enc2 Config.modelNumber ++ enc1 Config.revision ++ enc1 (s.unit.getD 0) ++ enc2 s.cmi.restarts ++
        encSeconds s.time⟩

/-- RESTART, taken with the key on (R191): the restart waits for the end of its reply. -/
def restartCmd (p : List Byte) (s : State) : Answer :=
  if !p.isEmpty then ⟨s, .badArgument, []⟩
  else ⟨s.setCmi { s.cmi with restartOwed := true }, .done, []⟩

/-- The owner of a command code that names no command is CMI (R184). -/
def unknownCmd (_p : List Byte) (s : State) : Answer := ⟨s, .unknownCommand, []⟩

/-! ### Taking a command (R184, R185) -/

/-- What the reply of a GET STATUS shows: the sticky flags and the discard count at the build instant (R188). -/
def shownIn (code : Nat) (a : Answer) : Option (Sticky × Nat) :=
  if code = 0x53 ∧ a.result = .done then some (a.state.cmi.sticky, a.state.cmi.discards) else none

/-- The reply is built at the instant the command is taken (R185). -/
def buildReply (code : Nat) (a : Answer) : State :=
  (a.state.setCmi { a.state.cmi with
    reply := some ⟨code, a.result, summaryFlags a.state, a.payload, shownIn code a, a.state.time⟩ }).setFresh
      (a.state.fresh + 1)

/-- CMI can take a command: the part runs and has a unit address (R190, R208). -/
def takes (s : State) : Bool := !s.resetHeld && s.unit.isSome

/-- The command is a key command and the key line is off: REFUSED_KEY with its event (R184). -/
def refuseKey (code : Nat) (s : State) : Answer := ⟨post .keyRefused code none s, .refusedKey, []⟩

/-- CMI takes a well-formed control frame with a command code and a payload (R184, R185): the key is checked
for a key command, the owner decides, the reply is built. A payload that no control frame can carry is a
bad frame (R183). DEDUCED (log entry 14), safe. -/
def takeCommand (code : Nat) (key : Bool) (owner : List Byte → State → Answer) (p : List Byte) (s : State) :
    State :=
  if !takes s then s
  else if 200 < p.length then setSticky (fun f => { f with badFrame := true }) s
  else if key && !s.keyOn then buildReply code (refuseKey code s)
  else buildReply code (owner p s)

/-! ### The end of a reply (R188, R191) -/

/-- The flags that a reply showed are cleared, and the discard count is reduced (R188). -/
def clearShown (r : Reply) (c : Control) : Control :=
  match r.shown with
  | some (f, n) => { c with sticky := c.sticky.clearShown f, discards := c.discards - n }
  | none => c

/-- The end of the last byte of a reply (R188, R191); nothing while no reply is in progress. -/
def replyEnds (s : State) : State :=
  match s.cmi.reply with
  | none => s
  | some r =>
    let s1 := s.setCmi { clearShown r s.cmi with reply := none }
    if s1.cmi.restartOwed then warmRestart causeCommand s1 else s1

/-- The bytes of a reply frame (R185, 12.2). -/
def Reply.bytes (unit : Nat) (r : Reply) : List Byte :=
  let b := enc1 0x6C ++ enc1 unit ++ enc1 r.code ++ enc1 r.result.code ++ enc1 r.summary ++
    enc2 r.payload.length ++ r.payload
  b ++ enc2 (sum16 b)

end Sys2Proof.Machine
end

