-- ==== Sys2Proof/Machine/Commands.lean ====
section
/-! DEFINITION. The control-frame commands: each with its code, whether it is a key command (R184), and its
owner; and the command that a frame's code and payload spell (R206). -/

namespace Sys2Proof.Machine

/-- CMI takes SET PHASE (R2). -/
def takeSetPhase (p : List Byte) (s : State) : State := takeCommand 0x10 false setPhaseCmd p s

/-- CMI takes GET SHOW (R15). -/
def takeGetShow (p : List Byte) (s : State) : State := takeCommand 0x11 false getShowCmd p s

/-- CMI takes HOUSE FADE (R48). -/
def takeHouseFade (p : List Byte) (s : State) : State := takeCommand 0x20 false houseFadeCmd p s

/-- CMI takes HOUSE CONSOLE (R50). -/
def takeHouseConsole (p : List Byte) (s : State) : State := takeCommand 0x21 false houseConsoleCmd p s

/-- CMI takes HOUSE MASTER (R51). -/
def takeHouseMaster (p : List Byte) (s : State) : State := takeCommand 0x22 false houseMasterCmd p s

/-- CMI takes GET HOUSE (R52). -/
def takeGetHouse (p : List Byte) (s : State) : State := takeCommand 0x23 false getHouseCmd p s

/-- CMI takes GO CUE (R69). -/
def takeGoCue (p : List Byte) (s : State) : State := takeCommand 0x28 false goCueCmd p s

/-- CMI takes SUPPRESS (R85). -/
def takeSuppress (p : List Byte) (s : State) : State := takeCommand 0x30 false suppressCmd p s

/-- CMI takes GET ZONES (R100). -/
def takeGetZones (p : List Byte) (s : State) : State := takeCommand 0x31 false getZonesCmd p s

/-- CMI takes ALARM ACK (R108). -/
def takeAlarmAck (p : List Byte) (s : State) : State := takeCommand 0x38 false alarmAckCmd p s

/-- CMI takes ALARM FALSE, a key command (R110). -/
def takeAlarmFalse (p : List Byte) (s : State) : State := takeCommand 0x39 true alarmFalseCmd p s

/-- CMI takes ALARM RESET, a key command (R116). -/
def takeAlarmReset (p : List Byte) (s : State) : State := takeCommand 0x3A true alarmResetCmd p s

/-- CMI takes GET ALARM (R117). -/
def takeGetAlarm (p : List Byte) (s : State) : State := takeCommand 0x3B false getAlarmCmd p s

/-- CMI takes CURTAIN MOVE (R126). -/
def takeCurtainMove (p : List Byte) (s : State) : State := takeCommand 0x40 false curtainMoveCmd p s

/-- CMI takes DEMONSTRATE (R140). -/
def takeDemonstrate (p : List Byte) (s : State) : State := takeCommand 0x41 false demonstrateCmd p s

/-- CMI takes CLEAR LATCH, a key command (R139). -/
def takeClearLatch (p : List Byte) (s : State) : State := takeCommand 0x42 true clearLatchCmd p s

/-- CMI takes GET CURTAINS (R147). -/
def takeGetCurtains (p : List Byte) (s : State) : State := takeCommand 0x43 false getCurtainsCmd p s

/-- CMI takes CALL (R153). -/
def takeCall (p : List Byte) (s : State) : State := takeCommand 0x48 false callCmd p s

/-- CMI takes CANCEL CALLS (R154). -/
def takeCancelCalls (p : List Byte) (s : State) : State := takeCommand 0x49 false cancelCallsCmd p s

/-- CMI takes GET CALLS (R167). -/
def takeGetCalls (p : List Byte) (s : State) : State := takeCommand 0x4A false getCallsCmd p s

/-- CMI takes READ EVENT (R194). -/
def takeReadEvent (p : List Byte) (s : State) : State := takeCommand 0x50 false readEventCmd p s

/-- CMI takes ACK ATTENTION (R196). -/
def takeAckAttention (p : List Byte) (s : State) : State := takeCommand 0x51 false ackAttentionCmd p s

/-- CMI takes SET ATTENTION MASK (R195). -/
def takeSetAttentionMask (p : List Byte) (s : State) : State := takeCommand 0x52 false setMaskCmd p s

/-- CMI takes GET STATUS (R188). -/
def takeGetStatus (p : List Byte) (s : State) : State := takeCommand 0x53 false getStatusCmd p s

/-- CMI takes GET IDENTITY (R189). -/
def takeGetIdentity (p : List Byte) (s : State) : State := takeCommand 0x54 false getIdentityCmd p s

/-- CMI takes RESTART, a key command (R191). -/
def takeRestart (p : List Byte) (s : State) : State := takeCommand 0x5F true restartCmd p s

/-- CMI takes STAGE OPEN (R198). -/
def takeStageOpen (p : List Byte) (s : State) : State := takeCommand 0x60 false stageOpenCmd p s

/-- CMI takes STAGE WRITE (R198). -/
def takeStageWrite (p : List Byte) (s : State) : State := takeCommand 0x61 false stageWriteCmd p s

/-- CMI takes STAGE QUEUE (R198). -/
def takeStageQueue (p : List Byte) (s : State) : State := takeCommand 0x62 false stageQueueCmd p s

/-- CMI takes COMMIT (R199). -/
def takeCommit (p : List Byte) (s : State) : State := takeCommand 0x63 false commitCmd p s

/-- CMI takes ABORT COMMIT (R202). -/
def takeAbortCommit (p : List Byte) (s : State) : State := takeCommand 0x64 false abortCommitCmd p s

/-- CMI takes GET COMMIT (R202). -/
def takeGetCommit (p : List Byte) (s : State) : State := takeCommand 0x65 false getCommitCmd p s

/-- CMI takes READ ACTIVE (R203). -/
def takeReadActive (p : List Byte) (s : State) : State := takeCommand 0x66 false readActiveCmd p s

/-- CMI takes SET AUTHORITY (R204). -/
def takeSetAuthority (p : List Byte) (s : State) : State := takeCommand 0x67 false setAuthorityCmd p s

/-- CMI takes LOCK AUTHORITY, a key command (R205). -/
def takeLockAuthority (p : List Byte) (s : State) : State := takeCommand 0x68 true lockAuthorityCmd p s

/-- CMI takes GET AUTHORITY (R205). -/
def takeGetAuthority (p : List Byte) (s : State) : State := takeCommand 0x69 false getAuthorityCmd p s

/-- CMI takes a control frame whose command code names no command (R184). -/
def takeUnknown (code : Nat) (p : List Byte) (s : State) : State := takeCommand code false unknownCmd p s

/-- CMI takes the command that a control frame carries; a command that no control frame carries changes
nothing. -/
def takeInstr (i : Instr) (s : State) : State :=
  match i with
  | .setPhase p => takeSetPhase p s
  | .getShow p => takeGetShow p s
  | .houseFade p => takeHouseFade p s
  | .houseConsole p => takeHouseConsole p s
  | .houseMaster p => takeHouseMaster p s
  | .getHouse p => takeGetHouse p s
  | .goCue p => takeGoCue p s
  | .suppress p => takeSuppress p s
  | .getZones p => takeGetZones p s
  | .alarmAck p => takeAlarmAck p s
  | .alarmFalse p => takeAlarmFalse p s
  | .alarmReset p => takeAlarmReset p s
  | .getAlarm p => takeGetAlarm p s
  | .curtainMove p => takeCurtainMove p s
  | .demonstrate p => takeDemonstrate p s
  | .clearLatch p => takeClearLatch p s
  | .getCurtains p => takeGetCurtains p s
  | .call p => takeCall p s
  | .cancelCalls p => takeCancelCalls p s
  | .getCalls p => takeGetCalls p s
  | .readEvent p => takeReadEvent p s
  | .ackAttention p => takeAckAttention p s
  | .setAttentionMask p => takeSetAttentionMask p s
  | .getStatus p => takeGetStatus p s
  | .getIdentity p => takeGetIdentity p s
  | .restart p => takeRestart p s
  | .stageOpen p => takeStageOpen p s
  | .stageWrite p => takeStageWrite p s
  | .stageQueue p => takeStageQueue p s
  | .commit p => takeCommit p s
  | .abortCommit p => takeAbortCommit p s
  | .getCommit p => takeGetCommit p s
  | .readActive p => takeReadActive p s
  | .setAuthority p => takeSetAuthority p s
  | .lockAuthority p => takeLockAuthority p s
  | .getAuthority p => takeGetAuthority p s
  | .unknownCommand code p => takeUnknown code p s
  | .resetAssertion | .resetRelease _ | .restartPulse | .authorityKeyChange _ | .inputBreak _
  | .inputFrameEnd _ | .replyEnd | .streamHoldExpiry | .darkIdleExpiry | .outputIntervalExpiry
  | .handoverExpiry _ | .windowEndExpiry _ | .offsetTimerExpiry _ | .ackTimerExpiry
  | .investigationTimerExpiry | .stallTimerExpiry _ | .descentExpiry _ | .dwellExpiry
  | .loweringExpiry | .callExpiry _ _ | .scheduledCallDue _ | .callOverrunExpiry | .pageLimitExpiry
  | .pollStart | .replyWindowExpiry | .loopReply _ | .loopReplyForcedOver _ | .attentionGapExpiry
  | .restartLineReturnHigh => s

end Sys2Proof.Machine
end

