-- ==== Sys2Proof/Machine/Frames.lean ====
section
/-! DEFINITION. SRX (2.1 to 2.4): the end of an input frame with its sorting and checks (R17 to R21), the
wake from QUIET (R26), and the break with the reply that it abandons (R186). -/

namespace Sys2Proof.Machine

/-! ### The parts of a frame (R17, R18) -/

/-- The value of a received byte. -/
def levelOf (b : RxByte) : Nat := b.value.toNat

/-- The number of bytes after the start code, up to 512 (R28). -/
def byteCount (rest : List RxByte) : Nat := min rest.length 512

/-- Rewrites the last-frame record (R28). DEDUCED (log entry 40), unsafe. -/
def recordFrame (kind : FrameKind) (rest : List RxByte) (short long : Bool) (s : State) : State :=
  s.setSrx { s.srx with lastFrame := ⟨kind, byteCount rest, short, long⟩ }

/-! ### A framing error (R19) -/

/-- A frame with a framing error is discarded whole; CRG is told of a level frame whose start code byte
arrived whole. -/
def framingFrame (start : RxByte) (rest : List RxByte) (s : State) : State :=
  let s1 := setSticky (fun f => { f with framing := true }) (recordFrame .discarded rest false false s)
  if start.framing = false ∧ start.value = 0 then discardReported s1 else s1

/-! ### Level frames (R20, R21, R23 to R26) -/

/-- What the check of a level frame's length finds (R20): the slots received and taken, short, long. -/
structure LengthCheck where
  received : Nat
  taken : Nat
  short : Bool
  long : Bool
  deriving DecidableEq, Repr

/-- The check of R20 against an expected length, absent while the Slot Map is empty. An over-length frame is recorded
as long even where 512 slots are what is expected or the Slot Map is empty. DEDUCED (log entry 40), unsafe. -/
def checkLength (expected : Option Nat) (rest : List RxByte) : LengthCheck :=
  let k := byteCount rest
  let surplus := decide (512 < rest.length)
  match expected with
  | none => ⟨k, k, false, surplus⟩
  | some e => ⟨k, min k e, decide (k < e), decide (e < k) || surplus⟩

/-- The slots taken are written into the table, in one step (R21). -/
def writeTable (table : List Nat) (taken : Nat) (rest : List RxByte) : List Nat :=
  ((rest.take taken).map levelOf) ++ table.drop taken

/-- The stream state after a good level frame, with its event and FBL's start (R23, R24, R26). -/
def streamGood (s : State) : State :=
  let s1 := s.setSrx { s.srx with state := .ok, wakePending := false, discardOwed := false }
  match s.srx.state with
  | .noStream => fblStart false (post .streamStarted 0 none s1)
  | .ok => s
  | .lost => post .streamRestored 0 (some StreamState.lost.code) s1
  | .quiet => fblStart false (post .streamAwake 0 (some 1) s1)

/-- A good level frame is taken (R21). -/
def takeLevels (c : LengthCheck) (rest : List RxByte) (s : State) : State :=
  frameReported c.received
    (streamGood
      ((recordFrame .level rest c.short c.long s).setSrx
        { (recordFrame .level rest c.short c.long s).srx with
          table := writeTable s.srx.table c.taken rest
          valid := c.taken
          lastGood := s.time
          idleRef := s.time }))

/-- The break of a wake (R26): wake pending and discard owed, with the event. -/
def wakeBreak (s : State) : State :=
  if s.srx.state = .quiet ∧ s.srx.wakePending = false then
    post .streamAwake 0 (some 0) (s.setSrx { s.srx with wakePending := true, discardOwed := true })
  else s

/-- The first good level frame after the break is discarded (R26). -/
def wakeDiscard (c : LengthCheck) (rest : List RxByte) (s : State) : State :=
  discardReported
    ((recordFrame .discarded rest c.short c.long s).setSrx
      { (recordFrame .discarded rest c.short c.long s).srx with discardOwed := false })

/-- A good level frame: discarded or taken under R26 in QUIET, and taken under R21 otherwise. One that finds
QUIET without a wake had its own break before QUIET was entered (R25). DEDUCED (log entry 20), unsafe. -/
def goodFrame (c : LengthCheck) (rest : List RxByte) (s : State) : State :=
  if s.srx.state = .quiet then
    if (wakeBreak s).srx.discardOwed then wakeDiscard c rest (wakeBreak s) else takeLevels c rest s
  else takeLevels c rest s

/-- The flags SHORT and LONG of a level frame (R20). -/
def setLength (short long : Bool) (s : State) : State :=
  setSticky (fun f => { f with short := f.short || short, long := f.long || long }) s

/-- A level frame without a framing error (R20); an empty one is recorded as short (R28). DEDUCED (log entry 40),
unsafe. -/
def levelFrame (rest : List RxByte) (s : State) : State :=
  if rest.isEmpty then discardReported (setLength true false (recordFrame .discarded rest true false s))
  else
    let c := checkLength (expectedLength? s.tbs.active.slot) rest
    goodFrame c rest (setLength c.short c.long s)

/-! ### Control frames and other frames (R18, R183) -/

/-- The form of a control frame (R183): the bytes after the start code, with a length byte and a sum that
fit. The whole frame comes in, start code first. -/
def wellFormedFrame (b : List Byte) : Bool :=
  let c := b.length - 1
  5 ≤ c && at1 b 3 ≤ 200 && c == 5 + at1 b 3 && at2 b (4 + at1 b 3) == sum16 (b.take (4 + at1 b 3))

/-- The command that a well-formed control frame carries (12.2). -/
def frameCommand (b : List Byte) : Instr := controlCommand (at1 b 2) ((b.drop 4).take (at1 b 3))

/-- CMI receives a control frame (R183). -/
def receiveControl (b : List Byte) (s : State) : State :=
  if wellFormedFrame b then takeInstr (frameCommand b) s
  else setSticky (fun f => { f with badFrame := true }) s

/-- A control frame for this unit (R18): cut at 512 bytes after the start code (R183). An over-length one
does not set LONG. DESIGN CHOICE (log entry 49), unsafe. -/
def controlFrame (start : RxByte) (rest : List RxByte) (s : State) : State :=
  receiveControl (start.value :: (rest.take 512).map (·.value)) (recordFrame .control rest false false s)

/-- An other frame (R18). -/
def otherFrame (start : RxByte) (rest : List RxByte) (s : State) : State :=
  let long := decide (512 < rest.length)
  holdOther (levelOf start :: (rest.take 512).map levelOf)
    (setLength false long (recordFrame .other rest false long s))

/-- The start code is 0x6B and the byte after it is the unit address (R18, R208). -/
def isForUnit (s : State) (start : RxByte) (rest : List RxByte) : Bool :=
  levelOf start == 0x6B && rest.head?.map levelOf == s.unit && s.unit.isSome

/-! ### The frame end (R18, R19) -/

/-- A frame with at least its start code is judged (R18, R19). -/
def judgeFrame (start : RxByte) (rest : List RxByte) (s : State) : State :=
  if (start :: rest).any (·.framing) then framingFrame start rest s
  else if start.value = 0 then levelFrame rest s
  else if isForUnit s start rest then controlFrame start rest s
  else otherFrame start rest s

/-- The bytes that SRX receives: none while the reply to a control frame is sent (R17). -/
def receivedBytes (frame : List RxByte) (s : State) : List RxByte := if s.cmi.reply.isSome then [] else frame

/-- A frame ends (R17); nothing while RESET is held, and nothing when no frame has begun at a break. One that ends
while a reply is sent has no bytes. DEDUCED (log entry 15), unsafe. -/
def frameEnds (frame : List RxByte) (s : State) : State :=
  if s.resetHeld || !s.srx.receiving then s
  else
    let s1 := s.setSrx { s.srx with receiving := false }
    match receivedBytes frame s with
    | [] => s1
    | start :: rest => judgeFrame start rest s1

/-! ### The break (R17, R26, R186, R191) -/

/-- A break abandons a reply in progress: COLLISION, and a restart that waits for the reply's end is taken
(R186, R191). DEDUCED (log entry 16), unsafe. -/
def abandonReply (s : State) : State :=
  if s.cmi.reply.isSome then
    let s1 := setSticky (fun f => { f with collision := true }) (s.setCmi { s.cmi with reply := none })
    if s1.cmi.restartOwed then warmRestart causeCommand s1 else s1
  else s

/-- A break on the stream input (R17): it ends the frame in progress, with the bytes received up to it,
abandons a reply, wakes a QUIET stream, and begins a frame. -/
def breakArrives (ended : List RxByte) (s : State) : State :=
  if s.resetHeld then s
  else
    let s1 := wakeBreak (abandonReply (frameEnds ended s))
    s1.setSrx { s1.srx with receiving := true }

end Sys2Proof.Machine
end

