-- ==== Sys2Proof/Machine/Timers.lean ====
section
/-! DEFINITION. The part's own timers: which expiries are due at the present instant of the timebase, as the
commands that take them, and the poll that LPC begins by itself. -/

namespace Sys2Proof.Machine

/-- The command when its condition holds. -/
def dueIf (b : Bool) (i : Instr) : List Instr := if b then [i] else []

/-- The stream's and the output's timers that are due (R24, R25, R31). -/
def dueStream (s : State) : List Instr :=
  dueIf (holdDue s) .streamHoldExpiry ++ dueIf (idleDue s) .darkIdleExpiry ++
    dueIf (intervalDue s) .outputIntervalExpiry

/-- The handovers that are due to end (R43). -/
def dueHouse (s : State) : List Instr :=
  (s.hlu.circuits.filter (·.handoverDue s.time)).map fun c => .handoverExpiry c.number

/-- The windows and the alarm timers that are due (R91, R109, R112). -/
def dueAlarm (s : State) : List Instr :=
  ((zoneNumbers s).filter (windowDue s)).map Instr.windowEndExpiry ++
    dueIf (ackDue s) .ackTimerExpiry ++ dueIf (invDue s) .investigationTimerExpiry ++
    ((List.range 7).filter (offsetDue s)).map Instr.offsetTimerExpiry

/-- The curtain timers that are due (R130, R136, R141, R142). -/
def dueCurtains (s : State) : List Instr :=
  ((s.ctc.curtains.filter (stallDue s)).map fun c => Instr.stallTimerExpiry c.number) ++
    ((s.ctc.curtains.filter (descentDue s)).map fun c => Instr.descentExpiry c.number) ++
    dueIf (dwellDue s && (demoCurtain s).isSome) .dwellExpiry ++
    dueIf (loweringDue s && (demoCurtain s).isSome) .loweringExpiry

/-- The call timers that are due (R152, R155, R159, R160). -/
def dueCalls (s : State) : List Instr :=
  ((s.clc.queue.filter (·.expired s.time)).map fun c => Instr.callExpiry c.message c.priority.code) ++
    ((s.clc.sched.filter fun e => decide (e.due ≤ (s.time : Int))).map fun e => Instr.scheduledCallDue e.source) ++
    dueIf (overrunDue s && s.clc.current.isSome) .callOverrunExpiry ++ dueIf (pageLimitDue s) .pageLimitExpiry

/-- LPC can begin a poll (R171, R174, R181, R182). -/
def pollReady (s : State) : Bool :=
  s.lpc.tx.isNone && !lineBusy s && (stationAt s s.lpc.position).isSome

/-- A reply that has begun is over at this instant (R171): forced over at the instant of 9 ms. -/
def replyOver (t : Transaction) (now : Nat) : List Instr :=
  match t.heard with
  | some (running, bs) =>
    dueIf (t.over running bs ≤ now)
      (if t.forced running bs then .loopReplyForcedOver (t.taken running bs) else .loopReply (t.taken running bs))
  | none => []

/-- The end of the transaction in progress that is due (R171): SILENT, or the end of a reply. -/
def dueLoop (s : State) : List Instr :=
  dueIf (silentDue s) .replyWindowExpiry ++ ((s.lpc.tx.map fun t => replyOver t s.time).getD [])

/-- The ms in which the longest reply frame has been sent (R185, 12.2): at most 2 ms to its break, and 509
bytes of 44 us. -/
def replyTime : Nat := 25

/-- The reply in progress has had the time of the longest reply frame. -/
def replyDue (s : State) : Bool := (s.cmi.reply.map fun r => decide (r.built + replyTime ≤ s.time)).getD false

/-- The link's and the loop's own events that are due (R171, R188, R196). -/
def dueLinks (s : State) : List Instr :=
  dueIf (gapDue s) .attentionGapExpiry ++ dueIf (replyDue s) .replyEnd ++
    dueLoop s ++ dueIf (pollReady s) .pollStart

/-- Everything of the part's own that is due at the present instant. -/
def dueCommands (s : State) : List Instr :=
  if s.resetHeld then []
  else dueAlarm s ++ dueCurtains s ++ dueCalls s ++ dueStream s ++ dueHouse s ++ dueLinks s

end Sys2Proof.Machine
end

