-- ==== Sys2Proof/Machine/LineEvents.lean ====
section
/-! DEFINITION. The meanings of the commands that the discrete lines bring (R190, R191, R208, R209). -/

namespace Sys2Proof.Machine

open Host

/-- A change to the part while RESET is not held; while it is held every block keeps its reset values
(R190). -/
def running (f : State → State) (s : State) : State := if s.resetHeld then s else f s

/-- RESET_ASSERTION (R190). -/
def execResetAssertion (s : State) : Outcome State Fault Refusal := .next (resetAssert s)

/-- RESET_RELEASE (R190, R208). -/
def execResetRelease (straps : Nat) (s : State) : Outcome State Fault Refusal := .next (resetRelease straps s)

/-- RESTART_PULSE (R191, R209). -/
def execRestartPulse (s : State) : Outcome State Fault Refusal := .next (restartPulse s)

/-- RESTART_LINE_RETURN_HIGH (R209). -/
def execRestartLineReturnHigh (s : State) : Outcome State Fault Refusal := .next (restartLineHigh s)

/-- AUTHORITY_KEY_CHANGE (R209). -/
def execAuthorityKeyChange (isOn : Bool) (s : State) : Outcome State Fault Refusal := .next (keyChange isOn s)

end Sys2Proof.Machine
end

