-- ==== Sys2Proof/Machine/CallCommands.lean ====
section
/-! DEFINITION. The meanings of the control-frame commands of CLC: each is the taking of a well-formed
control frame with this command's code and payload, and the building of its reply (R184, R185). -/

namespace Sys2Proof.Machine

open Host

/-- CALL (R153). -/
def execCall (payload : List Byte) (s : State) : Outcome State Fault Refusal := .next (takeCall payload s)

/-- CANCEL CALLS (R154). -/
def execCancelCalls (payload : List Byte) (s : State) : Outcome State Fault Refusal := .next (takeCancelCalls payload s)

/-- GET CALLS (R167). -/
def execGetCalls (payload : List Byte) (s : State) : Outcome State Fault Refusal := .next (takeGetCalls payload s)

end Sys2Proof.Machine
end

