-- ==== Sys2Proof/Machine/LinkCommands.lean ====
section
/-! DEFINITION. The meanings of the control-frame commands of EVQ and CMI: each is the taking of a well-formed
control frame with this command's code and payload, and the building of its reply (R184, R185). -/

namespace Sys2Proof.Machine

open Host

/-- READ EVENT (R194). -/
def execReadEvent (payload : List Byte) (s : State) : Outcome State Fault Refusal := .next (takeReadEvent payload s)

/-- ACK ATTENTION (R196). -/
def execAckAttention (payload : List Byte) (s : State) : Outcome State Fault Refusal := .next (takeAckAttention payload s)

/-- SET ATTENTION MASK (R195). -/
def execSetAttentionMask (payload : List Byte) (s : State) : Outcome State Fault Refusal := .next (takeSetAttentionMask payload s)

/-- GET STATUS (R188). -/
def execGetStatus (payload : List Byte) (s : State) : Outcome State Fault Refusal := .next (takeGetStatus payload s)

/-- GET IDENTITY (R189). -/
def execGetIdentity (payload : List Byte) (s : State) : Outcome State Fault Refusal := .next (takeGetIdentity payload s)

/-- RESTART, a key command (R191). -/
def execRestart (payload : List Byte) (s : State) : Outcome State Fault Refusal := .next (takeRestart payload s)

/-- UNKNOWN COMMAND (R184). -/
def execUnknownCommand (code : Nat) (payload : List Byte) (s : State) : Outcome State Fault Refusal :=
  .next (takeUnknown code payload s)

end Sys2Proof.Machine
end

