-- ==== Sys2Proof/Machine/LoopEvents.lean ====
section
/-! DEFINITION. The meanings of the commands of the field loop (R171, R172, R179). -/

namespace Sys2Proof.Machine

open Host

/-- POLL_START (R171, R179). -/
def execPollStart (s : State) : Outcome State Fault Refusal := .next (running startPoll s)

/-- REPLY_WINDOW_EXPIRY (R171, R172). -/
def execReplyWindowExpiry (s : State) : Outcome State Fault Refusal := .next (running windowCloses s)

/-- LOOP_REPLY (R171, R172). -/
def execLoopReply (bytes : List LoopByte) (s : State) : Outcome State Fault Refusal :=
  .next (running (replyHeard bytes) s)

/-- LOOP_REPLY_FORCED_OVER (R171, R172). -/
def execLoopReplyForcedOver (bytes : List LoopByte) (s : State) : Outcome State Fault Refusal :=
  .next (running (replyForcedOver bytes) s)

end Sys2Proof.Machine
end

