-- ==== Sys2Proof/Machine/SafetyCommands.lean ====
section
/-! DEFINITION. The meanings of the control-frame commands of ZMN, ASC and CTC: each is the taking of a well-formed
control frame with this command's code and payload, and the building of its reply (R184, R185). -/

namespace Sys2Proof.Machine

open Host

/-- SUPPRESS (R85). -/
def execSuppress (payload : List Byte) (s : State) : Outcome State Fault Refusal := .next (takeSuppress payload s)

/-- GET ZONES (R100). -/
def execGetZones (payload : List Byte) (s : State) : Outcome State Fault Refusal := .next (takeGetZones payload s)

/-- ALARM ACK (R108). -/
def execAlarmAck (payload : List Byte) (s : State) : Outcome State Fault Refusal := .next (takeAlarmAck payload s)

/-- ALARM FALSE, a key command (R110). -/
def execAlarmFalse (payload : List Byte) (s : State) : Outcome State Fault Refusal := .next (takeAlarmFalse payload s)

/-- ALARM RESET, a key command (R116). -/
def execAlarmReset (payload : List Byte) (s : State) : Outcome State Fault Refusal := .next (takeAlarmReset payload s)

/-- GET ALARM (R117). -/
def execGetAlarm (payload : List Byte) (s : State) : Outcome State Fault Refusal := .next (takeGetAlarm payload s)

/-- CURTAIN MOVE (R126). -/
def execCurtainMove (payload : List Byte) (s : State) : Outcome State Fault Refusal := .next (takeCurtainMove payload s)

/-- DEMONSTRATE (R140). -/
def execDemonstrate (payload : List Byte) (s : State) : Outcome State Fault Refusal := .next (takeDemonstrate payload s)

/-- CLEAR LATCH, a key command (R139). -/
def execClearLatch (payload : List Byte) (s : State) : Outcome State Fault Refusal := .next (takeClearLatch payload s)

/-- GET CURTAINS (R147). -/
def execGetCurtains (payload : List Byte) (s : State) : Outcome State Fault Refusal := .next (takeGetCurtains payload s)

end Sys2Proof.Machine
end

