-- ==== Sys2Proof/Machine/ShowCommands.lean ====
section
/-! DEFINITION. The meanings of the control-frame commands of PHC, HLU and CRG: each is the taking of a well-formed
control frame with this command's code and payload, and the building of its reply (R184, R185). -/

namespace Sys2Proof.Machine

open Host

/-- SET PHASE (R2). -/
def execSetPhase (payload : List Byte) (s : State) : Outcome State Fault Refusal := .next (takeSetPhase payload s)

/-- GET SHOW (R15). -/
def execGetShow (payload : List Byte) (s : State) : Outcome State Fault Refusal := .next (takeGetShow payload s)

/-- HOUSE FADE (R48). -/
def execHouseFade (payload : List Byte) (s : State) : Outcome State Fault Refusal := .next (takeHouseFade payload s)

/-- HOUSE CONSOLE (R50). -/
def execHouseConsole (payload : List Byte) (s : State) : Outcome State Fault Refusal := .next (takeHouseConsole payload s)

/-- HOUSE MASTER (R51). -/
def execHouseMaster (payload : List Byte) (s : State) : Outcome State Fault Refusal := .next (takeHouseMaster payload s)

/-- GET HOUSE (R52). -/
def execGetHouse (payload : List Byte) (s : State) : Outcome State Fault Refusal := .next (takeGetHouse payload s)

/-- GO CUE (R69). -/
def execGoCue (payload : List Byte) (s : State) : Outcome State Fault Refusal := .next (takeGoCue payload s)

end Sys2Proof.Machine
end

