-- ==== Sys2Proof/Machine/StreamEvents.lean ====
section
/-! DEFINITION. The meanings of the commands of the stream pair and of its timers (R17, R18, R24, R25, R31,
R186, R188). -/

namespace Sys2Proof.Machine

open Host

/-- INPUT_BREAK (R17, R26, R186). -/
def execInputBreak (ended : List RxByte) (s : State) : Outcome State Fault Refusal :=
  .next (breakArrives ended s)

/-- INPUT_FRAME_END (R17, R18). -/
def execInputFrameEnd (frame : List RxByte) (s : State) : Outcome State Fault Refusal :=
  .next (frameEnds frame s)

/-- REPLY_END (R188, R191). -/
def execReplyEnd (s : State) : Outcome State Fault Refusal := .next (running replyEnds s)

/-- STREAM_HOLD_EXPIRY (R24). -/
def execStreamHoldExpiry (s : State) : Outcome State Fault Refusal := .next (running holdExpire s)

/-- DARK_IDLE_EXPIRY (R25). -/
def execDarkIdleExpiry (s : State) : Outcome State Fault Refusal := .next (running idleExpire s)

/-- OUTPUT_INTERVAL_EXPIRY (R31, R34); an expiry that is not due is not taken. -/
def execOutputIntervalExpiry (s : State) : Outcome State Fault Refusal :=
  .next (running (fun s => if intervalDue s then intervalExpire s else s) s)

end Sys2Proof.Machine
end

