-- ==== Sys2Proof/Machine/TableCommands.lean ====
section
/-! DEFINITION. The meanings of the control-frame commands of TBS: each is the taking of a well-formed
control frame with this command's code and payload, and the building of its reply (R184, R185). -/

namespace Sys2Proof.Machine

open Host

/-- STAGE OPEN (R198). -/
def execStageOpen (payload : List Byte) (s : State) : Outcome State Fault Refusal := .next (takeStageOpen payload s)

/-- STAGE WRITE (R198). -/
def execStageWrite (payload : List Byte) (s : State) : Outcome State Fault Refusal := .next (takeStageWrite payload s)

/-- STAGE QUEUE (R198). -/
def execStageQueue (payload : List Byte) (s : State) : Outcome State Fault Refusal := .next (takeStageQueue payload s)

/-- COMMIT (R199). -/
def execCommit (payload : List Byte) (s : State) : Outcome State Fault Refusal := .next (takeCommit payload s)

/-- ABORT COMMIT (R202). -/
def execAbortCommit (payload : List Byte) (s : State) : Outcome State Fault Refusal := .next (takeAbortCommit payload s)

/-- GET COMMIT (R202). -/
def execGetCommit (payload : List Byte) (s : State) : Outcome State Fault Refusal := .next (takeGetCommit payload s)

/-- READ ACTIVE (R203). -/
def execReadActive (payload : List Byte) (s : State) : Outcome State Fault Refusal := .next (takeReadActive payload s)

/-- SET AUTHORITY (R204). -/
def execSetAuthority (payload : List Byte) (s : State) : Outcome State Fault Refusal := .next (takeSetAuthority payload s)

/-- LOCK AUTHORITY, a key command (R205). -/
def execLockAuthority (payload : List Byte) (s : State) : Outcome State Fault Refusal := .next (takeLockAuthority payload s)

/-- GET AUTHORITY (R205). -/
def execGetAuthority (payload : List Byte) (s : State) : Outcome State Fault Refusal := .next (takeGetAuthority payload s)

end Sys2Proof.Machine
end

