-- ==== Sys2Proof/Machine/TimerEvents.lean ====
section
/-! DEFINITION. The meanings of the expiries of the house, zone, alarm, curtain, call and attention timers.
An expiry that is not due is not taken. -/

namespace Sys2Proof.Machine

open Host

/-- HANDOVER_EXPIRY of a circuit (R43). -/
def execHandoverExpiry (circuit : Nat) (s : State) : Outcome State Fault Refusal :=
  .next (running (handoverExpire circuit) s)

/-- WINDOW_END_EXPIRY of a zone (R91). -/
def execWindowEndExpiry (zone : Nat) (s : State) : Outcome State Fault Refusal :=
  .next (running (windowExpire zone) s)

/-- OFFSET_TIMER_EXPIRY of a group (R112). -/
def execOffsetTimerExpiry (group : Nat) (s : State) : Outcome State Fault Refusal :=
  .next (running (offsetExpire group) s)

/-- ACK_TIMER_EXPIRY (R109). -/
def execAckTimerExpiry (s : State) : Outcome State Fault Refusal := .next (running ackExpire s)

/-- INVESTIGATION_TIMER_EXPIRY (R109). -/
def execInvestigationTimerExpiry (s : State) : Outcome State Fault Refusal := .next (running invExpire s)

/-- STALL_TIMER_EXPIRY of a curtain (R130). -/
def execStallTimerExpiry (curtain : Nat) (s : State) : Outcome State Fault Refusal :=
  .next (running (stallExpire curtain) s)

/-- DESCENT_EXPIRY of a curtain (R136). -/
def execDescentExpiry (curtain : Nat) (s : State) : Outcome State Fault Refusal :=
  .next (running (descentExpire curtain) s)

/-- DWELL_EXPIRY (R141). -/
def execDwellExpiry (s : State) : Outcome State Fault Refusal := .next (running dwellExpire s)

/-- LOWERING_EXPIRY (R142). -/
def execLoweringExpiry (s : State) : Outcome State Fault Refusal := .next (running loweringExpire s)

/-- CALL_EXPIRY of the entry of a message and a priority (R152). -/
def execCallExpiry (message priority : Nat) (s : State) : Outcome State Fault Refusal :=
  .next (running (callExpire message priority) s)

/-- SCHEDULED_CALL_DUE of a source (R155). -/
def execScheduledCallDue (source : Nat) (s : State) : Outcome State Fault Refusal :=
  .next (running (scheduleExpire source) s)

/-- CALL_OVERRUN_EXPIRY (R159). -/
def execCallOverrunExpiry (s : State) : Outcome State Fault Refusal := .next (running overrunExpire s)

/-- PAGE_LIMIT_EXPIRY (R160). -/
def execPageLimitExpiry (s : State) : Outcome State Fault Refusal := .next (running pageLimitExpire s)

/-- ATTENTION_GAP_EXPIRY (R196). -/
def execAttentionGapExpiry (s : State) : Outcome State Fault Refusal := .next (running gapExpire s)

end Sys2Proof.Machine
end

