-- ==== Sys2Proof/Machine/Dispatch.lean ====
section
/-! DEFINITION. The dispatch of the commands to their meanings: one arm for each constructor of Instr. -/

namespace Sys2Proof.Machine

open Host

def exec (i : Instr) (s : State) : Host.Outcome State Fault Refusal :=
  match i with
  | .resetAssertion => Sys2Proof.Machine.execResetAssertion s
  | .resetRelease straps => Sys2Proof.Machine.execResetRelease straps s
  | .restartPulse => Sys2Proof.Machine.execRestartPulse s
  | .authorityKeyChange isOn => Sys2Proof.Machine.execAuthorityKeyChange isOn s
  | .inputBreak ended => Sys2Proof.Machine.execInputBreak ended s
  | .inputFrameEnd frame => Sys2Proof.Machine.execInputFrameEnd frame s
  | .replyEnd => Sys2Proof.Machine.execReplyEnd s
  | .unknownCommand code payload => Sys2Proof.Machine.execUnknownCommand code payload s
  | .setPhase payload => Sys2Proof.Machine.execSetPhase payload s
  | .getShow payload => Sys2Proof.Machine.execGetShow payload s
  | .streamHoldExpiry => Sys2Proof.Machine.execStreamHoldExpiry s
  | .darkIdleExpiry => Sys2Proof.Machine.execDarkIdleExpiry s
  | .outputIntervalExpiry => Sys2Proof.Machine.execOutputIntervalExpiry s
  | .houseFade payload => Sys2Proof.Machine.execHouseFade payload s
  | .houseConsole payload => Sys2Proof.Machine.execHouseConsole payload s
  | .houseMaster payload => Sys2Proof.Machine.execHouseMaster payload s
  | .getHouse payload => Sys2Proof.Machine.execGetHouse payload s
  | .handoverExpiry circuit => Sys2Proof.Machine.execHandoverExpiry circuit s
  | .goCue payload => Sys2Proof.Machine.execGoCue payload s
  | .suppress payload => Sys2Proof.Machine.execSuppress payload s
  | .windowEndExpiry zone => Sys2Proof.Machine.execWindowEndExpiry zone s
  | .getZones payload => Sys2Proof.Machine.execGetZones payload s
  | .offsetTimerExpiry group => Sys2Proof.Machine.execOffsetTimerExpiry group s
  | .ackTimerExpiry => Sys2Proof.Machine.execAckTimerExpiry s
  | .investigationTimerExpiry => Sys2Proof.Machine.execInvestigationTimerExpiry s
  | .alarmAck payload => Sys2Proof.Machine.execAlarmAck payload s
  | .alarmFalse payload => Sys2Proof.Machine.execAlarmFalse payload s
  | .alarmReset payload => Sys2Proof.Machine.execAlarmReset payload s
  | .getAlarm payload => Sys2Proof.Machine.execGetAlarm payload s
  | .curtainMove payload => Sys2Proof.Machine.execCurtainMove payload s
  | .stallTimerExpiry curtain => Sys2Proof.Machine.execStallTimerExpiry curtain s
  | .descentExpiry curtain => Sys2Proof.Machine.execDescentExpiry curtain s
  | .clearLatch payload => Sys2Proof.Machine.execClearLatch payload s
  | .demonstrate payload => Sys2Proof.Machine.execDemonstrate payload s
  | .dwellExpiry => Sys2Proof.Machine.execDwellExpiry s
  | .loweringExpiry => Sys2Proof.Machine.execLoweringExpiry s
  | .getCurtains payload => Sys2Proof.Machine.execGetCurtains payload s
  | .call payload => Sys2Proof.Machine.execCall payload s
  | .cancelCalls payload => Sys2Proof.Machine.execCancelCalls payload s
  | .callExpiry message priority => Sys2Proof.Machine.execCallExpiry message priority s
  | .scheduledCallDue source => Sys2Proof.Machine.execScheduledCallDue source s
  | .callOverrunExpiry => Sys2Proof.Machine.execCallOverrunExpiry s
  | .pageLimitExpiry => Sys2Proof.Machine.execPageLimitExpiry s
  | .getCalls payload => Sys2Proof.Machine.execGetCalls payload s
  | .pollStart => Sys2Proof.Machine.execPollStart s
  | .replyWindowExpiry => Sys2Proof.Machine.execReplyWindowExpiry s
  | .loopReply bytes => Sys2Proof.Machine.execLoopReply bytes s
  | .loopReplyForcedOver bytes => Sys2Proof.Machine.execLoopReplyForcedOver bytes s
  | .readEvent payload => Sys2Proof.Machine.execReadEvent payload s
  | .ackAttention payload => Sys2Proof.Machine.execAckAttention payload s
  | .setAttentionMask payload => Sys2Proof.Machine.execSetAttentionMask payload s
  | .attentionGapExpiry => Sys2Proof.Machine.execAttentionGapExpiry s
  | .getStatus payload => Sys2Proof.Machine.execGetStatus payload s
  | .getIdentity payload => Sys2Proof.Machine.execGetIdentity payload s
  | .restart payload => Sys2Proof.Machine.execRestart payload s
  | .stageOpen payload => Sys2Proof.Machine.execStageOpen payload s
  | .stageWrite payload => Sys2Proof.Machine.execStageWrite payload s
  | .stageQueue payload => Sys2Proof.Machine.execStageQueue payload s
  | .commit payload => Sys2Proof.Machine.execCommit payload s
  | .abortCommit payload => Sys2Proof.Machine.execAbortCommit payload s
  | .getCommit payload => Sys2Proof.Machine.execGetCommit payload s
  | .readActive payload => Sys2Proof.Machine.execReadActive payload s
  | .setAuthority payload => Sys2Proof.Machine.execSetAuthority payload s
  | .lockAuthority payload => Sys2Proof.Machine.execLockAuthority payload s
  | .getAuthority payload => Sys2Proof.Machine.execGetAuthority payload s
  | .restartLineReturnHigh => Sys2Proof.Machine.execRestartLineReturnHigh s

end Sys2Proof.Machine
end

