-- ==== Sys2Proof/Machine/Step.lean ====
section
/-! DEFINITION. The step: the command at the front of the queue is taken; on an empty queue the timebase
moves on, or the part's own expiries that are due join the queue (log entry 2). -/

namespace Sys2Proof.Machine

open Host

/-- A step with no command waiting: while RESET is held nothing changes; the part's own commands that are due
join the queue; otherwise the timebase moves on by 1 ms. DESIGN CHOICE (log entry 2), unsafe. -/
def idle (s : State) : State :=
  if s.resetHeld then s
  else if (dueCommands s).isEmpty then s.setTime (s.time + 1)
  else s.setPending (dueCommands s)

/-- One step of the part. -/
def step (s : State) : Host.Outcome State Fault Refusal :=
  match s.pending with
  | [] => .next (idle s)
  | c :: rest => exec c (s.setPending rest)

/-- The state with the command that a word spells put at the front of its queue; the table gives no row any
bits, so no word spells one. -/
def State.withFetchWord (s : State) (nbits w : Nat) : State :=
  match Sys2Proof.decodeTableWord nbits w with
  | some c => s.setPending (c :: s.pending)
  | none => s

end Sys2Proof.Machine
end

