-- ==== Sys2Proof/Safety.lean ====
section
/-! DEFINITION. What the claims say of a state: when the part takes commands; the invariants of the
event queue, the alarm record, the announcement channel, the zones, the curtains and the tables that every step keeps; the
conditions of a valid set of tables; and the bytes that statements put on the pairs. -/

namespace Sys2Proof.Machine

/-- RESET is not held: the blocks act (R190). -/
abbrev Running (s : State) : Prop := s.resetHeld = false

/-- CMI can take a control frame: the part runs and the straps spell a unit address (R190, R208). -/
abbrev Ready (s : State) : Prop := s.resetHeld = false ∧ s.unit.isSome = true

/-- The bytes of a control frame to a unit: start code, unit address, command code, length, payload and
the sum of the bytes before it (R183, 12.2). -/
def controlFrameBytes (unit code : Nat) (p : List Byte) : List Byte :=
  let body := [0x6B#8, BitVec.ofNat 8 unit, BitVec.ofNat 8 code, BitVec.ofNat 8 p.length] ++ p
  body ++ enc2 (sum16 body)

/-- The event queue never holds more than 32 events (R193). -/
abbrev EventsBounded (s : State) : Prop := s.evq.queue.length ≤ 32

/-- The alarm record agrees with its stage: SHOW STOP is asserted in EVACUATE alone (R115); outside EVACUATE
every group is CLEAR, no general evacuation is on and no evacuation start stands (R101, R102); in EVACUATE each
of the seven groups is PENDING or EVACUATING (R102); outside INVESTIGATE no step and no timer stands; in NORMAL no originating zone or group stands (R101). -/
abbrev AlarmConsistent (s : State) : Prop :=
  (s.asc.showStop = true ↔ s.asc.stage = .evacuate) ∧
  (s.asc.stage ≠ .evacuate →
    s.asc.groups = List.replicate 7 .clear ∧ s.asc.general = false ∧ s.asc.evacStart = none) ∧
  (s.asc.stage = .evacuate → s.asc.groups.length = 7 ∧ GroupState.clear ∉ s.asc.groups) ∧
  (s.asc.stage ≠ .investigate →
    s.asc.invStep = none ∧ s.asc.ackExpiry = none ∧ s.asc.invExpiry = none) ∧
  (s.asc.stage = .normal → s.asc.zone = none ∧ s.asc.group = none)

/-- The announcement channel and the call queue agree with their rules: the channel is PAGING just while a
station holds it (R156, R160); in EVACUATE the channel is EVACUATION, or PAGING with a station of class FIRE
(R162); the queue holds at most 16 calls, and no two with the same message and the same priority (R150). -/
abbrev ChannelConsistent (s : State) : Prop :=
  (s.clc.channel = .paging ↔ s.clc.holder.isSome = true) ∧
  (s.asc.stage = .evacuate →
    s.clc.channel = .evacuation ∨ (s.clc.channel = .paging ∧ ∃ a, s.clc.holder = some (a, .fire))) ∧
  s.clc.queue.length ≤ 16 ∧
  s.clc.queue.Pairwise fun x y => ¬ (x.message = y.message ∧ x.priority = y.priority)

/-- The zones agree with their rules: numbers 1 to 64, each once (R74); a window stands only on a SMOKE or FLAME
zone without latch, in ACT and NORMAL under a locked authority record (R76, R86), and ends before the zone's
budget is spent (R87, R88); a deferred fire stands only under a window (R92); no count is above its budget
(R77), and none has begun before the record is locked (R86). The staged entries stand in rising index (R197). -/
abbrev ZonesConsistent (s : State) : Prop :=
  (s.zmn.zones.map (·.number)).Nodup ∧
  (∀ r ∈ s.zmn.zones, 1 ≤ r.number ∧ r.number ≤ 64 ∧ (r.deferred = true → r.window.isSome = true) ∧
    ∀ w, r.window = some w →
      (r.kind = .smoke ∨ r.kind = .flame) ∧ r.latch = false ∧ s.phc.phase = .act ∧ s.asc.stage = .normal ∧
      s.tbs.auth.locked = true ∧ s.time ≤ w.finish ∧
      w.finish ≤ w.start + (budgetOf s r.number - usedOf s r.number) * 1000) ∧
  (∀ z, 1 ≤ z → z ≤ 64 → usedOf s z ≤ budgetOf s z) ∧
  (s.tbs.auth.locked = false → ∀ z, 1 ≤ z → z ≤ 64 → usedOf s z = 0) ∧
  (s.tbs.staging.zone.bank.Pairwise fun x y => x.index < y.index) ∧
  ∀ e ∈ s.tbs.staging.zone.bank, 1 ≤ e.index

/-- The curtains agree with their rules: numbers each once; EXPLICIT just while a segment runs, in which no YIELD
and no RESUME is outstanding (R126, R127, R131); no RAISE is outstanding with a latch or outside NORMAL (R138);
under PENDANT no LOWER, RAISE or STOP is (R131); while RELEASE is SENT no other command is (R123); a
demonstration runs only in NORMAL, with a segment of an unlatched curtain (R140, R142). The staged entries stand
in rising index (R197). -/
abbrev CurtainsConsistent (s : State) : Prop :=
  (s.ctc.curtains.map (·.number)).Nodup ∧
  (∀ c ∈ s.ctc.curtains,
    (c.ownership = .explicit ↔ c.motion.isSome = true) ∧
    (c.motion.isSome = true → c.outstanding ≠ some .yield ∧ c.outstanding ≠ some .resume) ∧
    (c.outstanding = some .raise → c.latch = none ∧ s.asc.stage = .normal) ∧
    (c.ownership = .pendant →
      c.outstanding ≠ some .lower ∧ c.outstanding ≠ some .raise ∧ c.outstanding ≠ some .stop) ∧
    (c.release = .sent → c.outstanding = none ∨ c.outstanding = some .release)) ∧
  (s.ctc.demo.running = true → s.asc.stage = .normal ∧
    ∃ c, demoCurtain s = some c ∧ c.motion.isSome = true ∧ c.latch = none) ∧
  s.tbs.staging.curtain.bank.Pairwise fun x y => x.index < y.index

/-! ### The conditions of a valid set of tables (R199) -/

/-- Some entry stands at an index of a bank. -/
abbrev EntryAt (b : Bank) (n : Nat) : Prop := ∃ x ∈ b, x.index = n

/-- No entry of a lower index shares `f` with an entry. -/
abbrev FirstWith {α : Type} (b : Bank) (e : BankEntry) (f : BankEntry → α) : Prop :=
  ∀ x ∈ b, x.index < e.index → f x ≠ f e

/-- The code of the kind that a Poll List gives an address: the first entry's, should two name it. DESIGN CHOICE
(log entry 50), unsafe. -/
def kindCode (poll : Bank) (a : Nat) : Option Nat :=
  (poll.find? fun x => at1 x.bytes 0 == a).map fun x => at1 x.bytes 1

/-- An action's parameters have the length of its kind and lie in their ranges (R65, 12.4). -/
abbrev ActionInRanges (a : RawAction) : Prop :=
  let p := a.params
  (a.kind = 1 ∧ p.length = 3 + at1 p 2 ∧ 1 ≤ at1 p 2 ∧ at1 p 2 ≤ 8 ∧ at2 p 0 ≤ 600 ∧
    ∀ z ∈ p.drop 3, 1 ≤ z.toNat ∧ z.toNat ≤ 64) ∨
  (a.kind = 2 ∧ p.length = 4 ∧ 1 ≤ at1 p 0 ∧ at1 p 0 ≤ 8 ∧ (at2 p 2 = 65535 ∨ at2 p 2 ≤ 6000)) ∨
  (a.kind = 3 ∧ p.length = 4 ∧ 1 ≤ at1 p 0 ∧ at1 p 0 ≤ 32 ∧ at1 p 3 ≤ 3) ∨
  (a.kind = 4 ∧ p.length = 2 ∧ at1 p 0 ≤ 5) ∨
  (a.kind = 5 ∧ p.length = 2 ∧ 1 ≤ at1 p 0 ∧ at1 p 0 ≤ 4 ∧ 1 ≤ at1 p 1 ∧ at1 p 1 ≤ 3)

/-- Every zone, group, message and curtain that an action names exists in a set of tables (R65, R199). -/
abbrev ActionRefers (t : PerTable Bank) (a : RawAction) : Prop :=
  let p := a.params
  (a.kind = 1 → ∀ z ∈ p.drop 3, z.toNat ≤ 64 ∧ EntryAt t.zone z.toNat) ∧
  (a.kind = 2 → ∃ x ∈ t.house, x.index ≠ 0 ∧ at1 x.bytes 0 = at1 p 0) ∧
  (a.kind = 3 → EntryAt t.message (at1 p 0)) ∧
  (a.kind = 5 → EntryAt t.curtain (at1 p 0))

/-- The staff alert message, the evacuation message, and each message that a bell within the count or the beginners
entry names exist (R149, R199). -/
abbrev ScheduleRefers (t : PerTable Bank) (b : List Byte) : Prop :=
  EntryAt t.message (at1 b 15) ∧ EntryAt t.message (at1 b 18) ∧
  (∀ i < 4, i < at1 b 1 → EntryAt t.message (at1 b (3 + 2 * i))) ∧
  (at1 b 10 = 1 → EntryAt t.message (at1 b 12))

/-- The conditions on an entry of a table in a set of tables, each with its reason code, in the order in which they
are checked (R199): RANGE 1, HEADER 2, CUE PAIR 3, REFERENCE 4, HOUSE SLOT 5, DUPLICATE 6, ORDER 7, ROLE 8. The entry
that a condition over several entries falls on is the model's choice (log entry 23), as is the width of the part
duration (log entry 57). -/
def conditionsOf (t : PerTable Bank) (i : TableId) (e : BankEntry) : List (Prop × Nat) :=
  let b := e.bytes
  match i with
  | .slot =>
    if e.index = 0 then
      [(24 ≤ at2 b 0 ∧ at2 b 0 ≤ 512 ∧ 1 ≤ at1 b 2 ∧ at1 b 2 ≤ 30 ∧
        (at2 b 3 = 0 ∨ (60 ≤ at2 b 3 ∧ at2 b 3 ≤ 3600)), 1)]
    else
      [(((at1 b 0 = 1 ∧ 1 ≤ at1 b 1 ∧ at1 b 1 ≤ 48) ∨ (at1 b 0 = 3 ∧ at1 b 1 ≤ 4) ∨
          ((at1 b 0 = 0 ∨ at1 b 0 = 2 ∨ at1 b 0 = 4) ∧ at1 b 1 = 0)) ∧ at1 b 2 ≤ 2, 1),
       (∃ h, bankFind t.slot 0 = some h ∧ e.index ≤ at2 h 0, 2),
       (at1 b 2 ≠ 0 → (∀ x ∈ t.slot, x.index ≠ 0 → x.index < e.index → at1 x.bytes 2 ≠ at1 b 2) ∧
          ∃ x ∈ t.slot, x.index ≠ 0 ∧ at1 x.bytes 2 + at1 b 2 = 3, 3),
       (at1 b 0 = 1 → EntryAt t.house (at1 b 1), 4),
       (at1 b 0 = 1 → ∀ x ∈ t.slot, x.index ≠ 0 → x.index < e.index →
          ¬ (at1 x.bytes 0 = 1 ∧ at1 x.bytes 1 = at1 b 1), 5),
       (at1 b 0 = 3 → at1 b 1 ≠ 0 → EntryAt t.curtain (at1 b 1), 4)]
  | .house =>
    if e.index = 0 then [(∀ g < 8, at2 b (2 * g) ≤ 6000, 1)]
    else
      [(1 ≤ at1 b 0 ∧ at1 b 0 ≤ 8 ∧ 1 ≤ at2 b 1 ∧ at2 b 1 ≤ 512, 1),
       (t.slot ≠ [] → ∃ h, bankFind t.slot 0 = some h ∧ at2 b 1 ≤ at2 h 0, 4)]
  | .cue =>
    let c := cueEntryOf b
    [(1 ≤ c.number ∧ c.number ≤ 65534 ∧ c.filter < 64 ∧ ∀ a ∈ c.actions, ActionInRanges a, 1),
     (FirstWith t.cue e fun x => (cueEntryOf x.bytes).number, 6),
     (c.filter ≠ 0 ∧ 1 ≤ c.actions.length ∧ c.actions.length ≤ 4, 1),
     (∀ a ∈ c.actions, ActionRefers t a, 4)]
  | .zone =>
    if e.index ≤ 64 then
      [(1 ≤ at1 b 0 ∧ at1 b 0 ≤ 5 ∧ 1 ≤ at1 b 1 ∧ at1 b 1 ≤ 126 ∧ 1 ≤ at1 b 2 ∧ at1 b 2 ≤ 8 ∧
          1 ≤ at1 b 3 ∧ at1 b 3 ≤ 2 ∧ 1 ≤ at1 b 4 ∧ at1 b 4 ≤ 2 ∧ at1 b 5 ≤ 6, 1),
       (t.slot ≠ [], 7),
       (kindCode t.poll (at1 b 1) = some 1, 4),
       (FirstWith t.zone e fun x => (at1 x.bytes 1, at1 x.bytes 2), 6)]
    else []
  | .curtain =>
    [(1 ≤ at1 b 0 ∧ at1 b 0 ≤ 126 ∧ 1 ≤ at1 b 1 ∧ at1 b 1 ≤ 2 ∧ at1 b 2 ≤ 1, 1),
     (kindCode t.poll (at1 b 0) = some 2, 4),
     (FirstWith t.curtain e fun x => at1 x.bytes 0, 6),
     ((at1 b 1 = 1 → FirstWith t.curtain e fun x => at1 x.bytes 1) ∧
        (at1 b 2 = 1 → at1 b 1 = 1 ∧ FirstWith t.curtain e fun x => at1 x.bytes 2), 8)]
  | .message =>
    [(1 ≤ at1 b 0 ∧ at1 b 0 ≤ 3 ∧ 1 ≤ at1 b 1 ∧ at1 b 1 ≤ 5 ∧ 100 ≤ at2 b 2 ∧ at2 b 2 ≤ 30000 ∧
        1 ≤ at1 b 6 ∧ at1 b 6 ≤ 3 ∧ at2 b 7 ≤ 600, 1)]
  | .schedule =>
    [(5 ≤ at1 b 0 ∧ at1 b 0 ≤ 60 ∧ at1 b 1 ≤ 4 ∧
        (∀ i < 4, if i < at1 b 1 then at1 b (2 + 2 * i) ≤ 60
          else at1 b (2 + 2 * i) = 0 ∧ at1 b (3 + 2 * i) = 0) ∧
        at1 b 10 ≤ 1 ∧ (at1 b 10 = 0 ∨ at1 b 11 ≤ 60) ∧ 10 ≤ at2 b 19 ∧ at2 b 19 ≤ 300, 1),
     (ScheduleRefers t b, 4)]
  | .poll =>
    [(1 ≤ at1 b 0 ∧ at1 b 0 ≤ 126 ∧ 1 ≤ at1 b 1 ∧ at1 b 1 ≤ 4, 1),
     (FirstWith t.poll e fun x => at1 x.bytes 0, 6),
     (at1 b 1 = 3 → FirstWith t.poll e fun x => at1 x.bytes 1, 8)]

/-- Every entry of a table meets its conditions. -/
abbrev TableMet (t : PerTable Bank) (i : TableId) : Prop :=
  ∀ e ∈ t.get i, ∀ c ∈ conditionsOf t i e, c.1

/-- A Slot Map with entries has a header (R199). -/
abbrev HeaderPresent (t : PerTable Bank) : Prop := t.slot ≠ [] → EntryAt t.slot 0

/-- Every zone, circuit, group, curtain, message, slot or outstation that a table of the set refers to exists in the
set (R65, R199): circuits and curtains of the Slot Map, console input slots of the circuits, what a cue's actions name,
source units of the zones, drive units of the curtains, messages of the Schedule Table. -/
abbrev ReferencesExist (t : PerTable Bank) : Prop :=
  (∀ e ∈ t.slot, e.index ≠ 0 → (at1 e.bytes 0 = 1 → at1 e.bytes 1 ≠ 0 ∧ EntryAt t.house (at1 e.bytes 1)) ∧
    (at1 e.bytes 0 = 3 → at1 e.bytes 1 ≠ 0 → EntryAt t.curtain (at1 e.bytes 1))) ∧
  (∀ e ∈ t.house, e.index ≠ 0 → t.slot ≠ [] → ∃ h ∈ t.slot, h.index = 0 ∧ at2 e.bytes 1 ≤ at2 h.bytes 0) ∧
  (∀ e ∈ t.cue, ∀ a ∈ (cueEntryOf e.bytes).actions, ActionRefers t a) ∧
  (∀ e ∈ t.zone, e.index ≤ 64 → ∃ x ∈ t.poll, at1 x.bytes 0 = at1 e.bytes 1 ∧ at1 x.bytes 1 = 1) ∧
  (∀ e ∈ t.curtain, ∃ x ∈ t.poll, at1 x.bytes 0 = at1 e.bytes 0 ∧ at1 x.bytes 1 = 2) ∧
  (∀ e ∈ t.schedule, ScheduleRefers t e.bytes)

/-- The tables agree with their rules: every reference of the active tables exists in the active tables, and while a
commit is PENDING the set that it will make active keeps the same law, for it is not validated again (R199). -/
abbrev TablesConsistent (s : State) : Prop :=
  ReferencesExist s.tbs.active ∧ (s.tbs.commit.current = .pending → ReferencesExist (prospective s))

/-! ### Bytes on the pairs -/

/-- The bytes of a level frame: the start code 0 and one byte for each slot (R17). -/
def levelBytes (slots : List Byte) : List RxByte := (0#8 :: slots).map fun b => { value := b }

/-- The bytes of a reply as an outstation sends them: address with the mark bit, status byte, payload length,
payload, each with correct parity (R168, R169). -/
def loopReplyBytes (address status : Nat) (payload : List Byte) : List LoopByte :=
  loopFrame address (enc1 status ++ enc1 payload.length ++ payload)

/-- The queue with a call added at its place: after the calls of a higher priority, and after those of its own
priority that were asked for no later (R150). -/
def joined (c : Call) (q : List Call) : List Call :=
  let ahead (e : Call) : Bool :=
    decide (c.priority.code < e.priority.code ∨ (e.priority = c.priority ∧ e.enqueued ≤ c.enqueued))
  q.takeWhile ahead ++ c :: q.dropWhile ahead

end Sys2Proof.Machine
end

