-- ==== Sys2Proof/WellFormed.lean ====
section
/-! DEFINITION. Which commands can arrive at all: the bounds that the frames, lines and records put on
the operands (R17, R169, R171, R183, R208). The meanings are total; they do not need this check. -/

namespace Sys2Proof

/-- A payload fits a control frame (R183: the length byte is 0-200). -/
def payloadFits (p : List Byte) : Bool := p.length ≤ 200

/-- A reply on the loop: at least one byte, and no byte after the first carries the mark bit, since
such a byte ends the reply and is not counted as one of its bytes (R168, R171). -/
def loopBytesFit (bs : List LoopByte) : Bool := !bs.isEmpty && bs.tail.all (fun b => !b.mark)

/-- The command codes of the catalogue (R206). -/
def commandCodes : List Nat :=
  [0x10, 0x11, 0x20, 0x21, 0x22, 0x23, 0x28, 0x30, 0x31, 0x38, 0x39, 0x3A, 0x3B, 0x40, 0x41, 0x42,
   0x43, 0x48, 0x49, 0x4A, 0x50, 0x51, 0x52, 0x53, 0x54, 0x5F, 0x60, 0x61, 0x62, 0x63, 0x64, 0x65,
   0x66, 0x67, 0x68, 0x69]

/-- The command is one that can arrive. -/
def Instr.wellFormed : Instr → Bool
  | .resetAssertion => true
  | .resetRelease straps => straps ≤ 255
  | .restartPulse => true
  | .authorityKeyChange _ => true
  | .inputBreak _ => true
  | .inputFrameEnd frame => !frame.isEmpty
  | .replyEnd => true
  | .unknownCommand code p => code ≤ 255 && !commandCodes.contains code && payloadFits p
  | .setPhase p => payloadFits p
  | .getShow p => payloadFits p
  | .streamHoldExpiry => true
  | .darkIdleExpiry => true
  | .outputIntervalExpiry => true
  | .houseFade p => payloadFits p
  | .houseConsole p => payloadFits p
  | .houseMaster p => payloadFits p
  | .getHouse p => payloadFits p
  | .handoverExpiry c => 1 ≤ c && c ≤ 48
  | .goCue p => payloadFits p
  | .suppress p => payloadFits p
  | .windowEndExpiry z => 1 ≤ z && z ≤ 64
  | .getZones p => payloadFits p
  | .offsetTimerExpiry g => g ≤ 6
  | .ackTimerExpiry => true
  | .investigationTimerExpiry => true
  | .alarmAck p => payloadFits p
  | .alarmFalse p => payloadFits p
  | .alarmReset p => payloadFits p
  | .getAlarm p => payloadFits p
  | .curtainMove p => payloadFits p
  | .stallTimerExpiry c => 1 ≤ c && c ≤ 4
  | .descentExpiry c => 1 ≤ c && c ≤ 4
  | .clearLatch p => payloadFits p
  | .demonstrate p => payloadFits p
  | .dwellExpiry => true
  | .loweringExpiry => true
  | .getCurtains p => payloadFits p
  | .call p => payloadFits p
  | .cancelCalls p => payloadFits p
  | .callExpiry m pr => 1 ≤ m && m ≤ 32 && 1 ≤ pr && pr ≤ 4
  | .scheduledCallDue src => 1 ≤ src && src ≤ 5
  | .callOverrunExpiry => true
  | .pageLimitExpiry => true
  | .getCalls p => payloadFits p
  | .pollStart => true
  | .replyWindowExpiry => true
  | .loopReply bs => loopBytesFit bs && bs.all (fun b => b.later ≤ 9)
  | .loopReplyForcedOver bs => loopBytesFit bs
  | .readEvent p => payloadFits p
  | .ackAttention p => payloadFits p
  | .setAttentionMask p => payloadFits p
  | .attentionGapExpiry => true
  | .getStatus p => payloadFits p
  | .getIdentity p => payloadFits p
  | .restart p => payloadFits p
  | .stageOpen p => payloadFits p
  | .stageWrite p => payloadFits p
  | .stageQueue p => payloadFits p
  | .commit p => payloadFits p
  | .abortCommit p => payloadFits p
  | .getCommit p => payloadFits p
  | .readActive p => payloadFits p
  | .setAuthority p => payloadFits p
  | .lockAuthority p => payloadFits p
  | .getAuthority p => payloadFits p
  | .restartLineReturnHigh => true

end Sys2Proof
end

