-- ==== Sys2Proof/Certificates/Slice0/Obligations.lean ====
section
/-! DEFINITION. The statements about the model: the rules of the spec, command by command, and the invariants
that every step keeps. Each docstring names the rules that its statement rests on; `fresh`, the model's count of
free values, is written by `buildReply` and constrained by nothing (log entry 5). -/

open Sys2Proof Sys2Proof.Machine

/-! ### The queue, the lines and the restarts -/

/-- A step runs the command at the front of the queue. (What each step holds) -/
def Obligations.StepTakesFrontCommand : Prop :=
  ∀ (c : Instr) (rest : List Instr) (s : State),
    s.pending = c :: rest → step s = exec c (s.setPending rest)

/-- A step with an empty queue: held in reset nothing, else exactly the due expiries join the queue, else
time moves on by 1 ms (model's choice, log 2). (Conventions, What each step holds, R168) The model's choice:
log entry 18; log entry 2. -/
def Obligations.StepWithNothingWaiting : Prop :=
  ∀ s : State, s.pending = [] →
    (s.resetHeld = true → step s = .next s) ∧
    (s.resetHeld = false → dueCommands s ≠ [] → step s = .next (s.setPending (dueCommands s))) ∧
    (s.resetHeld = false → dueCommands s = [] → step s = .next (s.setTime (s.time + 1))) ∧
    (s.resetHeld = true → dueCommands s = []) ∧
    (s.resetHeld = false → ∀ i : Instr, i ∈ dueCommands s ↔
      (i = .streamHoldExpiry ∧ s.srx.state = .ok ∧ s.srx.lastGood + holdTime s.tbs.active.slot ≤ s.time) ∨
      (i = .darkIdleExpiry ∧ (s.srx.state = .ok ∨ s.srx.state = .lost) ∧ s.phc.phase = .dark ∧
        s.asc.stage = .normal ∧ idleTime s.tbs.active.slot ≠ 0 ∧
        s.srx.idleRef + idleTime s.tbs.active.slot ≤ s.time) ∨
      (i = .outputIntervalExpiry ∧ s.fbl.running = true ∧ ∃ e, s.fbl.expiry = some e ∧ e ≤ s.time) ∨
      (∃ c ∈ s.hlu.circuits, ∃ h, c.source = .console (some h) ∧ h.start + h.duration ≤ s.time ∧
        i = .handoverExpiry c.number) ∨
      (∃ r ∈ s.zmn.zones, ∃ x w, findZone s r.number = some x ∧ x.window = some w ∧ w.finish ≤ s.time ∧
        i = .windowEndExpiry r.number) ∨
      (i = .ackTimerExpiry ∧ s.asc.stage = .investigate ∧ s.asc.invStep = some .awaitingAck ∧
        ∃ e, s.asc.ackExpiry = some e ∧ e ≤ s.time) ∨
      (i = .investigationTimerExpiry ∧ s.asc.stage = .investigate ∧ s.asc.invStep = some .investigating ∧
        ∃ e, s.asc.invExpiry = some e ∧ e ≤ s.time) ∨
      (∃ g d, g < 7 ∧ s.asc.groups[g]? = some (.pending d) ∧ d ≤ s.time ∧ i = .offsetTimerExpiry g) ∨
      (∃ c ∈ s.ctc.curtains, ∃ m, c.motion = some m ∧ m.progress + 3000 ≤ s.time ∧
        ¬ (demoRunsOn s c.number = true ∧ s.ctc.demo.state = .dwell) ∧ i = .stallTimerExpiry c.number) ∨
      (∃ c ∈ s.ctc.curtains, ∃ d, c.descent = some d ∧ d.taken = false ∧ d.expiry ≤ s.time ∧
        i = .descentExpiry c.number) ∨
      (i = .dwellExpiry ∧ s.ctc.demo.state = .dwell ∧ (demoCurtain s).isSome = true ∧
        ∃ e, s.ctc.demo.dwellExpiry = some e ∧ e ≤ s.time) ∨
      (i = .loweringExpiry ∧ s.ctc.demo.state = .lowering ∧ (demoCurtain s).isSome = true ∧
        ∃ e, s.ctc.demo.loweringExpiry = some e ∧ e ≤ s.time) ∨
      (∃ c ∈ s.clc.queue, ∃ e, c.expiry = some e ∧ e ≤ s.time ∧ i = .callExpiry c.message c.priority.code) ∨
      (∃ e ∈ s.clc.sched, e.due ≤ (s.time : Int) ∧ i = .scheduledCallDue e.source) ∨
      (i = .callOverrunExpiry ∧ s.clc.channel = .playing ∧ s.clc.current.isSome = true ∧
        ∃ e, s.clc.overrun = some e ∧ e ≤ s.time) ∨
      (i = .pageLimitExpiry ∧ s.clc.channel = .paging ∧
        ∃ e, s.clc.pageLimit = some e ∧ e ≤ s.time) ∨
      (i = .attentionGapExpiry ∧ ∃ e, s.evq.gap = some e ∧ e ≤ s.time) ∨
      (i = .replyEnd ∧ ∃ r, s.cmi.reply = some r ∧ r.built + 25 ≤ s.time) ∨
      (∃ t, s.lpc.tx = some t ∧
        ((i = .replyWindowExpiry ∧ t.heard = none ∧
            t.start * 1000 + t.bytes.length * 192 + 5000 ≤ s.time * 1000) ∨
          (∃ running bs, t.heard = some (running, bs) ∧ t.over running bs ≤ s.time ∧
            ((i = .loopReply (t.taken running bs) ∧
                t.over running bs * 1000 < t.start * 1000 + t.bytes.length * 192 + 9000) ∨
              (i = .loopReplyForcedOver (t.taken running bs) ∧
                t.start * 1000 + t.bytes.length * 192 + 9000 ≤ t.over running bs * 1000))))) ∨
      (i = .pollStart ∧ s.lpc.tx = none ∧ (s.lpc.quietOwed = true → s.lpc.busyUntil < s.time) ∧
        ∃ st ∈ s.lpc.stations, st.index = s.lpc.position))

/-- RESET_ASSERTION sets every block to its full reset values, RESET_RELEASE starts the part with its straps
and START, and the input lines are recorded. (R190, R1, R22, R36, R59, R99, R146, R156, R195, R204, R208,
R209) The model's choice: log entries 3, 4 and 5; log entry 1. -/
def Obligations.ResetRestoresAndStartsThePart : Prop :=
  (∀ s : State, ∃ t, exec .resetAssertion s = .next t ∧
    t.resetHeld = true ∧ t.time = 0 ∧ t.unit = none ∧
    t.phc = ⟨.dark, 0, 0, 0, 0⟩ ∧
    t.srx = { table := List.replicate 512 0, valid := 0, state := .noStream, lastGood := 0, idleRef := 0,
              wakePending := false, discardOwed := false, lastFrame := ⟨.none, 0, false, false⟩,
              receiving := false } ∧
    t.fbl = ⟨false, none, none, false, none⟩ ∧
    t.hlu.circuits = [] ∧ t.hlu.groups = [1, 2, 3, 4, 5, 6, 7, 8].map (fun g => ⟨g, 255, 0⟩) ∧
    t.crg = ⟨none, none⟩ ∧
    t.zmn = ⟨[], List.replicate 64 0⟩ ∧
    t.asc = { stage := .normal, invStep := none, zone := none, group := none, stageStart := 0,
              ackExpiry := none, invExpiry := none, general := false, evacStart := none, showStop := false,
              lastPre := none, groups := List.replicate 7 .clear } ∧
    t.ctc = ⟨[], ⟨.notDone, none, none, none, none, none⟩⟩ ∧
    t.clc = { queue := [], sched := [], requests := [], owing := [], showing := [], revokeOwed := [],
              channel := .idle, current := none, playTaken := false, overrun := none, cut := none,
              cutTaken := false, holder := none, pageLimit := none, evacZones := 0, evacOwed := false,
              evacRefused := false, announcer := .unknown, unitReport := none } ∧
    t.lpc = { stations := [], position := 0, tx := none, busyUntil := 0, quietOwed := false } ∧
    t.evq = ⟨[], 0, true, false, none⟩ ∧
    t.cmi = ⟨⟨false, false, false, false, false, false, false, false, false, false, false, false, false⟩,
             0, 0, none, false⟩ ∧
    t.tbs.active = ⟨[], [], [], [], [], [], [], []⟩ ∧
    (∀ i, t.tbs.staging.get i = ⟨.empty, []⟩) ∧
    t.tbs.commit = ⟨.none, .none, [], none, 0⟩ ∧
    t.tbs.auth = ⟨List.replicate 64 0, List.replicate 64 0, 30, 120, 120, 30, 20, .warn, false⟩ ∧
    t.keyOn = s.keyOn ∧ t.restartArmed = s.restartArmed ∧ t.fresh = s.fresh ∧ t.pending = s.pending) ∧
  (∀ s : State,
    (∀ straps : Nat, s.resetHeld = true → s.evq = {} →
      exec (.resetRelease straps) s = .next
        ((((s.setResetHeld false).setTime 0).setUnit
          (if 1 ≤ straps ∧ straps ≤ 254 then some straps else none)).setEvq
            { queue := [⟨0, 3, .started, 0, none⟩], mask := 0, armed := false, line := true, gap := none })) ∧
    (∀ b, exec (.authorityKeyChange b) s = .next (s.setKeyOn b)) ∧
    exec .restartLineReturnHigh s = .next (s.setRestartArmed true) ∧
    (s.restartArmed = false → exec .restartPulse s = .next s) ∧
    (s.resetHeld = true → s.restartArmed = true →
      exec .restartPulse s = .next (s.setRestartArmed false)))

/-- A warm restart, by RESTART_PULSE or by RESTART at its reply's end, keeps the show, the alarm, tables,
authority and masters, and empties what it must. (R191, R30, R73, R119, R182, R189, R195, R197, R209) The
model's choice: log entry 18; log entry 19. -/
def Obligations.WarmRestartKeepsTheHouseSafe : Prop :=
  (∀ s : State, Running s → s.restartArmed = true → (∀ r ∈ s.zmn.zones, r.window = none) →
     ∃ t, exec .restartPulse s = .next t ∧
       t.time = s.time ∧ t.keyOn = s.keyOn ∧ t.unit = s.unit ∧ t.restartArmed = false ∧
       t.phc = s.phc ∧ t.asc = s.asc ∧ t.tbs.active = s.tbs.active ∧ t.tbs.auth = s.tbs.auth ∧
       t.srx = { s.srx with receiving := false } ∧ t.crg = { s.crg with previous := none } ∧
       t.zmn.used = s.zmn.used ∧ t.zmn.zones = s.zmn.zones.map (fun r => { r with deferred := false }) ∧
       t.hlu.groups = s.hlu.groups ∧
       (∀ i, t.tbs.staging.get i = ⟨.empty, []⟩) ∧
       t.clc.queue = [] ∧ t.clc.sched = [] ∧ t.clc.requests = [] ∧
       t.lpc.tx = none ∧ t.lpc.quietOwed = true ∧
       t.lpc.busyUntil = (if s.lpc.tx.isSome then max s.lpc.busyUntil s.time else s.lpc.busyUntil) ∧
       t.lpc.stations.map (·.state) = s.lpc.stations.map (fun _ => .unknown) ∧
       t.cmi.reply = none ∧ t.cmi.restarts = min (s.cmi.restarts + 1) 65535 ∧
       t.evq.mask = s.evq.mask ∧ t.evq.gap = none) ∧
  (∀ s : State, Ready s → s.keyOn = true →
     exec (.restart []) s = .next
       (buildReply 0x5F ⟨s.setCmi { s.cmi with restartOwed := true }, .done, []⟩) ∧
     (∀ r, s.cmi.reply = some r → r.shown = none → s.cmi.restartOwed = true →
       exec .replyEnd s = .next (warmRestart 2 (s.setCmi { s.cmi with reply := none }))))

/-- A warm restart records the circuits, starts or stops the output, aborts a commit and a demonstration,
stops the curtains and gives up or seizes the channel. (R36, R60, R142, R145, R166, R178, R182, R191, R202)
The model's choice: log entry 13; log entry 19; log entry 46; log entry 6; log entry 8. -/
def Obligations.WarmRestartReachesEveryOwner : Prop :=
  ∀ (s e : State) (flying : Bool) (union : FohSet), Running s → s.restartArmed = true →
    (∀ r ∈ s.zmn.zones, r.window = none) → flying = decide (s.srx.state = .ok ∨ s.srx.state = .lost) →
    union = (((List.range s.asc.groups.length).filter fun g => match s.asc.groups[g]? with
      | some (.evacuating _ _) => true
      | _ => false).map (groupFoh s.tbs.active.zone)).foldl (· ||| ·) 0 →
    e = (s.setCmi { s.cmi with
        reply := none
        restartOwed := false
        restarts := min (s.cmi.restarts + 1) 65535 }).setEvq { s.evq with gap := none, line := false, armed := true } →
    ∃ t, exec .restartPulse s = .next t ∧
      t.hlu = { s.hlu with circuits := s.hlu.circuits.map fun c =>
        if flying = true ∧ housed s.tbs.active.slot c.number = true then
          { c with lastSent := circuitLevel s c s.time }
        else c } ∧
      (flying = true → t.fbl = {
        running := true
        expiry := some (s.time + 25)
        holding := none
        lastOther := false
        frame := if frameSlots s = 0 then (if sendingFrame s then none else s.fbl.frame)
          else some ⟨false, s.time, buildLevels s, sendingFrame s⟩ }) ∧
      (flying = false → t.fbl = ⟨false, none, none, false, none⟩) ∧
      t.tbs.commit = (if s.tbs.commit.current = .pending then
        ⟨.aborted, s.tbs.commit.previous, s.tbs.commit.tables, none, s.time⟩ else s.tbs.commit) ∧
      t.ctc.demo = (if s.ctc.demo.state ∈ [DemoState.lowering, .dwell, .raising] ∧ (demoCurtain s).isSome = true then
        ⟨.notDone, none, none, none, s.ctc.demo.loweringTime, none⟩ else s.ctc.demo) ∧
      ((s.ctc.curtains.map (·.number)).Nodup → t.ctc.curtains = s.ctc.curtains.map fun c =>
        { c with
          motion := none
          ownership := if c.ownership = .explicit then .implicit else c.ownership
          holdWaiting := false
          outstanding := if c.release = .sent then some .release
            else if c.motion.isSome then some .stop else none }) ∧
      ((s.ctc.curtains.map (·.number)).Nodup → (s.ctc.curtains.map (·.unit)).Nodup →
        t.lpc.stations = s.lpc.stations.map fun st =>
          match s.ctc.curtains.find? fun c => c.unit == st.address with
          | some c =>
            if c.release = .sent then
              ({ index := st.index, address := st.address, kind := st.kind } : Station).handOver (.drive .release)
            else if c.motion.isSome then
              ({ index := st.index, address := st.address, kind := st.kind } : Station).handOver (.drive .stop)
            else { index := st.index, address := st.address, kind := st.kind }
          | none => { index := st.index, address := st.address, kind := st.kind }) ∧
      t.clc = {
        owing := s.clc.showing
        showing := s.clc.showing
        revokeOwed := match s.clc.holder with
          | some (a, _) => a :: s.clc.revokeOwed.filter fun x => x != a
          | none => s.clc.revokeOwed
        channel := if s.asc.stage = .evacuate then .evacuation else .idle
        evacZones := if s.asc.stage = .evacuate then union else 0
        evacRefused := s.clc.evacRefused
        unitReport := s.clc.unitReport } ∧
      (∀ u : State, u = evaluateAttention
          ((match s.clc.holder with
            | some (a, _) => post .pageRevoked a (some 4)
            | none => id)
          ((match demoCurtain s with
            | some c => if s.ctc.demo.state ∈ [DemoState.lowering, .dwell, .raising] then
                post .demonstrationAbandoned c.number (some 3) else id
            | none => id)
          ((if s.tbs.commit.current = CommitState.pending then post .commitAborted 0 none else id)
            (post .restarted 0 (some 1) e)))) →
        t.evq = u.evq ∧ t.cmi = u.cmi)

/-! ### Control commands and replies -/

/-- Before its owner sees a command: nothing without unit address or under RESET, UNKNOWN_COMMAND off the
catalogue, REFUSED_KEY with the key off. (R184, R190, R208) The model's choice: log entry 31. -/
def Obligations.CommandsAreCheckedBeforeTheirOwner : Prop :=
  ∀ s : State,
    (∀ c : Instr, (controlCode c).isSome = true → ¬ Ready s → exec c s = .next s) ∧
    (∀ p : List Byte, Ready s → p.length ≤ 200 →
      (∀ code, exec (.unknownCommand code p) s = .next (buildReply code ⟨s, .unknownCommand, []⟩)) ∧
      (s.keyOn = false →
        exec (.alarmFalse p) s = .next (buildReply 0x39 ⟨post .keyRefused 0x39 none s, .refusedKey, []⟩) ∧
        exec (.alarmReset p) s = .next (buildReply 0x3A ⟨post .keyRefused 0x3A none s, .refusedKey, []⟩) ∧
        exec (.clearLatch p) s = .next (buildReply 0x42 ⟨post .keyRefused 0x42 none s, .refusedKey, []⟩) ∧
        exec (.restart p) s = .next (buildReply 0x5F ⟨post .keyRefused 0x5F none s, .refusedKey, []⟩) ∧
        exec (.lockAuthority p) s = .next (buildReply 0x68 ⟨post .keyRefused 0x68 none s, .refusedKey, []⟩)))

/-- A reply holds its code, result, payload, the build instant and seven summary flags; its end clears
exactly the sticky flags it showed. (R185, R188) The model's choice: log entry 5; log entry 53. -/
def Obligations.RepliesShowTheFlagsAndClearThem : Prop :=
  (∀ (code : Nat) (t : State) (r : Result) (payload : List Byte),
     (buildReply code ⟨t, r, payload⟩) =
       (t.setFresh (t.fresh + 1)).setCmi
         { t.cmi with
           reply := some ⟨code, r, summaryFlags t, payload,
             if code = 0x53 ∧ r = .done then some (t.cmi.sticky, t.cmi.discards) else none, t.time⟩ } ∧
     ((summaryFlags t).testBit 0 = true ↔ t.evq.queue ≠ []) ∧
     ((summaryFlags t).testBit 1 = true ↔ t.evq.line = true) ∧
     ((summaryFlags t).testBit 2 = true ↔ t.cmi.sticky.eventsDiscarded = true) ∧
     ((summaryFlags t).testBit 3 = true ↔ t.tbs.commit.current = .pending) ∧
     ((summaryFlags t).testBit 4 = true ↔ t.asc.stage ≠ .normal) ∧
     ((summaryFlags t).testBit 5 = true ↔ t.srx.state ≠ .ok) ∧
     ((summaryFlags t).testBit 6 = true ↔ t.tbs.auth.locked = true) ∧
     summaryFlags t < 128) ∧
  (∀ (s : State) (r : Reply), Running s → s.cmi.reply = some r → s.cmi.restartOwed = false →
     (r.shown = none → exec .replyEnd s = .next (s.setCmi { s.cmi with reply := none })) ∧
     (∀ f n, r.shown = some (f, n) → ∃ t, exec .replyEnd s = .next t ∧
       t = s.setCmi t.cmi ∧ t.cmi.reply = none ∧ t.cmi.restarts = s.cmi.restarts ∧
       t.cmi.discards = s.cmi.discards - n ∧
       t.cmi.sticky.toList = List.zipWith (fun now shown => now && !shown) s.cmi.sticky.toList f.toList))

/-! ### Events and ATTENTION -/

/-- An event joins the queue or is lost and counted, and may assert ATTENTION; ACK ATTENTION drops the line
for a 100 ms gap; the mask takes 0 to 6; no step takes the event queue above 32 records. (R192, R193, R195, R196) The
model's choice: log entry 17. -/
def Obligations.EventsArePostedAndAttentionFollows : Prop :=
  (∀ (q : List EventRecord) (r : EventRecord),
      (q.length < 32 → placeEvent q r = (q ++ [r], false)) ∧
      (32 ≤ q.length → r.level ≤ 3 → placeEvent q r = (q, true)) ∧
      (∀ a x b, 32 ≤ q.length → 4 ≤ r.level → q = a ++ x :: b → x.level ≤ 3 → (∀ y ∈ a, 4 ≤ y.level) →
        placeEvent q r = (a ++ b ++ [r], true)) ∧
      (∀ a x b, 32 ≤ q.length → 4 ≤ r.level → (∀ y ∈ q, 4 ≤ y.level) → q = a ++ x :: b →
        x.level < r.level → (∀ y ∈ a, r.level ≤ y.level) → placeEvent q r = (a ++ b ++ [r], true)) ∧
      (32 ≤ q.length → 4 ≤ r.level → (∀ y ∈ q, 4 ≤ y.level ∧ r.level ≤ y.level) →
        placeEvent q r = (q, true))) ∧
  (∀ (e : Event) (index : Nat) (arg : Option Nat) (s : State) (q : List EventRecord) (lost : Bool),
      placeEvent s.evq.queue ⟨s.time / 1000, e.level, e, index, arg⟩ = (q, lost) →
      (s.evq.armed = true ∧ s.evq.gap = none ∧ (∃ r ∈ q, s.evq.mask < r.level ∨ r.level = 7) →
        post e index arg s =
          (s.setEvq { s.evq with queue := q, line := true, armed := false }).setCmi (countDiscard lost s.cmi)) ∧
      (¬ (s.evq.armed = true ∧ s.evq.gap = none ∧ ∃ r ∈ q, s.evq.mask < r.level ∨ r.level = 7) →
        post e index arg s = (s.setEvq { s.evq with queue := q }).setCmi (countDiscard lost s.cmi)) ∧
      countDiscard false s.cmi = s.cmi ∧
      countDiscard true s.cmi =
        { s.cmi with
          sticky := { s.cmi.sticky with eventsDiscarded := true }
          discards := if s.cmi.discards < 65535 then s.cmi.discards + 1 else 65535 }) ∧
  (∀ s : State, Ready s →
    exec (.ackAttention []) s = .next
      (buildReply 0x51 ⟨s.setEvq { s.evq with line := false, armed := true, gap := some (s.time + 100) },
        .done, enc1 (if s.evq.line then 1 else 0)⟩) ∧
    (∀ e, s.evq.gap = some e → s.time < e → exec .attentionGapExpiry s = .next s) ∧
    (∀ e, s.evq.gap = some e → e ≤ s.time → s.evq.armed = true →
      (∃ r ∈ s.evq.queue, s.evq.mask < r.level ∨ r.level = 7) →
      exec .attentionGapExpiry s = .next
        (s.setEvq { s.evq with gap := none, line := true, armed := false })) ∧
    (∀ e, s.evq.gap = some e → e ≤ s.time →
      (s.evq.armed = false ∨ ∀ r ∈ s.evq.queue, r.level ≤ s.evq.mask ∧ r.level ≠ 7) →
      exec .attentionGapExpiry s = .next (s.setEvq { s.evq with gap := none })) ∧
    (∀ m : Byte, m.toNat ≤ 6 → exec (.setAttentionMask [m]) s = .next
      (buildReply 0x52 ⟨evaluateAttention (s.setEvq { s.evq with mask := m.toNat }), .done, []⟩)) ∧
    (∀ m : Byte, 7 ≤ m.toNat → exec (.setAttentionMask [m]) s = .next
      (buildReply 0x52 ⟨s, .badArgument, []⟩))) ∧
  (∀ s t : State, EventsBounded s → step s = .next t → EventsBounded t)

/-- READ EVENT removes the oldest record and returns it with the number that remain. (R194) -/
def Obligations.ReadEventTakesTheOldest : Prop :=
  ∀ s : State, Ready s →
    (s.evq.queue = [] → exec (.readEvent []) s = .next (buildReply 0x50 ⟨s, .done, []⟩)) ∧
    (∀ r rest, s.evq.queue = r :: rest → exec (.readEvent []) s = .next
      (buildReply 0x50 ⟨s.setEvq { s.evq with queue := rest }, .done,
        enc4 r.time ++ enc1 r.level ++ enc1 r.event.source ++ enc2 r.index ++ enc2 r.event.code ++
          enc1 (if r.arg.isSome then 1 else 0) ++ enc2 (r.arg.getD 0) ++ enc1 rest.length⟩))

/-! ### The phases -/

/-- SET PHASE takes exactly the listed transitions with the new show record, and refuses the others by their
rule. (R2, R3, R4, R5, R7, R8, R9) The model's choice: log entry 45. -/
def Obligations.SetPhaseTakesOrRefuses : Prop :=
  (∀ (code minutes : Byte) (q : Phase) (s : State), Ready s → s.asc.stage = .normal →
      Phase.ofCode code.toNat = some q → (s.phc.phase, q) ≠ (.dark, .dark) →
      ((s.phc.phase, q) ∉ [(Phase.dark, Phase.preshow), (.preshow, .houseOpen), (.preshow, .dark),
          (.houseOpen, .act), (.houseOpen, .dark), (.act, .interval), (.act, .houseClear), (.act, .dark),
          (.interval, .act), (.interval, .dark), (.houseClear, .dark)] →
        exec (.setPhase [code, minutes]) s = .next (buildReply 0x10 ⟨s, .refusedState, showBytes s⟩)) ∧
      ((s.phc.phase, q) ∈ [(Phase.dark, Phase.preshow), (.preshow, .houseOpen), (.preshow, .dark),
          (.houseOpen, .act), (.houseOpen, .dark), (.act, .interval), (.act, .houseClear), (.act, .dark),
          (.interval, .act), (.interval, .dark), (.houseClear, .dark)] →
        (q = .act → s.phc.act < 9 ∧ (s.phc.act = 0 → s.ctc.demo.state = .passed ∨ s.tbs.auth.demoRule ≠ .enforce)) →
        ∃ t r, exec (.setPhase [code, minutes]) s = .next (buildReply 0x10 ⟨t, r, showBytes t⟩) ∧
          t.phc =
            { phase := q
              performance := if q = .preshow then (s.phc.performance + 1) % 65536 else s.phc.performance
              act := if q = .preshow then 0 else if q = .act then s.phc.act + 1 else s.phc.act
              interval := if q = .interval then
                  (if minutes.toNat = 0 then defaultInterval s.tbs.active.schedule
                   else max 5 (min 60 minutes.toNat))
                else s.phc.interval
              start := s.time } ∧
          (r = .clamped ↔ q = .interval ∧ minutes.toNat ≠ 0 ∧ (minutes.toNat < 5 ∨ 60 < minutes.toNat)) ∧
          (r = .done ∨ r = .clamped))) ∧
  (∀ (code minutes : Byte) (s : State), Ready s →
      (Phase.ofCode code.toNat = none →
        exec (.setPhase [code, minutes]) s = .next (buildReply 0x10 ⟨s, .badArgument, showBytes s⟩)) ∧
      (code.toNat ≤ 5 → s.asc.stage ≠ .normal →
        exec (.setPhase [code, minutes]) s = .next (buildReply 0x10 ⟨s, .refusedState, showBytes s⟩)) ∧
      (code.toNat = 0 → s.asc.stage = .normal → s.phc.phase = .dark →
        exec (.setPhase [code, minutes]) s = .next (buildReply 0x10 ⟨s, .done, showBytes s⟩)) ∧
      (code.toNat = 3 → s.asc.stage = .normal → s.phc.phase = .interval → s.phc.act = 9 →
        exec (.setPhase [code, minutes]) s = .next (buildReply 0x10 ⟨s, .refusedState, showBytes s⟩)) ∧
      (code.toNat = 3 → s.asc.stage = .normal → s.phc.phase = .houseOpen → s.phc.act = 0 →
        s.ctc.demo.state ≠ .passed → s.tbs.auth.demoRule = .enforce →
        exec (.setPhase [code, minutes]) s = .next (buildReply 0x10 ⟨s, .refusedState, showBytes s⟩)))

/-- A phase change posts PHASE ENTERED and does what its entry and exit ask: windows closed, budgets to 0,
demonstration NOT DONE, calls scheduled, taken at once when due, or removed; at HOUSE OPEN a level frame being sent is
cut and built again with the walk floors. (R4, R5, R6, R7, R8, R12, R25, R45, R95, R140, R151, R155) The model's choice:
log entry 45; log entry 46; log entry 55; log entry 6; log entry 8. -/
def Obligations.PhaseChangesReachTheHouse : Prop :=
  ∀ (code minutes : Byte) (q : Phase) (act : Nat) (s : State), Ready s → s.asc.stage = .normal →
    Phase.ofCode code.toNat = some q →
    (s.phc.phase, q) ∈ [(Phase.dark, Phase.preshow), (.preshow, .houseOpen), (.preshow, .dark),
      (.houseOpen, .act), (.houseOpen, .dark), (.act, .interval), (.act, .houseClear), (.act, .dark),
      (.interval, .act), (.interval, .dark), (.houseClear, .dark)] →
    (q = .act → s.phc.act < 9 ∧ (s.phc.act = 0 → s.ctc.demo.state = .passed ∨ s.tbs.auth.demoRule ≠ .enforce)) →
    s.tbs.commit.current ≠ .pending →
    act = (if q = .preshow then 0 else if q = .act then s.phc.act + 1 else s.phc.act) →
    ∃ t r p, exec (.setPhase [code, minutes]) s = .next (buildReply 0x10 ⟨t, r, p⟩) ∧
      (s.phc.phase = .act → (s.zmn.zones.map (·.number)).Nodup → ∀ r ∈ t.zmn.zones, r.window = none) ∧
      ((s.phc.phase = .act → ∀ r ∈ s.zmn.zones, r.window = none) →
        t.asc = s.asc ∧ t.tbs = s.tbs ∧ t.crg = s.crg ∧ t.time = s.time ∧ t.zmn.zones = s.zmn.zones ∧
        t.zmn.used = (if q = .preshow then List.replicate 64 0 else s.zmn.used) ∧
        t.srx = (if q = .dark then { s.srx with idleRef := s.time } else s.srx) ∧
        (q ≠ .houseOpen ∨ sendingLevel s = false ∨ s.fbl.running = false → t.fbl = s.fbl ∧ t.hlu = s.hlu) ∧
        (q = .houseOpen → sendingLevel s = true → s.fbl.running = true →
          t.fbl = { s.fbl with
            expiry := some (s.time + 25)
            lastOther := false
            frame := if frameSlots s = 0 then none
              else some ⟨false, s.time, buildLevels (s.setPhc t.phc), true⟩ } ∧
          t.hlu = { s.hlu with
            circuits := s.hlu.circuits.map fun c =>
              if housed s.tbs.active.slot c.number then
                { c with lastSent := circuitLevel (s.setPhc t.phc) c s.time }
              else c } ∧
          ∀ n c r, 1 ≤ n → n ≤ frameSlots s → slotMapEmpty s.tbs.active.slot = false →
            slotClass s.tbs.active.slot n = .house c → findCircuit s.hlu c = some r → r.override = none →
            ∃ level, (buildLevels (s.setPhc t.phc))[n - 1]? = some level ∧ r.floor ≤ level) ∧
        (q ≠ .preshow → t.ctc = s.ctc) ∧
        (q = .preshow → t.ctc.demo.state = .notDone ∧ t.ctc.demo.failure = none) ∧
        (q = .preshow → s.ctc.demo.state ∉ [DemoState.lowering, .dwell, .raising] →
          t.ctc.curtains = s.ctc.curtains) ∧
        (q ≠ .interval → s.ctc.demo.state ∉ [DemoState.lowering, .dwell, .raising] →
          t.clc = (if s.phc.phase = .interval then { s.clc with sched := [] } else s.clc) ∧ t.lpc = s.lpc ∧
          t.evq = ((if q = .act ∧ s.phc.act = 0 ∧ s.ctc.demo.state ≠ .passed ∧ s.tbs.auth.demoRule = .warn then
            post .demonstrationMissed 1 none else id) (post .phaseEntered act (some q.code) s)).evq) ∧
        (q = .interval → scheduleEntry? s.tbs.active.schedule = none →
          t.clc = { s.clc with sched := [] } ∧ t.lpc = s.lpc ∧
          t.evq = (post .phaseEntered act (some q.code) s).evq) ∧
        (∀ (e : ScheduleEntry) (finish : Int) (all l : List Scheduled) (w : State), q = .interval →
          scheduleEntry? s.tbs.active.schedule = some e →
          finish = (s.time : Int) + 60000 * (t.phc.interval : Int) →
          all = (e.bells.zipIdx.map fun b => ⟨b.2 + 1, b.1.2,
              (match findMessage s.tbs.active.message b.1.2 with | some m => m.zones | none => 0),
              (match findMessage s.tbs.active.message b.1.2 with | some m => m.priority | none => .routine),
              finish - 60000 * (b.1.1 : Int)⟩) ++
            (match e.beginners with
              | some (minutes, m, z) => [⟨5, m, z,
                  (match findMessage s.tbs.active.message m with | some m => m.priority | none => .routine),
                  finish - 60000 * (minutes : Int)⟩]
              | none => []) →
          l = all.foldl (fun l x => l.takeWhile (fun y => decide (y.due ≤ x.due)) ++
            x :: l.dropWhile fun y => decide (y.due ≤ x.due)) [] →
          w = (l.filter fun x => decide (x.due ≤ (s.time : Int))).foldl
            (fun u x => placeOrDrop ⟨x.message, x.zones, x.priority, .schedule, s.time,
              match findMessage s.tbs.active.message x.message with
              | some m => if m.expiry = 0 then none else some (s.time + m.expiry * 1000)
              | none => none⟩ u)
            (s.setClc { s.clc with sched := l.filter fun x => decide ((s.time : Int) < x.due) }) →
          l.Perm all ∧ l.Pairwise (fun x y => x.due ≤ y.due) ∧
          t.clc.sched = l.filter (fun x => decide ((s.time : Int) < x.due)) ∧
          t.clc = w.clc ∧ t.lpc = w.lpc ∧ t.evq = (post .phaseEntered act (some q.code) w).evq))

/-! ### The level stream -/

/-- A break ends the frame in progress, begins a frame, wakes a QUIET stream once, and abandons a reply with
COLLISION, or restarts when a restart waits. (R17, R26, R186, R191) The model's choice: log entry 16; log
entry 19. -/
def Obligations.BreakOnTheStream : Prop :=
  ∀ s : State, Running s →
    (s.srx.receiving = false →
      (s.cmi.reply = none → (s.srx.state ≠ .quiet ∨ s.srx.wakePending = true) →
        exec (.inputBreak []) s = .next (s.setSrx { s.srx with receiving := true })) ∧
      (s.cmi.reply = none → s.srx.state = .quiet → s.srx.wakePending = false →
        exec (.inputBreak []) s = .next (post .streamAwake 0 (some 0)
          (s.setSrx { s.srx with wakePending := true, discardOwed := true, receiving := true }))) ∧
      (s.cmi.reply.isSome = true → s.cmi.restartOwed = false →
        (s.srx.state ≠ .quiet ∨ s.srx.wakePending = true) →
        exec (.inputBreak []) s = .next
          ((s.setCmi { s.cmi with reply := none, sticky := { s.cmi.sticky with collision := true } }).setSrx
            { s.srx with receiving := true })) ∧
      (s.cmi.reply.isSome = true → s.cmi.restartOwed = false → s.srx.state = .quiet →
        s.srx.wakePending = false →
        exec (.inputBreak []) s = .next (post .streamAwake 0 (some 0)
          ((s.setCmi { s.cmi with reply := none, sticky := { s.cmi.sticky with collision := true } }).setSrx
            { s.srx with wakePending := true, discardOwed := true, receiving := true }))) ∧
      (s.cmi.reply.isSome = true → s.cmi.restartOwed = true →
        exec (.inputBreak []) s = .next
          (((fun t : State => t.setSrx { t.srx with receiving := true }) ∘ wakeBreak)
            (warmRestart 2 (s.setCmi
              { s.cmi with reply := none, sticky := { s.cmi.sticky with collision := true } }))))) ∧
    (s.srx.receiving = true → ∀ (frame : List RxByte) (t : State), exec (.inputFrameEnd frame) s = .next t →
      t.resetHeld = false → t.srx.receiving = false → exec (.inputBreak frame) s = exec (.inputBreak []) t)

/-- A good level frame, an over-length one as one of 512 slots, writes its slots into the level table, starts,
restores or wakes the stream, and reports its cue pair. (R17, R20, R21, R23, R24, R26, R28, R31, R32, R62, R63) The
model's choice: log entry 20; log entry 40; log entry 46. -/
def Obligations.GoodLevelFrameIsTaken : Prop :=
  ∀ (slots : List Byte) (k v : Nat) (short long : Bool) (x : Stream) (y : Control) (s : State), Running s →
    s.srx.receiving = true → s.cmi.reply = none → 1 ≤ slots.length → k = min slots.length 512 →
    v = min k ((expectedLength? s.tbs.active.slot).getD 512) →
    short = decide (k < (expectedLength? s.tbs.active.slot).getD 0) →
    long = (decide ((expectedLength? s.tbs.active.slot).getD 512 < k) || decide (512 < slots.length)) →
    x = { s.srx with
      table := (slots.take v).map BitVec.toNat ++ s.srx.table.drop v
      valid := v
      state := .ok
      lastGood := s.time
      idleRef := s.time
      lastFrame := ⟨.level, k, short, long⟩
      receiving := false } →
    y = { s.cmi with
      sticky := { s.cmi.sticky with
        short := s.cmi.sticky.short || short
        long := s.cmi.sticky.long || long } } →
    (∀ report : State → State,
      ((cuePair s.tbs.active.slot = none ∧ report = id) ∨
        (∃ h l, cuePair s.tbs.active.slot = some (h, l) ∧ 1 ≤ h ∧ h ≤ v ∧ 1 ≤ l ∧ l ≤ v ∧
          report = countFrame ((slots.getD (h - 1) 0).toNat * 256 + (slots.getD (l - 1) 0).toNat)) ∨
        (∃ h l, cuePair s.tbs.active.slot = some (h, l) ∧ (k < h ∨ k < l) ∧
          report = fun u => u.setCrg { u.crg with previous := none })) →
      (s.srx.state = .ok →
        exec (.inputFrameEnd (levelBytes slots)) s = .next (report ((s.setSrx x).setCmi y))) ∧
      (s.srx.state = .lost →
        exec (.inputFrameEnd (levelBytes slots)) s = .next (report (post .streamRestored 0 (some 2)
          ((s.setSrx { x with wakePending := false, discardOwed := false }).setCmi y)))) ∧
      (∀ w, s.fbl.running = false →
        ((s.srx.state = .noStream ∧ w = post .streamStarted 0 none
            ((s.setSrx { x with wakePending := false, discardOwed := false }).setCmi y)) ∨
          (s.srx.state = .quiet ∧ s.srx.wakePending = true ∧ s.srx.discardOwed = false ∧
            w = post .streamAwake 0 (some 1)
              ((s.setSrx { x with wakePending := false, discardOwed := false }).setCmi y))) →
        ∃ t, exec (.inputFrameEnd (levelBytes slots)) s = .next (report t) ∧
          t = (w.setFbl t.fbl).setHlu t.hlu ∧ t.hlu.groups = s.hlu.groups ∧
          t.hlu.circuits.map (fun c => { c with lastSent := 0 }) =
            s.hlu.circuits.map (fun c => { c with lastSent := 0 }) ∧
          t.fbl = { s.fbl with
            running := true
            expiry := some (s.time + 25)
            lastOther := false
            frame := if frameSlots w = 0 then s.fbl.frame else some ⟨false, s.time, buildLevels w, false⟩ })) ∧
    (∀ crg : Debounce, crg = (if (cuePair s.tbs.active.slot).isSome = true then { s.crg with previous := none }
        else s.crg) →
      (s.srx.state = .quiet → s.srx.wakePending = true → s.srx.discardOwed = true →
        exec (.inputFrameEnd (levelBytes slots)) s = .next
          (((s.setSrx { s.srx with
            discardOwed := false
            lastFrame := ⟨.discarded, k, short, long⟩
            receiving := false }).setCmi y).setCrg crg)) ∧
      (s.srx.state = .quiet → s.srx.wakePending = false →
        exec (.inputFrameEnd (levelBytes slots)) s = .next
          ((post .streamAwake 0 (some 0) ((s.setSrx { s.srx with
            wakePending := true
            discardOwed := false
            lastFrame := ⟨.discarded, k, short, long⟩
            receiving := false }).setCmi y)).setCrg crg)))

/-- While a reply is sent no bytes come; a level frame without slots, or one with a framing error, is discarded; a
control frame for this unit runs its command or is a BAD FRAME; others are held. (R17, R18, R19, R20, R28, R34, R63,
R183, R184, R187) The model's choice: log entry 14; log entry 15; log entry 40. -/
def Obligations.ControlAndOtherFramesAreSorted : Prop :=
  ∀ s : State, Running s → s.srx.receiving = true →
    (s.cmi.reply.isSome = true → ∀ frame, exec (.inputFrameEnd frame) s = .next
      (s.setSrx { s.srx with receiving := false })) ∧
    (s.cmi.reply = none →
      exec (.inputFrameEnd (levelBytes [])) s = .next
        (((s.setSrx { s.srx with
              receiving := false
              lastFrame := ⟨.discarded, 0, true, false⟩ }).setCmi
            { s.cmi with sticky := { s.cmi.sticky with short := true } }).setCrg
          (if (cuePair s.tbs.active.slot).isSome = true then { s.crg with previous := none } else s.crg)) ∧
      (∀ (start : RxByte) (rest : List RxByte), (∃ b ∈ start :: rest, b.framing = true) →
        exec (.inputFrameEnd (start :: rest)) s = .next
          (((s.setSrx { s.srx with
                receiving := false
                lastFrame := ⟨.discarded, min rest.length 512, false, false⟩ }).setCmi
              { s.cmi with sticky := { s.cmi.sticky with framing := true } }).setCrg
            (if start.framing = false ∧ start.value = 0 ∧ (cuePair s.tbs.active.slot).isSome = true then
              { s.crg with previous := none }
            else s.crg))) ∧
      (∀ (i : Instr) (code u : Nat) (p : List Byte), s.unit = some u → u ≤ 254 →
        controlCode i = some (code, p) → i.wellFormed = true →
        exec (.inputFrameEnd ((controlFrameBytes u code p).map fun b => { value := b })) s =
          exec i (s.setSrx
            { s.srx with receiving := false, lastFrame := ⟨.control, p.length + 5, false, false⟩ })) ∧
      (∀ (b : List Byte) (n : Nat), 2 ≤ b.length → b.length ≤ 513 → b.getD 0 0 = 0x6B →
        s.unit = some (b.getD 1 0).toNat → n = (b.getD 3 0).toNat →
        (b.length < 6 ∨ 200 < n ∨ b.length ≠ n + 6 ∨
          (b.getD (4 + n) 0).toNat * 256 + (b.getD (5 + n) 0).toNat ≠
            ((b.take (4 + n)).map BitVec.toNat).sum % 65536) →
        exec (.inputFrameEnd (b.map fun x => { value := x })) s = .next
          ((s.setSrx { s.srx with
              receiving := false
              lastFrame := ⟨.control, b.length - 1, false, false⟩ }).setCmi
            { s.cmi with sticky := { s.cmi.sticky with badFrame := true } })) ∧
      (∀ (start : Byte) (rest : List Byte) (u : State), start ≠ 0 →
        (start = 0x6B → s.unit = none ∨ (rest.head?.map BitVec.toNat) ≠ s.unit) →
        u = (s.setSrx { s.srx with
            receiving := false
            lastFrame := ⟨.other, min rest.length 512, false, decide (512 < rest.length)⟩ }).setCmi
          { s.cmi with
            sticky := { s.cmi.sticky with long := s.cmi.sticky.long || decide (512 < rest.length) } } →
        (s.fbl.running = true →
          exec (.inputFrameEnd ((start :: rest).map fun x => { value := x })) s = .next
            (u.setFbl { s.fbl with holding := some (start.toNat :: (rest.take 512).map BitVec.toNat) })) ∧
        (s.fbl.running = false →
          exec (.inputFrameEnd ((start :: rest).map fun x => { value := x })) s = .next u)))

/-- A late stream is LOST, an idle DARK stream goes QUIET and stops the output; at the output interval's end
a held other frame or a level frame is sent. (R24, R25, R31, R32, R34, R54, R63) The model's choice: log
entry 17. -/
def Obligations.StreamAndOutputTimersRunOut : Prop :=
  (∀ s : State, Running s →
    (s.srx.state = .ok → s.srx.lastGood + holdTime s.tbs.active.slot ≤ s.time →
      exec .streamHoldExpiry s = .next
        ((post .streamLost 0 (some 1) (s.setSrx { s.srx with state := .lost })).setCrg
          { s.crg with previous := none })) ∧
    (s.srx.state = .ok → s.time < s.srx.lastGood + holdTime s.tbs.active.slot →
      exec .streamHoldExpiry s = .next s) ∧
    ((s.srx.state = .ok ∨ s.srx.state = .lost) → s.phc.phase = .dark → s.asc.stage = .normal →
      idleTime s.tbs.active.slot ≠ 0 → s.srx.idleRef + idleTime s.tbs.active.slot ≤ s.time →
      exec .darkIdleExpiry s = .next
        (((post .streamQuiet 0 (some s.srx.state.code) (s.setSrx { s.srx with state := .quiet })).setCrg
          { s.crg with previous := none }).setFbl
            { s.fbl with running := false, expiry := none, holding := none })) ∧
    ((s.phc.phase ≠ .dark ∨ s.asc.stage ≠ .normal ∨ idleTime s.tbs.active.slot = 0 ∨
        s.time < s.srx.idleRef + idleTime s.tbs.active.slot) →
      exec .darkIdleExpiry s = .next s)) ∧
  (∀ (s : State) (e : Nat), Running s → s.fbl.running = true → s.fbl.expiry = some e → e ≤ s.time →
    (∀ bytes, s.fbl.holding = some bytes → s.fbl.lastOther = false →
      exec .outputIntervalExpiry s = .next (s.setFbl
        { s.fbl with expiry := some (s.time + 25), holding := none, lastOther := true,
                     frame := some ⟨true, s.time, bytes, false⟩ })) ∧
    ((s.fbl.holding = none ∨ s.fbl.lastOther = true) → frameSlots s ≠ 0 →
      ∃ t, exec .outputIntervalExpiry s = .next t ∧
        t.fbl = { s.fbl with expiry := some (s.time + 25), lastOther := false,
                             frame := some ⟨false, s.time, buildLevels s, false⟩ } ∧
        t = (s.setFbl t.fbl).setHlu t.hlu ∧ t.hlu.groups = s.hlu.groups ∧
        ∃ f, t.hlu.circuits = s.hlu.circuits.map f ∧ ∀ c : Circuit,
          ((∃ n, 1 ≤ n ∧ n ≤ (expectedLength? s.tbs.active.slot).getD 0 ∧
              slotClass s.tbs.active.slot n = .house c.number) →
            f c = { c with lastSent := circuitLevel s c s.time }) ∧
          ((∀ n, 1 ≤ n → n ≤ (expectedLength? s.tbs.active.slot).getD 0 →
              slotClass s.tbs.active.slot n ≠ .house c.number) → f c = c)))

/-! ### The output -/

/-- EFFECT slots pass the input only in NORMAL with their curtain RAISED; WORK slots are full in EVACUATE;
HOUSE, PASS and ZERO slots are as mapped. (R32, R33) -/
def Obligations.EffectAndWorkSlotsUnderAlarm : Prop :=
  ∀ (s : State) (n : Nat), slotMapEmpty s.tbs.active.slot = false → 1 ≤ n →
    n ≤ (expectedLength? s.tbs.active.slot).getD 0 →
    (∀ k, slotClass s.tbs.active.slot n = .effect k → s.asc.stage ≠ .normal →
      (buildLevels s)[n - 1]? = some 0) ∧
    (∀ k c, slotClass s.tbs.active.slot n = .effect (some k) →
      s.ctc.curtains.find? (fun c => c.number == k) = some c → c.state ≠ .raised →
      (buildLevels s)[n - 1]? = some 0) ∧
    (slotClass s.tbs.active.slot n = .work → s.asc.stage = .evacuate →
      (buildLevels s)[n - 1]? = some 255) ∧
    (slotClass s.tbs.active.slot n = .work → s.asc.stage ≠ .evacuate →
      (buildLevels s)[n - 1]? = some (s.srx.table.getD (n - 1) 0)) ∧
    (s.asc.stage = .normal → slotClass s.tbs.active.slot n = .effect none →
      (buildLevels s)[n - 1]? = some (s.srx.table.getD (n - 1) 0)) ∧
    (∀ k c, s.asc.stage = .normal → slotClass s.tbs.active.slot n = .effect (some k) →
      s.ctc.curtains.find? (fun c => c.number == k) = some c → c.state = .raised →
      (buildLevels s)[n - 1]? = some (s.srx.table.getD (n - 1) 0)) ∧
    (∀ k c, slotClass s.tbs.active.slot n = .house k →
      s.hlu.circuits.find? (fun c => c.number == k) = some c →
      (buildLevels s)[n - 1]? = some (circuitLevel s c s.time)) ∧
    (slotClass s.tbs.active.slot n = .zero → (buildLevels s)[n - 1]? = some 0) ∧
    (slotClass s.tbs.active.slot n = .pass → (buildLevels s)[n - 1]? = some (s.srx.table.getD (n - 1) 0))

/-! ### The house lights -/

/-- HOUSE FADE starts each circuit in its scope from its present base, with the target and the settled time.
(R48) -/
def Obligations.HouseFadeStartsFromThePresentBase : Prop :=
  ∀ (scope number target hi lo : Byte) (v tenths : Nat) (s : State), Ready s → s.asc.stage ≠ .evacuate →
    ((scope.toNat = 1 ∧ 1 ≤ number.toNat ∧ number.toNat ≤ 8) ∨
      (scope.toNat = 2 ∧ 1 ≤ number.toNat ∧ number.toNat ≤ 48)) →
    (∃ c ∈ s.hlu.circuits, inScope scope.toNat number.toNat c = true) →
    v = hi.toNat * 256 + lo.toNat →
    tenths = (if v = 65535 then defaultFadeOf s.hlu (scopeGroup s.hlu scope.toNat number.toNat)
      else min v 6000) →
    exec (.houseFade [scope, number, target, hi, lo]) s = .next (buildReply 0x20
      ⟨s.setHlu { s.hlu with
          circuits := s.hlu.circuits.map fun c =>
            if inScope scope.toNat number.toNat c then
              { c with
                source := .preset ⟨baseLevel s.srx.table c s.time, target.toNat, s.time, tenths * 100⟩ }
            else c },
        if 6000 < v ∧ v ≠ 65535 then .clamped else .done, []⟩)

/-- HOUSE CONSOLE hands a group's circuits over from their base, HOUSE MASTER sets its master; these and
HOUSE FADE are refused in EVACUATE and out of range. (R47, R48, R50, R51) The model's choice: log entry 31;
log entry 47. -/
def Obligations.HouseConsoleAndMaster : Prop :=
  (∀ (g hi lo level : Byte) (s : State), Ready s → s.asc.stage ≠ .evacuate → 1 ≤ g.toNat → g.toNat ≤ 8 →
    ((∃ c ∈ s.hlu.circuits, c.group = g.toNat) →
      exec (.houseConsole [g, hi, lo]) s = .next (buildReply 0x21
        ⟨s.setHlu { s.hlu with
            circuits := s.hlu.circuits.map fun c =>
              if c.group = g.toNat then
                { c with
                  source := .console (if hi.toNat * 256 + lo.toNat = 0 then none
                     else some ⟨baseLevel s.srx.table c s.time, s.time,
                       min (hi.toNat * 256 + lo.toNat) 6000 * 100⟩) }
              else c },
          if 6000 < hi.toNat * 256 + lo.toNat then .clamped else .done, []⟩)) ∧
    exec (.houseMaster [g, level]) s = .next (buildReply 0x22
      ⟨s.setHlu { s.hlu with
          groups := s.hlu.groups.map fun x =>
            if x.number = g.toNat then { x with master := level.toNat } else x },
        .done, []⟩) ∧
    exec (.houseMaster [g, level]) (s.setAsc { s.asc with stage := .evacuate }) = .next (buildReply 0x22
      ⟨s.setAsc { s.asc with stage := .evacuate }, .refusedState, []⟩) ∧
    ((∃ c ∈ s.hlu.circuits, c.group = g.toNat) →
      exec (.houseConsole [g, hi, lo]) (s.setAsc { s.asc with stage := .evacuate }) = .next (buildReply 0x21
        ⟨s.setAsc { s.asc with stage := .evacuate }, .refusedState, []⟩))) ∧
  (∀ (scope number target g hi lo level : Byte) (s : State), Ready s →
    (s.asc.stage = .evacuate →
      ((scope = 1 ∧ 1 ≤ number.toNat ∧ number.toNat ≤ 8 ∧ ∃ c ∈ s.hlu.circuits, c.group = number.toNat) ∨
        (scope = 2 ∧ 1 ≤ number.toNat ∧ number.toNat ≤ 48 ∧ ∃ c ∈ s.hlu.circuits, c.number = number.toNat)) →
      exec (.houseFade [scope, number, target, hi, lo]) s = .next (buildReply 0x20 ⟨s, .refusedState, []⟩)) ∧
    ((scope ≠ 1 ∧ scope ≠ 2) ∨ number = 0 ∨ (scope = 1 ∧ 8 < number.toNat) ∨ 48 < number.toNat ∨
        (scope = 1 ∧ ∀ c ∈ s.hlu.circuits, c.group ≠ number.toNat) ∨
        (scope = 2 ∧ ∀ c ∈ s.hlu.circuits, c.number ≠ number.toNat) →
      exec (.houseFade [scope, number, target, hi, lo]) s = .next (buildReply 0x20 ⟨s, .badArgument, []⟩)) ∧
    (g = 0 ∨ 8 < g.toNat ∨ (∀ c ∈ s.hlu.circuits, c.group ≠ g.toNat) →
      exec (.houseConsole [g, hi, lo]) s = .next (buildReply 0x21 ⟨s, .badArgument, []⟩)) ∧
    (g = 0 ∨ 8 < g.toNat → exec (.houseMaster [g, level]) s = .next (buildReply 0x22 ⟨s, .badArgument, []⟩)) ∧
    (∀ p : List Byte, p.length ≤ 200 →
      (p.length ≠ 5 → exec (.houseFade p) s = .next (buildReply 0x20 ⟨s, .badArgument, []⟩)) ∧
      (p.length ≠ 3 → exec (.houseConsole p) s = .next (buildReply 0x21 ⟨s, .badArgument, []⟩)) ∧
      (p.length ≠ 2 → exec (.houseMaster p) s = .next (buildReply 0x22 ⟨s, .badArgument, []⟩))))

/-- A circuit's level in stages: the base by fade, slot and handover, the scaled base, the limits of the
phase, and the override over all. (R40, R41, R42, R43, R44, R45, R46) -/
def Obligations.HouseLevelIsFormedInStages : Prop :=
  (∀ (n : Nat) (s : State), Running s →
      (∀ c ∈ s.hlu.circuits, c.number = n → ∀ h, c.source = .console (some h) → h.start + h.duration ≤ s.time) →
      exec (.handoverExpiry n) s = .next (s.setHlu { s.hlu with
        circuits := s.hlu.circuits.map fun c =>
          match c.source with
          | .console (some _) => if c.number = n then { c with source := .console none } else c
          | .console none | .preset _ => c })) ∧
  (∀ (f : Fade) (t u : Nat),
      (f.duration = 0 → fadeLevel f t = f.target) ∧
      (f.start ≤ t → f.start + f.duration ≤ t → fadeLevel f t = f.target) ∧
      (f.start ≤ t → t < f.start + f.duration →
        (fadeLevel f t : Int) = f.fromLevel + (if f.fromLevel ≤ f.target then 1 else -1) *
          ((2 * (max f.fromLevel f.target - min f.fromLevel f.target) * (t - f.start) + f.duration) /
            (2 * f.duration) : Nat)) ∧
      (f.fromLevel ≤ f.target → t ≤ u →
        fadeLevel f t ≤ fadeLevel f u ∧ fadeLevel f u ≤ f.target ∧
        (f.duration ≠ 0 → f.fromLevel ≤ fadeLevel f t)) ∧
      (f.target ≤ f.fromLevel → t ≤ u →
        fadeLevel f u ≤ fadeLevel f t ∧ f.target ≤ fadeLevel f u ∧
        (f.duration ≠ 0 → fadeLevel f t ≤ f.fromLevel))) ∧
  (∀ (s : State) (c : Circuit) (t b m : Nat),
      (∀ f, c.source = .preset f → baseLevel s.srx.table c t = fadeLevel f t) ∧
      (c.source = .console none → 1 ≤ c.slot → baseLevel s.srx.table c t = s.srx.table.getD (c.slot - 1) 0) ∧
      (∀ h goal, c.source = .console (some h) → 1 ≤ c.slot → goal = s.srx.table.getD (c.slot - 1) 0 →
        (h.start + h.duration ≤ t → baseLevel s.srx.table c t = goal) ∧
        (h.start ≤ t → t < h.start + h.duration →
          (baseLevel s.srx.table c t : Int) = h.fromLevel + (if h.fromLevel ≤ goal then 1 else -1) *
            ((2 * (max h.fromLevel goal - min h.fromLevel goal) * (t - h.start) + h.duration) /
              (2 * h.duration) : Nat))) ∧
      scaledLevel b m = (2 * b * m + 255) / 510 ∧ scaledLevel b 255 = b ∧ scaledLevel b 0 = 0 ∧
      (c.override = none → s.phc.phase = .houseOpen ∨ s.phc.phase = .act ∨ s.phc.phase = .interval →
        circuitLevel s c t = max c.floor (min c.ceiling
          (scaledLevel (baseLevel s.srx.table c t) (masterOf s.hlu c.group)))) ∧
      (c.override = none → s.phc.phase = .dark ∨ s.phc.phase = .preshow ∨ s.phc.phase = .houseClear →
        circuitLevel s c t = min c.ceiling
          (scaledLevel (baseLevel s.srx.table c t) (masterOf s.hlu c.group))) ∧
      (∀ o, c.override = some o → o.fromLevel ≤ 255 →
        (o.start + o.duration ≤ t → circuitLevel s c t = 255) ∧
        (o.start ≤ t → t < o.start + o.duration → circuitLevel s c t =
          o.fromLevel + (2 * (255 - o.fromLevel) * (t - o.start) + o.duration) / (2 * o.duration))))

/-! ### Cues -/

/-- A cue number is recognised at its second counted frame in a row, once while it is held, and then runs
its entry in its phases. (R63, R64, R65, R66, R67, R68) The model's choice: log entry 35. -/
def Obligations.HeldNumberIsRecognisedOnce : Prop :=
  ∀ (x : Nat) (s u : State), 1 ≤ x → x ≤ 65534 → s.crg.previous ≠ some x → s.crg.last ≠ some x →
    u = s.setCrg { previous := some x, last := some x } →
    countFrame x s = s.setCrg { previous := some x, last := none } ∧
    (∀ t : State, t.crg = ⟨some x, some x⟩ → countFrame x t = t) ∧
    (findCue s.tbs.active.cue x = none →
      countFrame x (countFrame x s) = post .cueUnknown x none u ∧
      countFrame x (countFrame x (countFrame x s)) = countFrame x (countFrame x s)) ∧
    (∀ c, findCue s.tbs.active.cue x = some c → c.filter.testBit s.phc.phase.code = false →
      countFrame x (countFrame x s) = post .cueOutOfPhase x (some s.phc.phase.code) u ∧
      countFrame x (countFrame x (countFrame x s)) = countFrame x (countFrame x s)) ∧
    (∀ c, findCue s.tbs.active.cue x = some c → c.filter.testBit s.phc.phase.code = true →
      countFrame x (countFrame x s) =
        (c.actions.zipIdx 1).foldl
          (fun t k => (fun a : Answer => match a.result with
            | .done | .accepted => a.state
            | .clamped => post .cueActionClamped x (some (k.2 * 256 + a.result.code)) a.state
            | .partly => post .cueActionPartial x (some (k.2 * 256 + a.result.code)) a.state
            | .busy | .refusedState | .refusedKey | .badArgument | .locked | .unknownCommand =>
              post .cueActionRefused x (some (k.2 * 256 + a.result.code)) a.state)
            (actionAnswer k.1 t))
          (post .cueRun x (some 0) u))

/-- GO CUE checks its number, entry and phase, runs the entry's actions in order and replies with every
result. (R65, R67, R69, R149) The model's choice: log entry 12; log entry 31. -/
def Obligations.GoCueRunsTheEntry : Prop :=
  ∀ (hi lo : Byte) (x : Nat) (s : State), Ready s → x = hi.toNat * 256 + lo.toNat →
    (∀ p : List Byte, p.length ≠ 2 → p.length ≤ 200 →
      exec (.goCue p) s = .next (buildReply 0x28 ⟨s, .badArgument, []⟩)) ∧
    (x = 0 ∨ x = 65535 ∨ findCue s.tbs.active.cue x = none →
      exec (.goCue [hi, lo]) s = .next (buildReply 0x28 ⟨s, .badArgument, []⟩)) ∧
    (∀ c, 1 ≤ x → x ≤ 65534 → findCue s.tbs.active.cue x = some c →
      c.filter.testBit s.phc.phase.code = false →
      exec (.goCue [hi, lo]) s = .next (buildReply 0x28 ⟨s, .refusedState, []⟩)) ∧
    (∀ c t rs, 1 ≤ x → x ≤ 65534 → findCue s.tbs.active.cue x = some c →
      c.filter.testBit s.phc.phase.code = true →
      c.actions.foldl (fun (a : State × List Result) k =>
          ((actionAnswer k a.1).state, a.2 ++ [(actionAnswer k a.1).result]))
        (post .cueRun x (some 1) s, []) = (t, rs) →
      exec (.goCue [hi, lo]) s = .next (buildReply 0x28
        ⟨t, ((rs.filter fun r => r != .done).head?).getD .done,
          [hi, lo] ++ enc1 c.actions.length ++ rs.map fun r => BitVec.ofNat 8 r.code⟩)) ∧
    (∀ (h l n : Byte) (zs : List Byte), zs.length ≤ 197 →
      exec (.suppress ([n] ++ zs ++ [h, l])) s = .next
        (buildReply 0x30 (actionAnswer ⟨1, [h, l, n] ++ zs⟩ s))) ∧
    (∀ g target h l : Byte, exec (.houseFade [1, g, target, h, l]) s = .next
      (buildReply 0x20 (actionAnswer ⟨2, [g, target, h, l]⟩ s))) ∧
    (∀ (m zh zl pc : Byte) (k : RawAction), k = ⟨3, [m, zh, zl, pc]⟩ →
      ((actionAnswer k s).result ≠ .accepted →
        exec (.call [m, zh, zl, pc]) s = .next (buildReply 0x48 (actionAnswer k s))) ∧
      (∀ (e : MessageEntry) (zones : FohSet) (prio : Priority) (c : Call),
        findMessage s.tbs.active.message m.toNat = some e →
        zones = (if zh.toNat * 256 + zl.toNat = 0 then e.zones else BitVec.ofNat 16 (zh.toNat * 256 + zl.toNat)) →
        zones ≠ 0 →
        ((pc = 0 ∧ prio = e.priority) ∨ (pc = 1 ∧ prio = .routine) ∨ (pc = 2 ∧ prio = .show) ∨
          (pc = 3 ∧ prio = .staff)) →
        c = ⟨m.toNat, zones, prio, .cue, s.time,
          if e.expiry = 0 then none else some (s.time + e.expiry * 1000)⟩ →
        ((∃ y ∈ s.clc.queue, y.message = m.toNat ∧ y.priority = prio) →
          exec (.call [m, zh, zl, pc]) s = .next (buildReply 0x48 (actionAnswer k s))) ∧
        ((∀ y ∈ s.clc.queue, ¬ (y.message = m.toNat ∧ y.priority = prio)) →
          (s.clc.queue.length < 16 → actionAnswer k s =
            ⟨select (s.setClc { s.clc with queue := joined c s.clc.queue }), .accepted,
              [m] ++ enc1 prio.code ++ enc2 zones.toNat ++ enc1 0⟩) ∧
          (∀ y, 16 ≤ s.clc.queue.length → s.clc.queue.getLast? = some y → y.priority.code < prio.code →
            actionAnswer k s =
              ⟨select ((post .callDisplaced y.message (some y.priority.code) s).setClc
                  { s.clc with queue := joined c s.clc.queue.dropLast }), .accepted,
                [m] ++ enc1 prio.code ++ enc2 zones.toNat ++ enc1 0⟩)))) ∧
    (∀ code minutes : Byte, exec (.setPhase [code, minutes]) s = .next (buildReply 0x10
      ⟨(actionAnswer ⟨4, [code, minutes]⟩ s).state, (actionAnswer ⟨4, [code, minutes]⟩ s).result,
        showBytes (actionAnswer ⟨4, [code, minutes]⟩ s).state⟩)) ∧
    (∀ n m : Byte, exec (.curtainMove [n, m]) s = .next
      (buildReply 0x40 (actionAnswer ⟨5, [n, m]⟩ s)))

/-! ### Zones and suppression windows -/

/-- SUPPRESS opens or extends the window of each zone that passes its checks, no longer than the maximum
window and the remaining budget allow. (R85, R86, R87, R88, R89) The model's choice: log entry 12. -/
def Obligations.SuppressOpensAndExtendsWindows : Prop :=
  (∀ (z hi lo : Byte) (asked d len : Nat) (r : Zone) (s : State), Ready s →
    1 ≤ z.toNat → z.toNat ≤ 64 → findZone s z.toNat = some r →
    s.tbs.auth.locked = true → s.phc.phase = .act → s.asc.stage = .normal →
    (r.kind = .smoke ∨ r.kind = .flame) → r.condition ≠ .fire → r.latch = false →
    0 < maxWindowOf s z.toNat → usedOf s z.toNat < budgetOf s z.toNat →
    asked = hi.toNat * 256 + lo.toNat → 1 ≤ asked → d = min asked 600 →
    len = min (d * 1000)
      (min (maxWindowOf s z.toNat * 1000) ((budgetOf s z.toNat - usedOf s z.toNat) * 1000)) →
    (r.window = none →
      exec (.suppress [1, z, hi, lo]) s = .next (buildReply 0x30
        ⟨post .suppressionOpened z.toNat (some (len / 1000))
            (s.setZmn { s.zmn with
              zones := s.zmn.zones.map fun x =>
                if x.number = z.toNat then { x with window := some ⟨s.time, s.time + len⟩, deferred := false }
                else x }),
          if len = d * 1000 ∧ asked ≤ 600 then .done else .clamped,
          [1, z, if len = d * 1000 ∧ asked ≤ 600 then 1 else 2] ++ enc4 ((s.time + len) / 1000)⟩)) ∧
    (∀ w cand, r.window = some w →
      cand = min (s.time + d * 1000) (min (w.start + maxWindowOf s z.toNat * 1000)
        (w.start + (budgetOf s z.toNat - usedOf s z.toNat) * 1000)) →
      (w.finish < cand →
        exec (.suppress [1, z, hi, lo]) s = .next (buildReply 0x30
          ⟨post .suppressionOpened z.toNat (some ((cand - s.time) / 1000))
              (s.setZmn { s.zmn with
                zones := s.zmn.zones.map fun x =>
                  if x.number = z.toNat then { x with window := some ⟨w.start, cand⟩ } else x }),
            if cand = s.time + d * 1000 ∧ asked ≤ 600 then .done else .clamped,
            [1, z, if cand = s.time + d * 1000 ∧ asked ≤ 600 then 1 else 2] ++ enc4 (cand / 1000)⟩)) ∧
      (cand ≤ w.finish →
        exec (.suppress [1, z, hi, lo]) s = .next (buildReply 0x30
          ⟨s, .clamped, [1, z, 2] ++ enc4 (w.finish / 1000)⟩)))) ∧
  (∀ (zs : List Byte) (hi lo : Byte) (asked : Nat) (t : State) (os : List (Nat × SuppressOutcome)) (s : State),
    Ready s → 1 ≤ zs.length → zs.length ≤ 8 → zs.Nodup →
    (∀ z ∈ zs, 1 ≤ z.toNat ∧ z.toNat ≤ 64 ∧ (findZone s z.toNat).isSome = true) →
    asked = hi.toNat * 256 + lo.toNat → 1 ≤ asked →
    zs.foldl (fun a z => ((suppressZone z.toNat (min asked 600) (decide (600 < asked)) a.1).1,
        a.2 ++ [(z.toNat, (suppressZone z.toNat (min asked 600) (decide (600 < asked)) a.1).2)])) (s, []) = (t, os) →
    exec (.suppress ([BitVec.ofNat 8 zs.length] ++ zs ++ [hi, lo])) s = .next (buildReply 0x30
      ⟨t,
        if os.all (fun o => match o.2 with | .full _ => true | .shortened _ | .refused _ => false) then .done
        else if os.all (fun o => match o.2 with | .full _ | .shortened _ => true | .refused _ => false) then
          .clamped
        else if os.any (fun o => match o.2 with | .full _ | .shortened _ => true | .refused _ => false) then
          .partly
        else .refusedState,
        enc1 zs.length ++ (os.map fun o => enc1 o.1 ++ match o.2 with
          | .full f => enc1 1 ++ enc4 (f / 1000)
          | .shortened f => enc1 2 ++ enc4 (f / 1000)
          | .refused k => enc1 3 ++ enc1 k).flatten⟩)) ∧
  (∀ (a b : List Byte) (z hi lo : Byte) (s : State), Ready s → z ∈ a → a.length + b.length ≤ 7 →
    exec (.suppress ([BitVec.ofNat 8 (a.length + 1 + b.length)] ++ a ++ z :: b ++ [hi, lo])) s =
      exec (.suppress ([BitVec.ofNat 8 (a.length + b.length)] ++ a ++ b ++ [hi, lo])) s)

/-- SUPPRESS of one zone is refused with the first of the seven checks that holds as its reason, and changes
nothing. (R85, R86, R87, R89) The model's choice: log entry 12; log entry 31. -/
def Obligations.SuppressRefusesByTheFirstCheck : Prop :=
  (∀ (zs rest : List Byte) (n hi lo : Byte) (s : State), Ready s → zs.length ≤ 197 → rest.length ≤ 199 →
    (zs = [] ∨ 8 < zs.length ∨ (∃ z ∈ zs, z = 0 ∨ 64 < z.toNat ∨ findZone s z.toNat = none) →
      exec (.suppress ([BitVec.ofNat 8 zs.length] ++ zs ++ [hi, lo])) s = .next
        (buildReply 0x30 ⟨s, .badArgument, []⟩)) ∧
    (rest.length ≠ n.toNat + 2 →
      exec (.suppress (n :: rest)) s = .next (buildReply 0x30 ⟨s, .badArgument, []⟩)) ∧
    exec (.suppress []) s = .next (buildReply 0x30 ⟨s, .badArgument, []⟩)) ∧
  (∀ (z hi lo : Byte) (r : Zone) (s : State), Ready s →
    1 ≤ z.toNat → z.toNat ≤ 64 → 1 ≤ hi.toNat * 256 + lo.toNat →
    (findZone s z.toNat = none →
      exec (.suppress [1, z, hi, lo]) s = .next (buildReply 0x30 ⟨s, .badArgument, []⟩)) ∧
    (findZone s z.toNat = some r →
      (s.tbs.auth.locked = false →
        exec (.suppress [1, z, hi, lo]) s = .next (buildReply 0x30 ⟨s, .refusedState, [1, z, 3, 1]⟩)) ∧
      (s.tbs.auth.locked = true → s.phc.phase ≠ .act →
        exec (.suppress [1, z, hi, lo]) s = .next (buildReply 0x30 ⟨s, .refusedState, [1, z, 3, 2]⟩)) ∧
      (s.tbs.auth.locked = true → s.phc.phase = .act → s.asc.stage ≠ .normal →
        exec (.suppress [1, z, hi, lo]) s = .next (buildReply 0x30 ⟨s, .refusedState, [1, z, 3, 3]⟩)) ∧
      (s.tbs.auth.locked = true → s.phc.phase = .act → s.asc.stage = .normal →
        (r.kind = .heat ∨ r.kind = .manual ∨ r.kind = .sprinkler) →
        exec (.suppress [1, z, hi, lo]) s = .next (buildReply 0x30 ⟨s, .refusedState, [1, z, 3, 4]⟩)) ∧
      (s.tbs.auth.locked = true → s.phc.phase = .act → s.asc.stage = .normal →
        (r.kind = .smoke ∨ r.kind = .flame) → maxWindowOf s z.toNat = 0 →
        exec (.suppress [1, z, hi, lo]) s = .next (buildReply 0x30 ⟨s, .refusedState, [1, z, 3, 5]⟩)) ∧
      (s.tbs.auth.locked = true → s.phc.phase = .act → s.asc.stage = .normal →
        (r.kind = .smoke ∨ r.kind = .flame) → 0 < maxWindowOf s z.toNat →
        (r.condition = .fire ∨ r.latch = true) →
        exec (.suppress [1, z, hi, lo]) s = .next (buildReply 0x30 ⟨s, .refusedState, [1, z, 3, 6]⟩)) ∧
      (s.tbs.auth.locked = true → s.phc.phase = .act → s.asc.stage = .normal →
        (r.kind = .smoke ∨ r.kind = .flame) → 0 < maxWindowOf s z.toNat →
        r.condition ≠ .fire → r.latch = false →
        budgetOf s z.toNat ≤ usedOf s z.toNat →
        exec (.suppress [1, z, hi, lo]) s = .next (buildReply 0x30 ⟨s, .refusedState, [1, z, 3, 7]⟩))))

/-- A window's grant keeps the maximum window and the budget; closing it charges its elapsed seconds, lets a
held FIRE through and reports it. (R77, R79, R87, R88, R90, R91, R92, R93) The model's choice: log entry 12;
log entry 17; log entry 52. -/
def Obligations.WindowsKeepTheBudgetAndAreCharged : Prop :=
  (∀ (s : State) (r : Zone) (d now : Nat),
    (r.window = none → usedOf s r.number ≤ budgetOf s r.number → s.time ≤ now →
      now ≤ s.time + grantedLength s r d →
      grantedLength s r d ≤ maxWindowOf s r.number * 1000 ∧
      usedOf s r.number + chargeOf ⟨s.time, s.time + grantedLength s r d⟩ now ≤ budgetOf s r.number) ∧
    (∀ w, r.window = some w →
      usedOf s r.number ≤ budgetOf s r.number → w.start ≤ now → now ≤ candidateEnd s r w d →
      candidateEnd s r w d ≤ w.start + maxWindowOf s r.number * 1000 ∧
      usedOf s r.number + chargeOf ⟨w.start, candidateEnd s r w d⟩ now ≤ budgetOf s r.number)) ∧
  (∀ (z : Byte) (n charge : Nat) (r : Zone) (w : Window) (s u v : State), n = z.toNat → findZone s n = some r →
    r.window = some w → charge = (s.time - w.start + 999) / 1000 →
    u = s.setZmn
      { zones := s.zmn.zones.map fun x =>
          if x.number = n then { x with window := none, deferred := false } else x
        used := s.zmn.used.set (n - 1) (usedOf s n + charge) } →
    ((r.condition ≠ .fire ∧ ¬ (r.condition = .lost ∧ r.deferred = true) ∧ v = u) ∨
      ((r.condition = .fire ∨ (r.condition = .lost ∧ r.deferred = true)) ∧
        v = takeFire ⟨n, r.group, routeOf r s.phc.phase⟩
          (post .zoneFire n (some (routeOf r s.phc.phase).code)
            (u.setZmn { u.zmn with
              zones := u.zmn.zones.map fun x => if x.number = n then { x with latch := true } else x })))) →
    (Running s → w.finish ≤ s.time →
      exec (.windowEndExpiry n) s = .next
        (if usedOf v n = budgetOf v n then
          post .budgetSpent n none (post .suppressionClosed n (some charge) v)
        else post .suppressionClosed n (some charge) v)) ∧
    (Running s → s.time < w.finish → exec (.windowEndExpiry n) s = .next s) ∧
    (Ready s → 1 ≤ n → n ≤ 64 →
      exec (.suppress [1, z, 0, 0]) s = .next (buildReply 0x30
        ⟨if usedOf v n = budgetOf v n then
            post .budgetSpent n none (post .suppressionClosed n (some charge) v)
          else post .suppressionClosed n (some charge) v,
          .done, [1] ++ enc2 charge⟩)))

/-- A zone unit's reply is taken input by input: condition, event, latch or deferral; its loss makes its
zones LOST. (R78, R79, R80, R81, R82, R83, R92, R106, R180) -/
def Obligations.ZoneReportsAreTaken : Prop :=
  ∀ (st : Station) (s : State), st.kind = .zoneUnit →
    (∀ content, deliver st content none s =
      (List.range 8).foldl (fun t i => inputReport st.address (i + 1) (at1 content i) t) s) ∧
    tellLoss st s = (List.range 8).foldl (fun t i => loseZone st.address (i + 1) t) s ∧
    (∀ input value : Nat,
      ((∀ r ∈ s.zmn.zones, r.unit = st.address → r.input ≠ input) →
        inputReport st.address input value s = s ∧ loseZone st.address input s = s) ∧
      (∀ (r : Zone) (c : Condition) (route : FireRoute) (put : (Zone → Zone) → State → State) (v : State),
        s.zmn.zones.find? (fun x => x.unit == st.address && x.input == input) = some r →
        c = (if value = 1 then .normal else if value = 2 then .prealarm else if value = 3 then .fire
          else if value = 5 then .isolated else .fault) →
        route = (if r.kind = .manual then .general
          else if (if s.phc.phase ∈ [Phase.houseOpen, .act, .interval] then r.present else r.absent) = .investigate
            then .investigate else .evacuate) →
        (∀ f t, put f t = t.setZmn { t.zmn with
          zones := t.zmn.zones.map fun x => if x.number = r.number then f x else x }) →
        v = (if r.condition = c then put (fun x => { x with condition := c }) s
          else match c with
            | .prealarm =>
              (post .zonePrealarm r.number (some r.condition.code)
                (put (fun x => { x with condition := .prealarm }) s)).setAsc
                  { s.asc with lastPre := some (r.number, s.time) }
            | .fault => post .zoneFault r.number (some r.condition.code)
                (put (fun x => { x with condition := .fault }) s)
            | .isolated => post .zoneIsolated r.number (some r.condition.code)
                (put (fun x => { x with condition := .isolated }) s)
            | .normal =>
              if r.condition = .unknown then put (fun x => { x with condition := .normal }) s
              else post .zoneNormal r.number (some r.condition.code)
                (put (fun x => { x with condition := .normal }) s)
            | .fire | .lost | .unknown => put (fun x => { x with condition := c }) s) →
        (c ≠ .fire → r.deferred = false → inputReport st.address input value s = v) ∧
        (c ≠ .fire → r.deferred = true → inputReport st.address input value s =
          post .deferredFireCleared r.number none (put (fun x => { x with deferred := false }) v)) ∧
        (c = .fire → r.window = none → r.latch = true → inputReport st.address input value s = v) ∧
        (c = .fire → r.window = none → r.latch = false → inputReport st.address input value s =
          takeFire ⟨r.number, r.group, route⟩
            (post .zoneFire r.number (some route.code) (put (fun x => { x with latch := true }) v))) ∧
        (c = .fire → r.window.isSome = true → r.deferred = true → inputReport st.address input value s = v) ∧
        (c = .fire → r.window.isSome = true → r.deferred = false → inputReport st.address input value s =
          post .fireDeferred r.number none (put (fun x => { x with deferred := true }) v)) ∧
        (r.condition = .lost → loseZone st.address input s = put (fun x => { x with condition := .lost }) s) ∧
        (r.condition ≠ .lost → loseZone st.address input s =
          post .zoneLost r.number (some r.condition.code)
            (put (fun x => { x with condition := .lost }) s))))

/-! ### The alarm stages -/

/-- The acknowledge and investigation timers enter EVACUATE with the staged groups; an offset timer starts
its pending group. (R109, R111, R112, R55) The model's choice: log entry 17. -/
def Obligations.AlarmTimersRunOut : Prop :=
  ∀ (s : State) (groups : List GroupState) (asc : Alarm), Running s →
    groups = (List.range 7).map (fun g =>
      if g = 0 ∨ s.asc.group = some g ∨ min (groupOffset s.tbs.active.zone g) s.tbs.auth.stagingLimit = 0 then
        .evacuating s.time .entry
      else .pending (s.time + min (groupOffset s.tbs.active.zone g) s.tbs.auth.stagingLimit * 1000)) →
    asc = { s.asc with
      stage := .evacuate
      invStep := none
      stageStart := s.time
      ackExpiry := none
      invExpiry := none
      general := false
      evacStart := some s.time
      showStop := true
      groups := groups } →
    (∀ e, s.asc.stage = .investigate → s.asc.invStep = some .awaitingAck → s.asc.ackExpiry = some e → e ≤ s.time →
      ∃ t, exec .ackTimerExpiry s = .next t ∧ t.asc = asc ∧ t.zmn = s.zmn ∧ t.phc = s.phc ∧ t.tbs = s.tbs ∧
        t.crg = s.crg ∧ (∀ c ∈ t.hlu.circuits, c.override.isSome = true) ∧
        t.clc.queue = s.clc.queue ∧ t.clc.sched = s.clc.sched ∧ t.time = s.time) ∧
    (∀ e, s.asc.stage = .investigate → s.asc.invStep = some .investigating → s.asc.invExpiry = some e → e ≤ s.time →
      ∃ t, exec .investigationTimerExpiry s = .next t ∧ t.asc = asc ∧ t.zmn = s.zmn ∧ t.phc = s.phc ∧
        t.tbs = s.tbs ∧ t.crg = s.crg ∧ (∀ c ∈ t.hlu.circuits, c.override.isSome = true) ∧
        t.clc.queue = s.clc.queue ∧ t.clc.sched = s.clc.sched ∧ t.time = s.time) ∧
    (∀ g d, s.asc.groups[g]? = some (.pending d) → s.time < d → exec (.offsetTimerExpiry g) s = .next s) ∧
    (∀ g d, s.asc.groups[g]? = some (.pending d) → d ≤ s.time →
      ∃ t, exec (.offsetTimerExpiry g) s = .next t ∧
        t.asc = { s.asc with groups := s.asc.groups.set g (.evacuating s.time .offset) } ∧
        t.clc = { s.clc with evacZones := s.clc.evacZones ||| groupFoh s.tbs.active.zone g } ∧
        t.evq = (post .groupStarted g (some 2) s).evq ∧
        t.zmn = s.zmn ∧ t.hlu = s.hlu ∧ t.fbl = s.fbl ∧ t.ctc = s.ctc ∧ t.phc = s.phc ∧ t.srx = s.srx ∧
        t.crg = s.crg ∧ t.tbs = s.tbs ∧ t.time = s.time)

/-- ALARM ACK starts the investigation; ALARM FALSE and ALARM RESET return to NORMAL when no FIRE stands,
and clear what the rules name; else refused. (R10, R13, R56, R84, R108, R110, R116, R163) -/
def Obligations.AlarmCommandsAckDismissAndReset : Prop :=
  (∀ s : State, Ready s →
    (∀ z, s.asc.stage = .investigate → s.asc.invStep = some .awaitingAck → s.asc.zone = some z →
      exec (.alarmAck []) s = .next (buildReply 0x38
        ⟨post .alarmAcknowledged z none (s.setAsc { s.asc with
            ackExpiry := none
            invStep := some .investigating
            invExpiry := some (s.time + s.tbs.auth.invTime * 1000) }), .done, []⟩)) ∧
    (s.asc.stage = .investigate → s.asc.invStep = some .investigating →
      exec (.alarmAck []) s = .next (buildReply 0x38 ⟨s, .refusedState, []⟩)) ∧
    (s.asc.stage = .normal ∨ s.asc.stage = .evacuate →
      exec (.alarmAck []) s = .next (buildReply 0x38 ⟨s, .refusedState, []⟩))) ∧
  (∀ s : State, Ready s → s.keyOn = true →
    (s.asc.stage ≠ .investigate → exec (.alarmFalse []) s = .next (buildReply 0x39 ⟨s, .refusedState, []⟩)) ∧
    (s.asc.stage ≠ .evacuate → exec (.alarmReset []) s = .next (buildReply 0x3A ⟨s, .refusedState, []⟩)) ∧
    (s.asc.stage = .evacuate → (∃ r ∈ s.zmn.zones, r.condition = .fire) →
      exec (.alarmReset []) s = .next (buildReply 0x3A ⟨s, .refusedState, []⟩)) ∧
    (∀ z r, s.asc.stage = .investigate → s.asc.zone = some z → findZone s z = some r → r.condition = .fire →
      exec (.alarmFalse []) s = .next (buildReply 0x39 ⟨s, .refusedState, []⟩)) ∧
    (∀ z, s.asc.stage = .investigate → s.asc.zone = some z → s.tbs.commit.current ≠ .pending →
      (∀ r, findZone s z = some r → r.condition ≠ .fire) →
      ∃ t w, exec (.alarmFalse []) s = .next (buildReply 0x39 ⟨t, .done, []⟩) ∧
        t.asc = { s.asc with
          stage := .normal
          invStep := none
          zone := none
          group := none
          stageStart := s.time
          ackExpiry := none
          invExpiry := none } ∧
        w = select (((post .alarmFalse z none s).setAsc t.asc).setClc { s.clc with
          queue := s.clc.queue.filter fun c => c.origin != .detection }) ∧
        t.clc = w.clc ∧ t.lpc = w.lpc ∧ t.evq = w.evq ∧ t.cmi = w.cmi ∧
        t.zmn = { s.zmn with zones := s.zmn.zones.map fun x => { x with latch := false } } ∧
        t.srx = { s.srx with idleRef := s.time } ∧ t.fbl = s.fbl ∧
        t.phc = s.phc ∧ t.hlu = s.hlu ∧ t.ctc = s.ctc ∧ t.tbs = s.tbs ∧ t.crg = s.crg ∧ t.time = s.time) ∧
    (∀ z, s.asc.stage = .evacuate → s.asc.zone = some z → s.tbs.commit.current ≠ .pending →
      (∀ r ∈ s.zmn.zones, r.condition ≠ .fire) →
      ∃ t v w, exec (.alarmReset []) s = .next (buildReply 0x3A ⟨t, .done, []⟩) ∧
        t.asc = { s.asc with
          stage := .normal
          zone := none
          group := none
          stageStart := s.time
          general := false
          evacStart := none
          showStop := false
          groups := List.replicate 7 .clear } ∧
        v = (post .alarmReset z none (post .phaseForced s.phc.act (some 5) s)).setAsc t.asc ∧
        (s.clc.channel = .evacuation → w = select ((unitIssue (.stopPlay false) v).setClc { s.clc with
          sched := if s.phc.phase = .interval then [] else s.clc.sched
          evacZones := 0
          cut := none
          cutTaken := false
          channel := .idle })) ∧
        (s.clc.channel = .paging → w = v.setClc { s.clc with
          sched := if s.phc.phase = .interval then [] else s.clc.sched
          evacZones := 0
          evacOwed := false }) ∧
        (s.clc.channel = .evacuation ∨ s.clc.channel = .paging →
          t.clc = w.clc ∧ t.lpc = w.lpc ∧ t.evq = w.evq ∧ t.cmi = w.cmi) ∧
        t.phc = { s.phc with phase := .houseClear, start := s.time } ∧
        t.hlu.circuits = s.hlu.circuits.map (fun c =>
          { c with override := none, source := .preset ⟨255, 255, s.time, 0⟩ }) ∧
        t.hlu.groups = s.hlu.groups.map (fun g => { g with master := 255 }) ∧
        t.zmn = { s.zmn with zones := s.zmn.zones.map fun x => { x with latch := false } } ∧
        t.srx = { s.srx with idleRef := s.time } ∧ t.fbl = s.fbl ∧
        t.ctc = s.ctc ∧ t.tbs = s.tbs ∧ t.crg = s.crg ∧ t.time = s.time))

/-- A fire is taken by stage and route: INVESTIGATE, staged or general EVACUATE, all groups at a general
fire, or the start of its own group. (R103, R104, R105, R107, R111, R112) -/
def Obligations.FireIsTakenByTheStage : Prop :=
  ∀ (f : Fire) (s : State),
    (s.asc.stage = .normal → f.route = .investigate → (∀ r ∈ s.zmn.zones, r.window = none) →
      (takeFire f s).asc = { s.asc with
        stage := .investigate
        invStep := some .awaitingAck
        zone := some f.zone
        group := some f.group
        stageStart := s.time
        ackExpiry := some (s.time + s.tbs.auth.ackTime * 1000) }) ∧
    (s.asc.stage = .normal → f.route = .evacuate → (∀ r ∈ s.zmn.zones, r.window = none) →
      (takeFire f s).asc = { s.asc with
        stage := .evacuate
        invStep := none
        zone := some f.zone
        group := some f.group
        stageStart := s.time
        ackExpiry := none
        invExpiry := none
        general := false
        evacStart := some s.time
        showStop := true
        groups := (List.range 7).map fun g =>
          if g = 0 ∨ g = f.group ∨
              min (groupOffset s.tbs.active.zone g) s.tbs.auth.stagingLimit = 0 then
            .evacuating s.time .entry
          else .pending (s.time + min (groupOffset s.tbs.active.zone g) s.tbs.auth.stagingLimit * 1000) }) ∧
    (s.asc.stage = .normal → f.route = .general → (∀ r ∈ s.zmn.zones, r.window = none) →
      (takeFire f s).asc = { s.asc with
        stage := .evacuate
        invStep := none
        zone := some f.zone
        group := some f.group
        stageStart := s.time
        ackExpiry := none
        invExpiry := none
        general := true
        evacStart := some s.time
        showStop := true
        groups := List.replicate 7 (.evacuating s.time .general) }) ∧
    (s.asc.stage = .investigate → f.route ≠ .general →
      (takeFire f s).asc = { s.asc with
        stage := .evacuate
        invStep := none
        stageStart := s.time
        ackExpiry := none
        invExpiry := none
        general := false
        evacStart := some s.time
        showStop := true
        groups := (List.range 7).map fun g =>
          if g = 0 ∨ s.asc.group = some g ∨ g = f.group ∨
              min (groupOffset s.tbs.active.zone g) s.tbs.auth.stagingLimit = 0 then
            .evacuating s.time .entry
          else .pending (s.time + min (groupOffset s.tbs.active.zone g) s.tbs.auth.stagingLimit * 1000) }) ∧
    (s.asc.stage = .investigate → f.route = .general →
      (takeFire f s).asc = { s.asc with
        stage := .evacuate
        invStep := none
        stageStart := s.time
        ackExpiry := none
        invExpiry := none
        general := true
        evacStart := some s.time
        showStop := true
        groups := List.replicate 7 (.evacuating s.time .general) }) ∧
    (s.asc.stage = .evacuate → f.route = .general → s.asc.general = true → takeFire f s = s) ∧
    (s.asc.stage = .evacuate → f.route = .general → s.asc.general = false → s.asc.groups.length = 7 →
      (takeFire f s).asc = { s.asc with
        general := true
        groups := s.asc.groups.map fun x => match x with
          | .pending _ => .evacuating s.time .general
          | .clear => .clear
          | .evacuating t c => .evacuating t c }) ∧
    (∀ d, s.asc.stage = .evacuate → f.route ≠ .general → s.asc.groups[f.group]? = some (.pending d) →
      (takeFire f s).asc = { s.asc with groups := s.asc.groups.set f.group (.evacuating s.time .fire) }) ∧
    (∀ t c, s.asc.stage = .evacuate → f.route ≠ .general → s.asc.groups[f.group]? = some (.evacuating t c) →
      takeFire f s = s)

/-- INVESTIGATE posts ALARM INVESTIGATE, alerts the staff, cuts lower calls, stops every raising curtain and
the demonstration, and sends a frame at once. (R27, R33, R54, R107, R114, R132, R134, R138, R142, R151,
R158, R161) The model's choice: log entry 28; log entry 46; log entry 6; log entry 8. -/
def Obligations.EntryToInvestigateAlertsAndStopsRaising : Prop :=
  ∀ (f : Fire) (s t v : State) (asleep builds : Bool) (abandoned : State → State) (held : Curtain → Curtain),
    s.asc.stage = .normal → f.route = .investigate → (∀ r ∈ s.zmn.zones, r.window = none) →
    asleep = decide (s.srx.state = .noStream ∨ s.srx.state = .quiet) → (asleep = true → s.fbl.running = false) →
    builds = (asleep || (sendingLevel s && s.fbl.running)) → t = takeFire f s →
    v = post .alarmInvestigate f.zone (some f.group) (s.setAsc { s.asc with
      stage := .investigate
      invStep := some .awaitingAck
      zone := some f.zone
      group := some f.group
      stageStart := s.time
      ackExpiry := some (s.time + s.tbs.auth.ackTime * 1000) }) →
    (∀ u, abandoned u = (match demoCurtain s with
        | some c => if s.ctc.demo.state ∈ [DemoState.lowering, .dwell, .raising] then
            post .demonstrationAbandoned c.number (some 1) else id
        | none => id)
      ((if asleep then post .streamLost 0 (some s.srx.state.code) else id) u)) →
    (∀ c, held c = { c with
      holdWaiting := false
      outstanding := if c.holdWaiting ∧ c.lastHold ∧ c.ownership = .implicit ∧ c.release ≠ .sent then some .yield
        else c.outstanding }) →
    t.asc = v.asc ∧ t.phc = s.phc ∧ t.tbs = s.tbs ∧ t.zmn = s.zmn ∧ t.time = s.time ∧
    t.srx = (if asleep then { s.srx with state := .lost, wakePending := false, discardOwed := false } else s.srx) ∧
    t.crg = (if asleep then { s.crg with previous := none } else s.crg) ∧
    (builds = false → t.hlu = s.hlu) ∧
    (builds = true → t.hlu = { s.hlu with circuits := s.hlu.circuits.map fun c =>
      if (housed s.tbs.active.slot c.number) then { c with lastSent := circuitLevel s c s.time } else c }) ∧
    t.fbl = (if builds then { s.fbl with
        running := true
        expiry := some (s.time + 25)
        lastOther := false
        frame := if frameSlots s = 0 then (if sendingLevel s then none else s.fbl.frame)
          else some ⟨false, s.time, buildLevels (s.setAsc v.asc), sendingLevel s⟩ }
      else s.fbl) ∧
    (∀ c, demoCurtain s = some c → s.ctc.demo.state ∈ [DemoState.lowering, .dwell, .raising] →
      t.ctc.demo = ⟨.notDone, none, none, none, s.ctc.demo.loweringTime, none⟩) ∧
    (s.ctc.demo.state ∉ [DemoState.lowering, .dwell, .raising] → t.ctc.demo = s.ctc.demo) ∧
    ((s.ctc.curtains.map (·.number)).Nodup → t.ctc.curtains = s.ctc.curtains.map fun c =>
      if s.ctc.demo.state = .dwell ∧ demoCurtain s = some c then
        (fun x : Curtain => if x.outstanding = some .raise ∧ x.release ≠ .sent then
            { x with outstanding := some .stop } else x)
          (held { c with
            motion := none
            ownership := if c.ownership = .explicit then .implicit else c.ownership })
      else if c.motion.map (·.up) = some true then
        held { c with
          motion := none
          ownership := if c.ownership = .explicit then .implicit else c.ownership
          state := .stopped
          outstanding := if c.release = .sent then c.outstanding else some .stop }
      else if c.outstanding = some .raise ∧ c.release ≠ .sent then { c with outstanding := some .stop } else c) ∧
    (∀ c st, (s.ctc.curtains.map (·.unit)).Nodup → (s.ctc.curtains.map (·.number)).Nodup → c ∈ s.ctc.curtains →
      c.motion.map (·.up) = some true → c.release ≠ .sent → c.holdWaiting = false → s.ctc.demo.state ≠ .dwell →
      st ∈ s.lpc.stations → st.address = c.unit → st.kind = .curtainUnit →
      st.handOver (.drive .stop) ∈ t.lpc.stations) ∧
    (∀ w : State, ((w = v ∧ ((scheduleEntry? s.tbs.active.schedule).all fun e => e.staffMessage == 0) = true) ∨
        (∃ e m, scheduleEntry? s.tbs.active.schedule = some e ∧ e.staffMessage ≠ 0 ∧ e.staffZones ≠ 0 ∧
          findMessage s.tbs.active.message e.staffMessage = some m ∧ s.clc.queue.length < 16 ∧
          (∀ y ∈ s.clc.queue, ¬ (y.message = e.staffMessage ∧ y.priority = .alarm)) ∧
          w = select (v.setClc { s.clc with
            queue := joined ⟨e.staffMessage, e.staffZones, .alarm, .detection, s.time,
              if m.expiry = 0 then none else some (s.time + m.expiry * 1000)⟩ s.clc.queue }))) →
      t.evq = (abandoned w).evq ∧ t.cmi = (abandoned w).cmi ∧
      (∀ c, w.clc.channel = .playing → w.clc.current = some c → c.priority ∈ [Priority.routine, .show] →
        w.clc.cut = none → t.clc = { w.clc with cut := some .alarm } ∧
          ∀ st ∈ w.lpc.stations, announcerAddress w = some st.address → w.clc.announcer = .present →
            st.kind = .announcer → st.handOver (.stopPlay true) ∈ t.lpc.stations) ∧
      (w.clc.channel ≠ .playing ∨ w.clc.cut.isSome = true ∨
          (∀ c, w.clc.current = some c → c.priority ∈ [Priority.staff, .alarm]) → t.clc = w.clc))

/-- EVACUATE, by whichever route, posts its cause and each started group, overrides every circuit, releases
and latches the curtains, and takes the channel. (R27, R33, R55, R103, R104, R109, R111, R114, R135, R142,
R160, R162) The model's choice: log entry 28; log entry 36; log entry 46; log entry 48;
log entry 6; log entry 8. -/
def Obligations.EntryToEvacuateReachesTheHouse : Prop :=
  ∀ (s t u v : State) (zone cause : Nat) (gs : List Nat) (zones : FohSet) (asleep builds : Bool) (lit : State)
      (held : Curtain → Curtain),
    ((∃ f : Fire, s.asc.stage = .normal ∧ f.route = .evacuate ∧ zone = f.zone ∧ cause = 1 ∧ t = takeFire f s) ∨
      (∃ f : Fire, s.asc.stage = .normal ∧ f.route = .general ∧ zone = f.zone ∧ cause = 5 ∧ t = takeFire f s) ∨
      (∃ f : Fire, s.asc.stage = .investigate ∧ s.asc.zone = some zone ∧ cause = 2 ∧ t = takeFire f s) ∨
      (∃ e, Running s ∧ s.asc.stage = .investigate ∧ s.asc.zone = some zone ∧ s.asc.invStep = some .awaitingAck ∧
        s.asc.ackExpiry = some e ∧ e ≤ s.time ∧ cause = 3 ∧ exec .ackTimerExpiry s = .next t) ∨
      (∃ e, Running s ∧ s.asc.stage = .investigate ∧ s.asc.zone = some zone ∧
        s.asc.invStep = some .investigating ∧ s.asc.invExpiry = some e ∧ e ≤ s.time ∧ cause = 4 ∧
        exec .investigationTimerExpiry s = .next t)) →
    (∀ r ∈ s.zmn.zones, r.window = none) →
    asleep = decide (s.asc.stage = .normal ∧ (s.srx.state = .noStream ∨ s.srx.state = .quiet)) →
    (asleep = true → s.fbl.running = false) → builds = (asleep || (sendingLevel s && s.fbl.running)) →
    gs = (List.range 7).filter (fun g => match t.asc.groups[g]? with
      | some (.evacuating _ _) => true
      | _ => false) →
    zones = (gs.map (groupFoh s.tbs.active.zone)).foldl (· ||| ·) 0 →
    u = gs.foldl (fun x g => post .groupStarted g (some (if t.asc.general then 4 else 1)) x)
      (post .alarmEvacuate zone (some cause) s) →
    v = (match demoCurtain s with
        | some c => if s.ctc.demo.state ∈ [DemoState.lowering, .dwell, .raising] then
            post .demonstrationAbandoned c.number (some 2) else id
        | none => id)
      ((if asleep then post .streamLost 0 (some s.srx.state.code) else id) u) →
    lit = (s.setAsc t.asc).setHlu { s.hlu with circuits := s.hlu.circuits.map fun c => { c with
      override := some ⟨if s.phc.phase ∈ [Phase.houseOpen, .act, .interval] ∧ c.lastSent < c.floor then c.floor
        else c.lastSent, s.time, s.tbs.auth.alarmFade * 100⟩
      source := match c.source with | .console _ => .console none | .preset f => .preset f } } →
    (∀ c, held c = { c with
      holdWaiting := false
      outstanding := if c.holdWaiting ∧ c.lastHold ∧ c.ownership = .implicit ∧ c.release ≠ .sent then some .yield
        else c.outstanding }) →
    t.asc.stage = .evacuate ∧ t.asc.showStop = true ∧ t.asc.zone = some zone ∧ t.asc.evacStart = some s.time ∧
    t.phc = s.phc ∧ t.tbs = s.tbs ∧ t.zmn = s.zmn ∧ t.time = s.time ∧
    t.srx = (if asleep then { s.srx with state := .lost, wakePending := false, discardOwed := false } else s.srx) ∧
    t.crg = (if asleep then { s.crg with previous := none } else s.crg) ∧
    (builds = false → t.hlu = lit.hlu) ∧
    (builds = true → t.hlu = { s.hlu with circuits := lit.hlu.circuits.map fun c =>
      if (housed s.tbs.active.slot c.number) then { c with lastSent := circuitLevel lit c s.time } else c }) ∧
    t.fbl = (if builds then { s.fbl with
        running := true
        expiry := some (s.time + 25)
        lastOther := false
        frame := if frameSlots s = 0 then (if sendingLevel s then none else s.fbl.frame)
          else some ⟨false, s.time, buildLevels lit, sendingLevel s⟩ }
      else s.fbl) ∧
    (∀ c, demoCurtain s = some c → s.ctc.demo.state ∈ [DemoState.lowering, .dwell, .raising] →
      t.ctc.demo = ⟨.notDone, none, none, none, s.ctc.demo.loweringTime, none⟩) ∧
    (s.ctc.demo.state ∉ [DemoState.lowering, .dwell, .raising] → t.ctc.demo = s.ctc.demo) ∧
    ((s.ctc.curtains.map (·.number)).Nodup → t.ctc.curtains = s.ctc.curtains.map fun c =>
      if c.state = .lowered ∨ c.release ≠ .none then
        (if c.motion.map (·.up) = some true then
          held { c with
            latch := some .fire
            motion := none
            ownership := if c.ownership = .explicit then .implicit else c.ownership
            state := .stopped
            outstanding := if c.release = .sent then c.outstanding else some .stop }
        else (fun x : Curtain => if x.outstanding = some .raise ∧ x.release ≠ .sent then
              { x with latch := some .fire, outstanding := some .stop }
            else { x with latch := some .fire })
          (if s.ctc.demo.state ∈ [DemoState.lowering, .dwell, .raising] ∧ demoCurtain s = some c then
            held { c with
              motion := none
              ownership := if c.ownership = .explicit then .implicit else c.ownership }
          else c))
      else { c with
          latch := some .fire
          motion := none
          ownership := if c.ownership = .explicit then .implicit else c.ownership
          release := .sent
          releaseRefused := false
          holdWaiting := false
          outstanding := some .release
          state := if c.state = .unknown then .unknown else .emergency }) ∧
    (∀ c st, (s.ctc.curtains.map (·.unit)).Nodup → (s.ctc.curtains.map (·.number)).Nodup → c ∈ s.ctc.curtains →
      c.state ≠ .lowered → c.release = .none → st ∈ s.lpc.stations → st.address = c.unit → st.kind = .curtainUnit →
      st.handOver (.drive .release) ∈ t.lpc.stations) ∧
    (∀ e st, t.clc.channel = .evacuation → s.clc.channel ≠ .evacuation →
      scheduleEntry? s.tbs.active.schedule = some e → e.evacMessage ≠ 0 →
      zones ≠ 0 → s.clc.announcer = .present → s.lpc.stations.find? (fun x => x.kind == .announcer) = some st →
      st.pending.map (·.1) ≠ some (.drive .release) →
      ∃ x ∈ t.lpc.stations, x.address = st.address ∧ x.kind = .announcer ∧ x.pending.map (·.1) =
        some (.play e.evacMessage (messageKind s e.evacMessage) zones true)) ∧
    (s.clc.channel = .idle → t.evq = v.evq ∧ t.cmi = v.cmi ∧
      t.clc = { s.clc with
        evacZones := zones
        evacRefused := false
        cutTaken := false
        channel := .evacuation }) ∧
    (∀ c, s.clc.channel = .playing → s.clc.current = some c →
      t.evq = (post .callDiscarded c.message (some c.priority.code) v).evq ∧
      t.cmi = (post .callDiscarded c.message (some c.priority.code) v).cmi ∧
      t.clc = { s.clc with
        evacZones := zones
        evacRefused := false
        cutTaken := false
        current := none
        playTaken := false
        overrun := none
        cut := none
        channel := .evacuation }) ∧
    (∀ a, s.clc.channel = .paging → s.clc.holder = some (a, .fire) → t.evq = v.evq ∧ t.cmi = v.cmi ∧
      t.clc = { s.clc with
        evacZones := zones
        evacRefused := false
        cutTaken := false
        evacOwed := true }) ∧
    (∀ a cls, s.clc.channel = .paging → s.clc.holder = some (a, cls) → cls ≠ .fire →
      t.evq = (post .pageRevoked a (some 3) v).evq ∧ t.cmi = (post .pageRevoked a (some 3) v).cmi ∧
      t.clc = { s.clc with
        requests := s.clc.requests.map fun r => if r.station = a then { r with state := .revoked } else r
        evacZones := zones
        evacRefused := false
        cutTaken := false
        holder := none
        pageLimit := none
        evacOwed := false
        channel := .evacuation })

/-- A stage change and a warm restart close every open window with its charge. The fires held under them are taken,
at a stage change once it has reached every reader (R94, R114), and at a warm restart after all the rest of the restart:
that order is the model's choice, log entry 6, for R191 says that the blocks' rules need none. (R79, R93, R94, R98,
R114) -/
def Obligations.OpenWindowsAreClosedAndTheirFiresTaken : Prop :=
  ∀ (s shut : State) (lit : Zone → Bool) (route : Zone → FireRoute) (fires : List Fire) (bare : State → State),
    (s.zmn.zones.map (·.number)).Nodup → (∀ r ∈ s.zmn.zones, 1 ≤ r.number ∧ r.number ≤ s.zmn.used.length) →
    (∀ r, lit r = decide (r.condition = .fire ∨ (r.condition = .lost ∧ r.deferred = true))) →
    (∀ r, route r = if r.kind = .manual then .general
      else if (if s.phc.phase ∈ [Phase.houseOpen, .act, .interval] then r.present else r.absent) = .investigate
        then .investigate else .evacuate) →
    fires = (s.zmn.zones.filter fun r => r.window.isSome && lit r).map (fun r => ⟨r.number, r.group, route r⟩) →
    shut = s.setZmn {
      zones := s.zmn.zones.map fun r =>
        if r.window.isSome then { r with window := none, deferred := false, latch := r.latch || lit r } else r
      used := s.zmn.zones.foldl (fun a r => match r.window with
        | some w => a.set (r.number - 1) (a.getD (r.number - 1) 0 + (s.time - w.start + 999) / 1000)
        | none => a) s.zmn.used } →
    (∀ u, bare u = (u.setEvq s.evq).setCmi s.cmi) →
    (∀ f, s.asc.stage = .normal →
      bare (takeFire f s) = bare (fires.foldl (fun u g => takeFire g u) (takeFire f shut))) ∧
    (Running s → s.restartArmed = true → ∃ t u, exec .restartPulse s = .next t ∧
      exec .restartPulse shut = .next u ∧ bare t = bare (fires.foldl (fun u g => takeFire g u) u)) ∧
    closeAllWhole s = (s.zmn.zones.foldl (fun u r => match r.window with
      | none => u
      | some w =>
        let charge := (s.time - w.start + 999) / 1000
        let count := u.zmn.used.getD (r.number - 1) 0 + charge
        (if count = s.tbs.auth.budget.getD (r.number - 1) 0 then post .budgetSpent r.number none else id)
          (post .suppressionClosed r.number (some charge)
            ((if lit r then post .zoneFire r.number (some (route r).code) else id)
              (u.setZmn {
                zones := u.zmn.zones.map fun x => if x.number = r.number then
                  { x with window := none, deferred := false, latch := x.latch || lit r } else x
                used := u.zmn.used.set (r.number - 1) count })))) s, fires)

/-! ### The safety curtains -/

/-- CURTAIN MOVE that passes its checks starts, continues or stops a segment; a wrong number or motion, or a
barred curtain, is refused. (R124, R126, R127, R134) -/
def Obligations.CurtainMoveIsTakenOrRefused : Prop :=
  (∀ (n : Byte) (c : Curtain) (s : State), Ready s → 1 ≤ n.toNat → n.toNat ≤ 4 →
      findCurtain s n.toNat = some c → c.ownership ≠ .pendant → c.outstanding ≠ some .yield →
      demoRunsOn s n.toNat = false → c.state ≠ .unknown → c.state ≠ .emergency → c.release ≠ .sent →
      (c.state = .lowered → exec (.curtainMove [n, 1]) s = .next (buildReply 0x40 ⟨s, .done, []⟩)) ∧
      (c.state ≠ .lowered → c.motion.map (·.up) = some false →
        exec (.curtainMove [n, 1]) s = .next (buildReply 0x40 ⟨s, .accepted, []⟩)) ∧
      (c.state ≠ .lowered → c.motion.map (·.up) ≠ some false →
        exec (.curtainMove [n, 1]) s = .next (buildReply 0x40
          ⟨reexamine (issue c.unit (.drive .lower) (s.setCtc { s.ctc with
              curtains := s.ctc.curtains.map fun x =>
                if x.number = n.toNat then
                  { x with
                    ownership := .explicit
                    motion := some ⟨false, s.time, s.time⟩
                    state := .lowering
                    outstanding := some .lower }
                else x })), .accepted, []⟩)) ∧
      (c.latch = none → s.asc.stage = .normal → c.state = .raised →
        exec (.curtainMove [n, 2]) s = .next (buildReply 0x40 ⟨s, .done, []⟩)) ∧
      (c.latch = none → s.asc.stage = .normal → c.state ≠ .raised → c.motion.map (·.up) = some true →
        exec (.curtainMove [n, 2]) s = .next (buildReply 0x40 ⟨s, .accepted, []⟩)) ∧
      (c.latch = none → s.asc.stage = .normal → c.state ≠ .raised → c.motion.map (·.up) ≠ some true →
        exec (.curtainMove [n, 2]) s = .next (buildReply 0x40
          ⟨reexamine (issue c.unit (.drive .raise) (s.setCtc { s.ctc with
              curtains := s.ctc.curtains.map fun x =>
                if x.number = n.toNat then
                  { x with
                    ownership := .explicit
                    motion := some ⟨true, s.time, s.time⟩
                    state := .raising
                    outstanding := some .raise }
                else x })), .accepted, []⟩)) ∧
      (c.motion = none → exec (.curtainMove [n, 3]) s = .next (buildReply 0x40 ⟨s, .done, []⟩)) ∧
      (c.motion.isSome = true → c.holdWaiting = false →
        exec (.curtainMove [n, 3]) s = .next (buildReply 0x40
          ⟨reexamine (issue c.unit (.drive .stop) (s.setCtc { s.ctc with
              curtains := s.ctc.curtains.map fun x =>
                if x.number = n.toNat then
                  { x with
                    ownership := if x.ownership = .explicit then .implicit else x.ownership
                    motion := none
                    state := .stopped
                    outstanding := some .stop }
                else x })), .done, []⟩))) ∧
  (∀ (n m : Byte) (s : State), Ready s →
      ((n.toNat < 1 ∨ 4 < n.toNat ∨ findCurtain s n.toNat = none ∨ m.toNat < 1 ∨ 3 < m.toNat) →
        exec (.curtainMove [n, m]) s = .next (buildReply 0x40 ⟨s, .badArgument, []⟩)) ∧
      (∀ c, 1 ≤ n.toNat → n.toNat ≤ 4 → 1 ≤ m.toNat → m.toNat ≤ 3 → findCurtain s n.toNat = some c →
        (c.ownership = .pendant ∨ c.outstanding = some .yield ∨ demoRunsOn s n.toNat = true ∨
          c.state = .unknown ∨ c.state = .emergency ∨ c.release = .sent ∨
          (m = 2 ∧ (c.latch.isSome = true ∨ s.asc.stage ≠ .normal))) →
        exec (.curtainMove [n, m]) s = .next (buildReply 0x40 ⟨s, .refusedState, []⟩)))

/-- A drive unit's reply sets position and state, ends a segment at its limit or at an obstruction, yields
to a hold, and moves the demonstration on. (R123, R124, R125, R128, R129, R131, R132, R141) The model's
choice: log entry 28; log entry 6. -/
def Obligations.CurtainFollowsItsReplies : Prop :=
  ∀ (st : Station) (content : List Byte) (r : DriveReply) (c c1 : Curtain) (x : CurtainState)
    (put : Curtain → State) (s : State),
    st.kind = .curtainUnit → driveReplyOf content = r →
    s.ctc.curtains.find? (fun y => y.unit == st.address) = some c → c.unit = st.address →
    (∀ y ∈ s.ctc.curtains, y.number = c.number ∨ y.unit = st.address → y = c) →
    s.tbs.commit.current ≠ .pending → r.released = false → r.motion ≠ .falling → c.release = .none →
    c1 = { c with
      position := r.position
      motion := c.motion.map fun m => if c.position = r.position then m else { m with progress := s.time }
      lastHold := r.hold
      lastObstruction := r.obstruction } →
    x = (if r.upper ∧ r.lower then .fault else if r.lower then .lowered else if r.upper then .raised
      else if r.motion = .up then .raising else if r.motion = .down then .lowering else .stopped) →
    (∀ y, put y = s.setCtc { s.ctc with
      curtains := s.ctc.curtains.map fun z => if z.number = c.number then y else z }) →
    (∀ (d : DriveCmd) (taken : Bool), c.outstanding ≠ some d →
      deliver st content (some (.drive d, taken)) s = deliver st content none s) ∧
    (c.ownership = .implicit → c.motion = none → c.state ∉ [CurtainState.emergency, .fault] →
      (r.hold = false → (x ∉ [CurtainState.raising, .lowering] ∨ c.outstanding ∈ [some DriveCmd.yield, some .stop]) →
        deliver st content none s =
          (if x = .fault then post .curtainLimits c.number none else id)
            ((if c.state = .unknown then post .curtainFound c.number (some x.code) else id)
              (put { c1 with state := x }))) ∧
      (r.hold = false → x ∈ [CurtainState.raising, .lowering] → c.outstanding ∉ [some DriveCmd.yield, some .stop] →
        deliver st content none s =
          post .curtainUncommanded c.number (some x.code) (issue st.address (.drive .stop)
            ((if c.state = .unknown then post .curtainFound c.number (some x.code) else id)
              (put { c1 with state := x, outstanding := some .stop })))) ∧
      (r.hold = true → c.outstanding ≠ some .yield →
        deliver st content none s =
          issue st.address (.drive .yield)
            ((if x = .fault then post .curtainLimits c.number none else id)
              ((if c.state = .unknown then post .curtainFound c.number (some x.code) else id)
                (put { c1 with state := x, outstanding := some .yield }))))) ∧
    (c.ownership = .implicit → c.motion = none → c.state = .fault → r.hold = false →
      deliver st content none s = put c1) ∧
    (∀ m, c.ownership = .explicit → c.motion = some m → demoRunsOn s c.number = false →
      c.state ∈ [CurtainState.raising, .lowering] →
      (c.holdWaiting = false → r.hold = false →
        (m.up = true → r.upper = true →
          deliver st content none s = post .curtainMoved c.number (some 1)
            (put { c1 with ownership := .implicit, motion := none, state := .raised })) ∧
        (m.up = false → r.lower = true →
          deliver st content none s = post .curtainMoved c.number (some 2)
            (put { c1 with ownership := .implicit, motion := none, state := .lowered })) ∧
        (m.up = false → r.lower = false → r.obstruction = true →
          deliver st content none s = post .curtainObstructed c.number (some r.position)
            (issue st.address (.drive .stop)
              (put { c1 with
                ownership := .implicit
                motion := none
                state := .stopped
                outstanding := some .stop }))) ∧
        (m.up = false → r.lower = true → r.upper = false → c.outstanding = some .lower →
          deliver st content (some (.drive .lower, false)) s = post .curtainRefused c.number (some 1)
            (put { c1 with
              ownership := .implicit
              motion := none
              state := .lowered
              outstanding := none }))) ∧
      ((m.up = true ∧ r.upper = false) ∨ (m.up = false ∧ r.lower = false ∧ r.obstruction = false) →
        deliver st content none s = put { c1 with holdWaiting := c.holdWaiting || r.hold })) ∧
    (∀ m, c.ownership = .explicit → c.motion = some m → demoRunsOn s c.number = true → c.holdWaiting = false →
      c.state ∈ [CurtainState.raising, .lowering] → r.hold = false →
      (∀ t0, s.ctc.demo.state = .lowering → s.ctc.demo.loweringStart = some t0 → r.lower = true →
        deliver st content none s = (put { c1 with state := .lowered }).setCtc
          { (put { c1 with state := .lowered }).ctc with
            demo := ⟨.dwell, none, none, some (s.time + 5000), some (s.time - t0), s.ctc.demo.failure⟩ }) ∧
      (s.ctc.demo.state = .raising → r.upper = true →
        deliver st content none s =
          post .demonstrationPassed c.number (s.ctc.demo.loweringTime.map fun t => t / 100)
            ((put { c1 with ownership := .implicit, motion := none, state := .raised }).setCtc
              { (put { c1 with ownership := .implicit, motion := none, state := .raised }).ctc with
                demo := { s.ctc.demo with state := .passed } })))

/-- YIELD taken gives the drive to the pendant, whose replies are still reported; at the end of the hold
RESUME gives it back. (R124, R125, R131, R132, R133) The model's choice: log entry 26; log entry 27; log
entry 28; log entry 6. -/
def Obligations.PendantTakesAndReturnsTheDrive : Prop :=
  ∀ (st : Station) (content : List Byte) (r : DriveReply) (c c1 : Curtain) (x : CurtainState)
    (put : Curtain → State) (report : State → State) (s : State),
    st.kind = .curtainUnit → driveReplyOf content = r →
    s.ctc.curtains.find? (fun y => y.unit == st.address) = some c → c.unit = st.address →
    (∀ y ∈ s.ctc.curtains, y.number = c.number ∨ y.unit = st.address → y = c) →
    s.tbs.commit.current ≠ .pending → r.released = false → r.motion ≠ .falling → c.release = .none →
    c.motion = none → c.state ≠ .emergency →
    c1 = { c with position := r.position, lastHold := r.hold, lastObstruction := r.obstruction } →
    x = (if r.upper ∧ r.lower then .fault else if r.lower then .lowered else if r.upper then .raised
      else if r.motion = .up then .raising else if r.motion = .down then .lowering else .stopped) →
    (∀ y, put y = s.setCtc { s.ctc with
      curtains := s.ctc.curtains.map fun z => if z.number = c.number then y else z }) →
    (∀ t, report t =
      (if r.obstruction ∧ c.lastObstruction = false then post .curtainObstructed c.number (some r.position) else id)
        ((if x = .fault then post .curtainLimits c.number none else id)
          ((if c.state = .unknown then post .curtainFound c.number (some x.code) else id) t))) →
    (c.ownership = .implicit → c.outstanding = some .yield → r.hold = true →
      deliver st content (some (.drive .yield, true)) s =
        report (post .curtainOwnership c.number (some 2)
          (put { c1 with ownership := .pendant, outstanding := none, state := x })) ∧
      (c.state ∉ [CurtainState.unknown, .fault] → x ≠ .fault →
        deliver st content (some (.drive .yield, false)) s =
          post .curtainRefused c.number (some 5) (put { c1 with outstanding := none, state := x }))) ∧
    (c.ownership = .pendant →
      (r.hold = true → c.outstanding ≠ some .resume →
        deliver st content none s = report (put { c1 with state := x })) ∧
      (r.hold = true → c.outstanding = some .resume →
        deliver st content none s = issue st.address (.drive .yield)
          (report (put { c1 with state := x, outstanding := some .yield }))) ∧
      (r.hold = false → c.outstanding ≠ some .resume → c.outstanding ≠ some .yield →
        deliver st content none s = issue st.address (.drive .resume)
          (report (put { c1 with state := x, outstanding := some .resume }))) ∧
      (r.hold = false → c.outstanding = some .resume ∨ c.outstanding = some .yield →
        deliver st content none s = report (put { c1 with state := x })) ∧
      (r.hold = false → c.outstanding = some .resume →
        deliver st content (some (.drive .resume, false)) s =
          report (put { c1 with state := x, outstanding := none })) ∧
      (r.hold = false → c.outstanding = some .resume → r.obstruction = false →
        c.state ∉ [CurtainState.unknown, .fault] → x ∉ [CurtainState.fault, .raising, .lowering] →
        deliver st content (some (.drive .resume, true)) s =
          post .curtainOwnership c.number (some 0)
            (put { c1 with ownership := .implicit, outstanding := none, state := x })))

/-- A release taken or made at the unit starts the descent, which ends at the lower limit; a RAISE taken ends the
release; a lost drive unit makes its curtain UNKNOWN and latched. (R124, R131, R135, R136, R137, R143) The model's
choice: log entry 26; log entry 5; log entry 56. -/
def Obligations.ReleasedAndLostCurtains : Prop :=
  ∀ (st : Station) (content : List Byte) (r : DriveReply) (c c1 : Curtain) (put : Curtain → State)
    (report : State → State) (s : State),
    st.kind = .curtainUnit → driveReplyOf content = r →
    s.ctc.curtains.find? (fun y => y.unit == st.address) = some c → c.unit = st.address →
    (∀ y ∈ s.ctc.curtains, y.number = c.number ∨ y.unit = st.address → y = c) →
    s.tbs.commit.current ≠ .pending → demoRunsOn s c.number = false →
    c1 = { c with position := r.position, lastHold := r.hold, lastObstruction := r.obstruction } →
    (∀ y, put y = s.setCtc { s.ctc with
      curtains := s.ctc.curtains.map fun z => if z.number = c.number then y else z }) →
    (∀ t, report t =
      (if r.obstruction ∧ c.lastObstruction = false then
        postAt 6 .curtainObstructed c.number (some r.position) else id) t) →
    (r.hold = false → c.motion = none → c.ownership = .implicit → r.lower = false →
      (c.release = .sent → c.outstanding = some .release → c.state = .emergency ∨ c.state = .unknown →
        deliver st content (some (.drive .release, true)) s =
          report (post .curtainReleased c.number (some r.position) (put { c1 with
            state := .emergency
            release := .taken
            outstanding := none
            descent := some ⟨s.time, s.time + s.tbs.auth.descentLimit * 1000, false⟩ }))) ∧
      (c.release = .sent → c.outstanding = some .release → c.state = .emergency → c.releaseRefused = false →
        deliver st content (some (.drive .release, false)) s =
          report (post .curtainReleaseRefused c.number none (issue st.address (.drive .release)
            (put { c1 with outstanding := some .release, releaseRefused := true })))) ∧
      (c.state = .emergency → c.release ≠ .none → deliver st content none s = report (put c1))) ∧
    (r.hold = false → c.motion = none → c.ownership = .implicit → r.lower = true → r.upper = false →
      c.release = .sent → c.outstanding = some .release → c.state = .lowered →
      deliver st content (some (.drive .release, true)) s =
        post .curtainReleased c.number (some r.position) (put { c1 with
          release := .taken
          outstanding := none
          descent := some ⟨s.time, s.time + s.tbs.auth.descentLimit * 1000, false⟩ })) ∧
    (∀ (ack : Option (LoopCmd × Bool)) (left held : Option DriveCmd) (stops : Bool) (c2 : Curtain)
        (halts yields : State → State),
      r.released = true ∨ r.motion = .falling → c.ownership ≠ .pendant →
      ((ack = none ∧ c.release = .none ∧ left = c.outstanding) ∨
        (ack = some (.drive .raise, true) ∧ c.outstanding = some .raise ∧ left = none)) →
      stops = (c.motion.isSome || left == some .lower || left == some .raise) →
      held = (if stops then some .stop else left) →
      (∀ t, halts t = if stops then issue st.address (.drive .stop) t else t) →
      (∀ t, yields t = if r.hold ∧ held ≠ some .yield then issue st.address (.drive .yield) t else t) →
      c2 = { c1 with
        ownership := .implicit
        motion := none
        release := .localRelease
        latch := some .localRelease
        holdWaiting := false
        releaseRefused := false
        outstanding := if r.hold then some .yield else held } →
      (r.lower = false → deliver st content ack s =
        yields (report (post .curtainLocalRelease c.number (some r.position) (halts (put { c2 with
          state := .emergency
          descent := some ⟨s.time, s.time + s.tbs.auth.descentLimit * 1000, false⟩ }))))) ∧
      (r.lower = true → deliver st content ack s =
        yields ((if r.upper then post .curtainLimits c.number none else id)
          (post .curtainDown c.number (some 0) (post .curtainLocalRelease c.number (some r.position)
            (halts (put { c2 with
              state := if r.upper then .fault else .lowered
              lastDescent := some 0 }))))))) ∧
    (c.ownership = .pendant → c.motion = none → c.release = .none → r.released = true ∨ r.motion = .falling →
      r.hold = true → r.lower = false → c.outstanding ∈ [none, some DriveCmd.yield] →
      deliver st content none s = report (post .curtainLocalRelease c.number (some r.position) (put { c1 with
        state := .emergency
        release := .localRelease
        latch := some .localRelease
        holdWaiting := false
        releaseRefused := false
        descent := some ⟨s.time, s.time + s.tbs.auth.descentLimit * 1000, false⟩ }))) ∧
    (∀ (m : Motion) (c2 : Curtain), r.released = false → r.motion ≠ .falling → c.outstanding = some .raise →
      c.ownership = .explicit → c.motion = some m → m.up = true → c.state = .raising →
      c2 = { c1 with
        motion := some (if c.position = r.position then m else { m with progress := s.time })
        release := .none
        outstanding := none } →
      (r.upper = false → deliver st content (some (.drive .raise, true)) s =
        put { c2 with holdWaiting := c.holdWaiting || r.hold }) ∧
      (r.upper = true → r.hold = false → c.holdWaiting = false →
        deliver st content (some (.drive .raise, true)) s = post .curtainMoved c.number (some 1)
          (put { c2 with ownership := .implicit, motion := none, state := .raised }))) ∧
    (∀ d, r.hold = false → c.motion = none → c.ownership = .implicit → r.lower = true → c.descent = some d →
      c.release ∈ [ReleaseField.taken, .localRelease] → c.state = .emergency ∨ c.state = .unknown →
      deliver st content none s =
        post .curtainDown c.number (some ((s.time - d.start) / 100))
          ((put { c1 with state := .lowered, lastDescent := some (s.time - d.start), descent := none }).setFresh
            (s.fresh + 1))) ∧
    (c.motion = none → c.outstanding ≠ some .lower → c.outstanding ≠ some .raise → c.ownership ≠ .explicit →
      tellLoss st s = post .curtainLost c.number (some c.position)
        (put { c with state := .unknown, latch := some .lost, holdWaiting := false })) ∧
    (c.motion.isSome = true → c.ownership = .explicit → c.release ≠ .sent →
      tellLoss st s = issue st.address (.drive .stop) (post .curtainLost c.number (some c.position)
        (put { c with
          state := .unknown
          latch := some .lost
          holdWaiting := false
          motion := none
          ownership := .implicit
          outstanding := some .stop })))

/-- A stalled segment is stopped as FAULT, a late descent is reported once, and CLEAR LATCH clears a
curtain's latch only in NORMAL with the key on. (R130, R136, R139, R184) The model's choice: log entry 17;
log entry 31. -/
def Obligations.StallDescentLimitAndClearLatch : Prop :=
  (∀ (n : Nat) (c : Curtain) (s : State), Running s → findCurtain s n = some c →
    (∀ m, c.motion = some m → s.time < m.progress + 3000 → exec (.stallTimerExpiry n) s = .next s) ∧
    (∀ m, c.motion = some m → m.progress + 3000 ≤ s.time → demoRunsOn s n = false → c.release ≠ .sent →
      c.holdWaiting = false →
      exec (.stallTimerExpiry n) s = .next (reexamine (post .curtainStalled n (some c.position)
        (issue c.unit (.drive .stop) (s.setCtc { s.ctc with
          curtains := s.ctc.curtains.map fun x =>
            if x.number = n then
              { x with
                ownership := if x.ownership = .explicit then .implicit else x.ownership
                motion := none
                state := .fault
                outstanding := some .stop }
            else x }))))) ∧
    (∀ d, c.descent = some d → (s.time < d.expiry ∨ d.taken = true) →
      exec (.descentExpiry n) s = .next s) ∧
    (∀ d, c.descent = some d → d.expiry ≤ s.time → d.taken = false →
      exec (.descentExpiry n) s = .next (post .curtainLate n (some c.position) (s.setCtc { s.ctc with
        curtains := s.ctc.curtains.map fun x =>
          if x.number = n then
            { x with descent := x.descent.map fun y => ⟨y.start, y.expiry, true⟩ }
          else x })))) ∧
  (∀ (n : Byte) (s : State), Ready s →
    (s.keyOn = false →
      exec (.clearLatch [n]) s = .next (buildReply 0x42 ⟨post .keyRefused 0x42 none s, .refusedKey, []⟩)) ∧
    (s.keyOn = true → (n.toNat < 1 ∨ 4 < n.toNat ∨ findCurtain s n.toNat = none) →
      exec (.clearLatch [n]) s = .next (buildReply 0x42 ⟨s, .badArgument, []⟩)) ∧
    (∀ c, s.keyOn = true → 1 ≤ n.toNat → n.toNat ≤ 4 → findCurtain s n.toNat = some c →
      (s.asc.stage ≠ .normal ∨ c.state = .unknown ∨ c.state = .emergency →
        exec (.clearLatch [n]) s = .next (buildReply 0x42 ⟨s, .refusedState, []⟩)) ∧
      (s.asc.stage = .normal → c.state ≠ .unknown → c.state ≠ .emergency → c.latch = none →
        exec (.clearLatch [n]) s = .next (buildReply 0x42 ⟨s, .done, []⟩)) ∧
      (∀ cause, s.asc.stage = .normal → c.state ≠ .unknown → c.state ≠ .emergency → c.latch = some cause →
        exec (.clearLatch [n]) s = .next (buildReply 0x42
          ⟨post .latchCleared n.toNat (some cause.code) (s.setCtc { s.ctc with
            curtains := s.ctc.curtains.map fun x =>
              if x.number = n.toNat then { x with latch := none } else x }), .done, []⟩))))

/-- DEMONSTRATE starts a lowering of the flagged curtain when every check passes; dwell and lowering timers
raise it again or fail it. (R140, R141, R142, R124) The model's choice: log entry 31; log entry 47. -/
def Obligations.DemonstrationRuns : Prop :=
  (∀ (p : List Byte) (s : State), Ready s → p.length ≤ 200 →
    (p ≠ [] ∨ ∀ c ∈ s.ctc.curtains, c.demoFlag = false) →
    exec (.demonstrate p) s = .next (buildReply 0x41 ⟨s, .badArgument, []⟩)) ∧
  (∀ (c : Curtain) (s : State), Ready s → demoCurtain s = some c → findCurtain s c.number = some c →
    c.release ≠ .sent →
    (s.ctc.demo.state ∉ [DemoState.lowering, .dwell, .raising, .passed] →
      (s.phc.phase = .houseOpen ∨ s.phc.phase = .interval) → s.asc.stage = .normal → c.state = .raised →
      c.latch = none → c.ownership = .implicit → c.outstanding ≠ some .yield → c.holdWaiting = false →
      exec (.demonstrate []) s = .next (buildReply 0x41
        ⟨reexamine (issue c.unit (.drive .lower) (s.setCtc
          { curtains := s.ctc.curtains.map fun x =>
              if x.number = c.number then
                { x with
                  ownership := .explicit
                  motion := some ⟨false, s.time, s.time⟩
                  state := .lowering
                  outstanding := some .lower }
              else x
            demo := ⟨.lowering, none, none, none, s.ctc.demo.loweringTime, none⟩ })), .accepted, []⟩)) ∧
    ((s.ctc.demo.state ∈ [DemoState.lowering, .dwell, .raising, .passed] ∨
        s.phc.phase ∉ [Phase.houseOpen, .interval] ∨ s.asc.stage ≠ .normal ∨ c.state ≠ .raised ∨
        c.latch ≠ none ∨ c.ownership ≠ .implicit ∨ c.outstanding = some .yield ∨ c.holdWaiting = true) →
      exec (.demonstrate []) s = .next (buildReply 0x41 ⟨s, .refusedState, []⟩)) ∧
    (∀ e, s.ctc.demo.state = .dwell → s.ctc.demo.dwellExpiry = some e → e ≤ s.time →
      exec .dwellExpiry s = .next
        (reexamine (issue c.unit (.drive .raise) (s.setCtc
          { curtains := s.ctc.curtains.map fun x =>
              if x.number = c.number then
                { x with
                  ownership := .explicit
                  motion := some ⟨true, s.time, s.time⟩
                  state := .raising
                  outstanding := some .raise }
              else x
            demo := { s.ctc.demo with state := .raising, dwellExpiry := none } })))) ∧
    (∀ e, s.ctc.demo.state = .lowering → s.ctc.demo.loweringExpiry = some e → e ≤ s.time →
      c.holdWaiting = false →
      exec .loweringExpiry s = .next
        (reexamine (post .demonstrationFailed c.number (some 1)
          (issue c.unit (.drive .stop) (s.setCtc
            { curtains := s.ctc.curtains.map fun x =>
                if x.number = c.number then
                  { x with
                    ownership := if x.ownership = .explicit then .implicit else x.ownership
                    motion := none
                    state := .stopped
                    outstanding := some .stop }
                else x
              demo := ⟨.failed, none, none, none, s.ctc.demo.loweringTime, some .overtime⟩ }))))))

/-- A running demonstration fails by stall, obstruction, refusal, loss or local release, is abandoned at
PRESHOW, and times its LOWER from TAKEN. (R5, R128, R129, R130, R137, R141, R142, R143) The model's choice:
log entry 6. -/
def Obligations.DemonstrationEndsEarly : Prop :=
  ∀ (c : Curtain) (m : Motion) (failed : DemoFailure → Demo) (put : Curtain → Demo → State)
      (fails : Nat → State → State) (s : State),
    demoCurtain s = some c → (∀ y ∈ s.ctc.curtains, y.number = c.number ∨ y.unit = c.unit → y = c) →
    s.tbs.commit.current ≠ .pending → s.ctc.demo.state ∈ [DemoState.lowering, .dwell, .raising] →
    c.ownership = .explicit → c.motion = some m → c.release = .none →
    (∀ why, failed why = ⟨.failed, none, none, none, s.ctc.demo.loweringTime, some why⟩) →
    (∀ y d, put y d = s.setCtc
      { curtains := s.ctc.curtains.map fun z => if z.number = c.number then y else z, demo := d }) →
    (∀ k u, fails k u = post .demonstrationFailed c.number (some k) u) →
    (Running s → c.holdWaiting = false → m.progress + 3000 ≤ s.time → s.ctc.demo.state ≠ .dwell →
      exec (.stallTimerExpiry c.number) s = .next (fails 3 (post .curtainStalled c.number (some c.position)
        (issue c.unit (.drive .stop) (put { c with
          ownership := .implicit
          motion := none
          state := .fault
          outstanding := some .stop } (failed .stall)))))) ∧
    (Running s → s.ctc.demo.state = .dwell → exec (.stallTimerExpiry c.number) s = .next s) ∧
    (∀ b : Byte, Ready s → c.holdWaiting = false → s.phc.phase = .dark → s.asc.stage = .normal →
      ∃ t r p, exec (.setPhase [1, b]) s = .next (buildReply 0x10 ⟨t, r, p⟩) ∧
        t.ctc = (put { c with ownership := .implicit, motion := none, outstanding := some .stop }
          ⟨.notDone, none, none, none, s.ctc.demo.loweringTime, none⟩).ctc ∧
        t.lpc = (issue c.unit (.drive .stop) s).lpc ∧
        t.evq = (post .phaseEntered 0 (some 1) (post .demonstrationAbandoned c.number (some 4) s)).evq) ∧
    (∀ (st : Station) (content : List Byte) (r : DriveReply) (c1 : Curtain) (x : CurtainState),
      st.kind = .curtainUnit → st.address = c.unit → driveReplyOf content = r → r.hold = false →
      c.state ∈ [CurtainState.raising, .lowering, .lowered] →
      c1 = { c with
        position := r.position
        motion := some (if c.position = r.position then m else { m with progress := s.time })
        lastHold := false
        lastObstruction := r.obstruction } →
      x = (if r.lower then .lowered else if r.upper then .raised else .stopped) →
      tellLoss st s = fails 5 (issue c.unit (.drive .stop) (post .curtainLost c.number (some c.position)
        (put { c with
          state := .unknown
          latch := some .lost
          holdWaiting := false
          motion := none
          ownership := .implicit
          outstanding := some .stop } (failed .lost)))) ∧
      (r.released = false → r.motion ≠ .falling → s.ctc.demo.state = .lowering → r.lower = false →
        (r.obstruction = false → c.outstanding = some .lower →
          deliver st content (some (.drive .lower, true)) s = put { c1 with outstanding := none }
            { s.ctc.demo with
              loweringStart := some s.time
              loweringExpiry := some (s.time + s.tbs.auth.descentLimit * 1000) }) ∧
        (r.obstruction = true → c.holdWaiting = false →
          deliver st content none s = fails 2 (post .curtainObstructed c.number (some r.position)
            (issue c.unit (.drive .stop) (put { c1 with
              ownership := .implicit
              motion := none
              state := .stopped
              outstanding := some .stop } (failed .obstruction)))))) ∧
      (∀ cmd k, (cmd = .lower ∧ k = 1) ∨ (cmd = .raise ∧ k = 2) → r.released = false → r.motion = .still →
        ¬ (r.upper = true ∧ r.lower = true) → c.outstanding = some cmd → c.holdWaiting = false →
        deliver st content (some (.drive cmd, false)) s = fails 4 (post .curtainRefused c.number (some k)
          (put { c1 with
            ownership := .implicit
            motion := none
            state := x
            outstanding := none } (failed .refused)))) ∧
      (r.released = true ∨ r.motion = .falling →
        (r.lower = false → r.obstruction = false →
          deliver st content none s = fails 6 (issue c.unit (.drive .stop)
            (post .curtainLocalRelease c.number (some r.position) (put { c1 with
              ownership := .implicit
              motion := none
              state := .emergency
              release := .localRelease
              releaseRefused := false
              latch := some .localRelease
              holdWaiting := false
              outstanding := some .stop
              descent := some ⟨s.time, s.time + s.tbs.auth.descentLimit * 1000, false⟩ }
              (failed .localRelease))))) ∧
        (r.lower = true → r.upper = false →
          deliver st content none s = post .curtainDown c.number (some 0) (fails 6 (issue c.unit (.drive .stop)
            (post .curtainLocalRelease c.number (some r.position) (put { c1 with
              ownership := .implicit
              motion := none
              state := .lowered
              release := .localRelease
              releaseRefused := false
              latch := some .localRelease
              holdWaiting := false
              outstanding := some .stop
              lastDescent := some 0 } (failed .localRelease))))))))

/-- A hold request that waited for the end of a segment is issued YIELD when the last reply still showed it,
and otherwise only forgotten. (R127, R128, R129, R130, R131, R132, R142) The model's choice: log entry 28;
log entry 6. -/
def Obligations.HoldIsTakenWhenASegmentEnds : Prop :=
  (∀ (n : Nat) (c : Curtain) (s : State), findCurtain s n = some c →
    (c.holdWaiting = false → segmentEnded n s = s) ∧
    (c.holdWaiting = true → c.lastHold = true → c.ownership = .implicit → c.outstanding ≠ some .yield →
      c.release ≠ .sent →
      segmentEnded n s = issue c.unit (.drive .yield) (s.setCtc { s.ctc with
        curtains := s.ctc.curtains.map fun x =>
          if x.number = n then { x with holdWaiting := false, outstanding := some .yield } else x })) ∧
    (c.holdWaiting = true → (c.lastHold = false ∨ c.ownership ≠ .implicit ∨ c.outstanding = some .yield ∨
        c.release = .sent) →
      segmentEnded n s = s.setCtc { s.ctc with curtains := s.ctc.curtains.map fun x =>
        if x.number = n then { x with holdWaiting := false } else x })) ∧
  (∀ (n : Nat) (c : Curtain) (m : Motion) (s s0 : State) (e : Instr), findCurtain s n = some c →
    s.tbs.commit.current ≠ .pending → c.ownership = .explicit → c.motion = some m → c.release ≠ .sent →
    c.holdWaiting = true →
    s0 = s.setCtc { s.ctc with curtains := s.ctc.curtains.map fun x =>
      if x.number = n then { x with holdWaiting := false } else x } →
    ((Running s ∧ e = .stallTimerExpiry n ∧ m.progress + 3000 ≤ s.time ∧
        ¬ (demoRunsOn s n = true ∧ s.ctc.demo.state = .dwell)) ∨
      (Running s ∧ e = .loweringExpiry ∧ demoCurtain s = some c ∧ s.ctc.demo.state = .lowering ∧
        ∃ x, s.ctc.demo.loweringExpiry = some x ∧ x ≤ s.time) ∨
      (Ready s ∧ demoRunsOn s n = false ∧ c.state ≠ .unknown ∧ c.state ≠ .emergency ∧ c.outstanding ≠ some .yield ∧
        1 ≤ n ∧ n ≤ 4 ∧ e = .curtainMove [BitVec.ofNat 8 n, 3])) →
    ∃ t, exec e s0 = .next t ∧ exec e s = .next
      (if c.lastHold then issue c.unit (.drive .yield) (t.setCtc { t.ctc with
          curtains := t.ctc.curtains.map fun x => if x.number = n then { x with outstanding := some .yield } else x })
        else t)) ∧
  (∀ (st : Station) (content : List Byte) (r : DriveReply) (c c1 : Curtain) (m : Motion)
      (put : Curtain → Demo → State) (yields : State → State) (x : CurtainState) (s : State),
    st.kind = .curtainUnit → driveReplyOf content = r →
    s.ctc.curtains.find? (fun y => y.unit == st.address) = some c → c.unit = st.address →
    (∀ y ∈ s.ctc.curtains, y.number = c.number ∨ y.unit = st.address → y = c) →
    s.tbs.commit.current ≠ .pending → r.released = false → r.motion ≠ .falling → c.release = .none →
    c.ownership = .explicit → c.motion = some m → c.state ∈ [CurtainState.raising, .lowering] →
    c.outstanding ≠ some .yield →
    c1 = { c with
      position := r.position
      ownership := .implicit
      motion := none
      lastHold := r.hold
      lastObstruction := r.obstruction
      holdWaiting := false
      outstanding := if r.hold then some .yield else c.outstanding } →
    (∀ y d, put y d = s.setCtc
      { curtains := s.ctc.curtains.map fun z => if z.number = c.number then y else z, demo := d }) →
    (∀ u, yields u = if r.hold then issue st.address (.drive .yield) u else u) →
    (demoRunsOn s c.number = false → (m.up = true ∧ r.upper = true ∧ x = .raised) ∨
        (m.up = false ∧ r.lower = true ∧ x = .lowered) →
      deliver st content none s = yields (post .curtainMoved c.number (some x.code)
        (put { c1 with state := x } s.ctc.demo))) ∧
    (demoRunsOn s c.number = false → m.up = false → r.lower = false → r.obstruction = true →
      deliver st content none s = yields (post .curtainObstructed c.number (some r.position)
        (issue st.address (.drive .stop) (put { c1 with
          state := .stopped
          outstanding := some (if r.hold then .yield else .stop) } s.ctc.demo)))) ∧
    (demoRunsOn s c.number = true → s.ctc.demo.state = .lowering → r.lower = false → r.obstruction = true →
      deliver st content none s = yields (post .demonstrationFailed c.number (some 2)
        (post .curtainObstructed c.number (some r.position) (issue st.address (.drive .stop) (put { c1 with
          state := .stopped
          outstanding := some (if r.hold then .yield else .stop) }
          ⟨.failed, none, none, none, s.ctc.demo.loweringTime, some .obstruction⟩))))) ∧
    (demoRunsOn s c.number = true → s.ctc.demo.state = .raising → r.upper = true →
      deliver st content none s = yields (post .demonstrationPassed c.number
        (s.ctc.demo.loweringTime.map fun t => t / 100)
          (put { c1 with state := .raised } { s.ctc.demo with state := .passed }))))

/-! ### Calls and the announcement channel -/

/-- CALL merges, joins, displaces or is BUSY; an IDLE channel with the unit PRESENT chooses the waiting page
or the startable call. (R148, R150, R151, R153, R158, R159, R160) The model's choice: log entry 31; log
entry 6. -/
def Obligations.CallIsPlacedAndTheChannelChooses : Prop :=
  (∀ (m zh zl pc : Byte) (e : MessageEntry) (zones : FohSet) (prio : Priority) (c : Call) (s : State), Ready s →
      findMessage s.tbs.active.message m.toNat = some e →
      zones = (if zh.toNat * 256 + zl.toNat = 0 then e.zones else BitVec.ofNat 16 (zh.toNat * 256 + zl.toNat)) →
      zones ≠ 0 →
      ((pc = 0 ∧ prio = e.priority) ∨ (pc = 1 ∧ prio = .routine) ∨ (pc = 2 ∧ prio = .show) ∨
        (pc = 3 ∧ prio = .staff)) →
      c = ⟨m.toNat, zones, prio, .command, s.time,
        if e.expiry = 0 then none else some (s.time + e.expiry * 1000)⟩ →
      (∀ x, s.clc.queue.find? (fun y => y.message == m.toNat && y.priority == prio) = some x →
        exec (.call [m, zh, zl, pc]) s = .next (buildReply 0x48
          ⟨select (s.setClc { s.clc with
              queue := s.clc.queue.map fun y =>
                if y.message = m.toNat ∧ y.priority = prio then
                  { y with
                    zones := y.zones ||| zones
                    expiry := match y.expiry, c.expiry with
                      | some a, some b => some (max a b)
                      | _, _ => none }
                else y }),
            .accepted, [m] ++ enc1 prio.code ++ enc2 (x.zones ||| zones).toNat ++ enc1 1⟩)) ∧
      ((∀ y ∈ s.clc.queue, ¬ (y.message = m.toNat ∧ y.priority = prio)) →
        (s.clc.queue.length < 16 →
          exec (.call [m, zh, zl, pc]) s = .next (buildReply 0x48
            ⟨select (s.setClc { s.clc with queue := joined c s.clc.queue }),
              .accepted, [m] ++ enc1 prio.code ++ enc2 zones.toNat ++ enc1 0⟩)) ∧
        (∀ y, 16 ≤ s.clc.queue.length → s.clc.queue.getLast? = some y → y.priority.code < prio.code →
          exec (.call [m, zh, zl, pc]) s = .next (buildReply 0x48
            ⟨select ((post .callDisplaced y.message (some y.priority.code) s).setClc
                { s.clc with queue := joined c s.clc.queue.dropLast }),
              .accepted, [m] ++ enc1 prio.code ++ enc2 zones.toNat ++ enc1 0⟩)) ∧
        (∀ y, 16 ≤ s.clc.queue.length → s.clc.queue.getLast? = some y → prio.code ≤ y.priority.code →
          exec (.call [m, zh, zl, pc]) s = .next (buildReply 0x48 ⟨s, .busy, []⟩)))) ∧
  (∀ (s : State) (call : Option Call) (page : Option Request),
      call = s.clc.queue.find? (fun c => decide (c.priority ∈ [.staff, .alarm] ∨ s.asc.stage = .normal)) →
      page = s.clc.requests.find? (fun r => r.state == .waiting) →
      (s.clc.channel ≠ .idle ∨ s.clc.announcer ≠ .present → select s = s) ∧
      (s.clc.channel = .idle → s.clc.announcer = .present →
        (call = none → page = none → select s = s) ∧
        (∀ unit c, announcerAddress s = some unit → call = some c →
          (∀ r, page = some r → r.cls.code < c.priority.code) →
          select s = post .callStarted c.message (some c.priority.code)
            (issue unit (.play c.message (messageKind s c.message) c.zones false) (s.setClc { s.clc with
              queue := s.clc.queue.erase c
              current := some c
              channel := .playing
              playTaken := false
              overrun := none
              cut := none }))) ∧
        (∀ unit r, announcerAddress s = some unit → page = some r →
          (∀ c, call = some c → c.priority.code ≤ r.cls.code) →
          select s = post .pageGranted r.station (some r.cls.code)
            (issue r.station .grant (issue unit (.page r.station r.zones) (s.setClc { s.clc with
              requests := s.clc.requests.map fun q =>
                if q.station = r.station then { q with state := .granted } else q
              channel := .paging
              holder := some (r.station, r.cls)
              pageLimit := some (s.time + pageLimitSeconds s.tbs.active.schedule * 1000)
              cut := none
              cutTaken := false
              evacOwed := s.asc.stage == .evacuate })))))) ∧
  (∀ s : State, freed s = select (reexamine s)) ∧
  (∀ (m zh zl pc : Byte) (p : List Byte) (s : State), Ready s →
    (findMessage s.tbs.active.message m.toNat = none ∨ 3 < pc.toNat ∨
        (zh = 0 ∧ zl = 0 ∧ ∀ e, findMessage s.tbs.active.message m.toNat = some e → e.zones = 0) →
      exec (.call [m, zh, zl, pc]) s = .next (buildReply 0x48 ⟨s, .badArgument, []⟩)) ∧
    (p.length ≠ 4 → p.length ≤ 200 → exec (.call p) s = .next (buildReply 0x48 ⟨s, .badArgument, []⟩)))

/-- CANCEL CALLS removes calls up to its priority and stops one that plays; a waiting call expires; a scheduled
call that is due merges, joins, displaces or is dropped. (R151, R152, R154, R155, R156, R158) The model's choice: log
entry 17; log entry 31; log entry 32; log entry 6. -/
def Obligations.WaitingCallsLeaveAndJoin : Prop :=
  ∀ (s : State), Ready s →
    (∀ p : List Byte, p.length ≤ 200 → (p.length ≠ 1 ∨ ∀ b ∈ p, b = 0 ∨ 3 < b.toNat) →
      exec (.cancelCalls p) s = .next (buildReply 0x49 ⟨s, .badArgument, []⟩)) ∧
    (∀ p : Byte, 1 ≤ p.toNat → p.toNat ≤ 3 →
      (s.clc.channel ≠ .playing ∨ (∀ c, s.clc.current = some c → p.toNat < c.priority.code)) →
      (∀ q k, q = s.clc.queue.filter (fun c => decide (p.toNat < c.priority.code)) →
        k = s.clc.queue.length - q.length →
        (0 < k → exec (.cancelCalls [p]) s = .next (buildReply 0x49
          ⟨post .callsCancelled 0 (some k) (s.setClc { s.clc with queue := q }), .done,
            enc1 k ++ enc1 0⟩)) ∧
        (k = 0 → exec (.cancelCalls [p]) s = .next (buildReply 0x49 ⟨s, .done, enc1 0 ++ enc1 0⟩)))) ∧
    (∀ (p : Byte) (c : Call) (q : List Call), 1 ≤ p.toNat → p.toNat ≤ 3 → s.clc.channel = .playing →
      s.clc.current = some c → c.priority.code ≤ p.toNat →
      q = s.clc.queue.filter (fun c => decide (p.toNat < c.priority.code)) →
      exec (.cancelCalls [p]) s = .next (buildReply 0x49
        ⟨freed (post .callsCancelled 0 (some (s.clc.queue.length - q.length))
          ((unitIssue (.stopPlay false) s).setClc { s.clc with
            queue := q
            current := none
            playTaken := false
            overrun := none
            cut := none
            channel := .idle })),
          .done, enc1 (s.clc.queue.length - q.length) ++ enc1 1⟩)) ∧
    (∀ (c : Call) (e : Nat), c ∈ s.clc.queue → c.expiry = some e → e ≤ s.time →
      (∀ x ∈ s.clc.queue, x.message = c.message → x.priority = c.priority → x = c) →
      exec (.callExpiry c.message c.priority.code) s = .next
        (post .callExpired c.message (some c.priority.code)
          (s.setClc { s.clc with queue := s.clc.queue.erase c }))) ∧
    (∀ m p : Nat, (∀ x ∈ s.clc.queue, x.message = m → x.priority.code = p →
        ∀ e, x.expiry = some e → s.time < e) →
      exec (.callExpiry m p) s = .next s) ∧
    (∀ e : Scheduled,
      s.clc.sched.find? (fun x => x.source == e.source && decide (x.due ≤ (s.time : Int))) = some e →
      exec (.scheduledCallDue e.source) s = .next
        (placeOrDrop ⟨e.message, e.zones, e.priority, .schedule, s.time,
            match findMessage s.tbs.active.message e.message with
            | some m => if m.expiry = 0 then none else some (s.time + m.expiry * 1000)
            | none => none⟩
          (s.setClc { s.clc with sched := s.clc.sched.erase e }))) ∧
    (∀ n : Nat, (∀ x ∈ s.clc.sched, x.source = n → (s.time : Int) < x.due) →
      exec (.scheduledCallDue n) s = .next s) ∧
    (∀ (c : Call) (u : State),
      (c.zones = 0 → placeOrDrop c u = post .callDropped c.message (some c.priority.code) u) ∧
      (∀ x ∈ u.clc.queue, c.zones ≠ 0 → x.message = c.message → x.priority = c.priority →
        placeOrDrop c u = select (u.setClc { u.clc with
          queue := u.clc.queue.map fun y =>
            if y.message = c.message ∧ y.priority = c.priority then
              { y with
                zones := y.zones ||| c.zones
                expiry := match y.expiry, c.expiry with
                  | some a, some b => some (max a b)
                  | _, _ => none }
            else y })) ∧
      (c.zones ≠ 0 → (∀ y ∈ u.clc.queue, ¬ (y.message = c.message ∧ y.priority = c.priority)) →
        (u.clc.queue.length < 16 →
          placeOrDrop c u = select (u.setClc { u.clc with queue := joined c u.clc.queue })) ∧
        (∀ y, 16 ≤ u.clc.queue.length → u.clc.queue.getLast? = some y →
          (y.priority.code < c.priority.code →
            placeOrDrop c u = select ((post .callDisplaced y.message (some y.priority.code) u).setClc
              { u.clc with queue := joined c u.clc.queue.dropLast })) ∧
          (c.priority.code ≤ y.priority.code →
            placeOrDrop c u = post .callDropped c.message (some c.priority.code) u))))

/-- A call past its overrun is stopped and reported; a page past its limit is revoked, and in EVACUATE the message
plays again or the next FIRE request is taken; neither before its time. (R159, R160, R156, R162, R163) The model's
choice: log entry 17; log entry 6. -/
def Obligations.ChannelTimersEndCallsAndPages : Prop :=
  ∀ s : State, Running s →
    (∀ c e, s.clc.channel = .playing → s.clc.current = some c → s.clc.overrun = some e → e ≤ s.time →
      exec .callOverrunExpiry s = .next
        (freed (post .callOverrun c.message (some c.priority.code)
          ((unitIssue (.stopPlay false) s).setClc { s.clc with
            current := none
            playTaken := false
            overrun := none
            cut := none
            channel := .idle })))) ∧
    (∀ e, s.clc.overrun = some e → s.time < e → exec .callOverrunExpiry s = .next s) ∧
    (∀ a cls e, s.clc.channel = .paging → s.clc.holder = some (a, cls) → s.clc.pageLimit = some e →
      e ≤ s.time → s.asc.stage ≠ .evacuate →
      exec .pageLimitExpiry s = .next
        (freed (post .pageRevoked a (some 1)
          ((issue a .revoke (unitIssue .endPage s)).setClc { s.clc with
            requests := s.clc.requests.map fun r => if r.station = a then { r with state := .revoked } else r
            holder := none
            pageLimit := none
            evacOwed := false
            channel := .idle })))) ∧
    (∀ a cls e t evac, s.clc.channel = .paging → s.clc.holder = some (a, cls) → s.clc.pageLimit = some e →
      e ≤ s.time → s.asc.stage = .evacuate →
      evac = (fun u => match scheduleEntry? s.tbs.active.schedule with
        | some x => if x.evacMessage ≠ 0 ∧ s.clc.evacZones ≠ 0 then
            unitIssue (.play x.evacMessage (messageKind s x.evacMessage) s.clc.evacZones true) u else u
        | none => u) →
      t = evac (post .pageRevoked a (some 1) ((issue a .revoke (unitIssue .endPage s)).setClc { s.clc with
        requests := s.clc.requests.map fun r => if r.station = a then { r with state := .revoked } else r
        holder := none
        pageLimit := none
        evacOwed := false
        channel := .evacuation })) →
      ((∀ r, t.clc.requests.find? (fun r => r.state == .waiting) = some r → r.cls ≠ .fire) →
        exec .pageLimitExpiry s = .next t) ∧
      (∀ r, t.clc.requests.find? (fun r => r.state == .waiting) = some r → r.cls = .fire →
        (s.clc.announcer = .present → (s.clc.unitReport.map (·.1)) = some .playing → s.clc.cut = none →
          exec .pageLimitExpiry s = .next ((unitIssue (.stopPlay true) t).setClc
            { t.clc with cut := some .firePage, cutTaken := false })) ∧
        (s.clc.announcer ≠ .present ∨ (s.clc.unitReport.map (·.1)) ≠ some .playing →
          exec .pageLimitExpiry s = .next (post .pageGranted r.station (some 5)
            (issue r.station .grant (unitIssue (.page r.station r.zones) (t.setClc { t.clc with
              requests := t.clc.requests.map fun q =>
                if q.station = r.station then { q with state := .granted } else q
              channel := .paging
              holder := some (r.station, .fire)
              pageLimit := some (s.time + pageLimitSeconds s.tbs.active.schedule * 1000)
              cut := none
              cutTaken := false
              evacOwed := true }))))))) ∧
    (∀ e, s.clc.pageLimit = some e → s.time < e → exec .pageLimitExpiry s = .next s)

/-- The announcement unit's replies start, end, cut and refuse calls, repeat the evacuation message, and
settle the unit when it answers again. (R148, R156, R159, R160, R162, R163, R164, R180) The model's choice:
log entry 33; log entry 6. -/
def Obligations.AnnouncerRepliesDriveTheChannel : Prop :=
  ∀ (st : Station) (a p n : Byte) (x : Activity) (s u : State), st.kind = .announcer →
    announcerAddress s = some st.address →
    ((a = 0 ∧ x = .idle) ∨ (a = 1 ∧ x = .playing) ∨ (a = 2 ∧ x = .pageOpen)) →
    u = s.setClc { s.clc with unitReport := some (x, p.toNat) } →
    (∀ c limit idle, s.clc.announcer = .present → s.clc.channel = .playing → s.clc.current = some c →
      limit = s.time + (match findMessage s.tbs.active.message c.message with
        | some e => e.parts * e.duration
        | none => 0) + 5000 →
      idle = u.setClc { u.clc with
        current := none
        playTaken := false
        overrun := none
        cut := none
        channel := .idle } →
      (∀ m k z b, n = 0 → s.clc.cut = none →
        deliver st [a, p, n] (some (.play m k z b, true)) s =
          u.setClc { u.clc with playTaken := true, overrun := some limit }) ∧
      (∀ m k z b why, n = 0 → s.clc.cut = some why →
        deliver st [a, p, n] (some (.play m k z b, true)) s =
          issue st.address (.stopPlay true)
            (u.setClc { u.clc with playTaken := true, overrun := some limit, cutTaken := false })) ∧
      (∀ m k z b, deliver st [a, p, n] (some (.play m k z b, false)) s =
        freed (post .callRefused c.message (some c.priority.code) idle)) ∧
      (∀ m k z b, n ≠ 0 → s.clc.cut = none →
        deliver st [a, p, n] (some (.play m k z b, true)) s =
          freed (post .callEnded c.message (some c.priority.code) idle)) ∧
      (∀ m k z b why, n ≠ 0 → s.clc.cut = some why →
        deliver st [a, p, n] (some (.play m k z b, true)) s =
          freed (post .callCut c.message (some why.code)
            (issue st.address (.stopPlay true) (idle.setClc { idle.clc with cutTaken := false })))) ∧
      (∀ ack, (∀ m k z b taken, ack ≠ some (.play m k z b, taken)) →
        (n ≠ 0 → s.clc.playTaken = true → s.clc.cut = none →
          deliver st [a, p, n] ack s = freed (post .callEnded c.message (some c.priority.code) idle)) ∧
        (∀ why, n ≠ 0 → s.clc.playTaken = true → s.clc.cut = some why →
          deliver st [a, p, n] ack s = freed (post .callCut c.message (some why.code) idle)) ∧
        (n = 0 ∨ s.clc.playTaken = false → deliver st [a, p, n] ack s = u))) ∧
    (∀ e play refused, scheduleEntry? s.tbs.active.schedule = some e → e.evacMessage ≠ 0 → s.clc.evacZones ≠ 0 →
      play = .play e.evacMessage (messageKind s e.evacMessage) s.clc.evacZones true →
      refused = (if s.clc.evacRefused = true then issue st.address play u
        else post .evacuationRefused e.evacMessage none
          (issue st.address play (u.setClc { u.clc with evacRefused := true }))) →
      s.clc.channel = .evacuation →
      (s.clc.announcer = .present →
        (n = 0 ∨ s.clc.cut = none ∨ s.clc.cutTaken = false →
          deliver st [a, p, n] none s = u ∧
          deliver st [a, p, n] (some (.stopPlay true, false)) s = u ∧
          deliver st [a, p, n] (some (play, false)) s = refused) ∧
        (s.clc.cut = none ∨ (n = 0 ∧ s.clc.cutTaken = true) → deliver st [a, p, n] (some (play, true)) s = u) ∧
        (s.clc.cut.isSome = true → s.clc.cutTaken = false →
          deliver st [a, p, n] (some (play, true)) s = issue st.address (.stopPlay true) u) ∧
        (n = 0 → s.clc.cut.isSome = true →
          deliver st [a, p, n] (some (.stopPlay true, true)) s = u.setClc { u.clc with cutTaken := true }) ∧
        (∀ ack w, n ≠ 0 → s.clc.cut.isSome = true →
          ((ack = some (.stopPlay true, true) ∧ w = u) ∨ (s.clc.cutTaken = true ∧
            ((ack ∈ [none, some (play, true), some (.stopPlay true, false)] ∧ w = u) ∨
              (ack = some (play, false) ∧ w = refused)))) →
          (∀ r, s.clc.requests.find? (fun q => q.state == .waiting) = some r → r.cls = .fire →
            deliver st [a, p, n] ack s = post .pageGranted r.station (some 5)
              (issue r.station .grant (issue st.address (.page r.station r.zones) (w.setClc { w.clc with
                requests := w.clc.requests.map fun q =>
                  if q.station = r.station then { q with state := .granted } else q
                channel := .paging
                holder := some (r.station, .fire)
                pageLimit := some (s.time + pageLimitSeconds s.tbs.active.schedule * 1000)
                cut := none
                cutTaken := false
                evacOwed := s.asc.stage == .evacuate })))) ∧
          ((∀ r, s.clc.requests.find? (fun q => q.state == .waiting) = some r → r.cls ≠ .fire) →
            deliver st [a, p, n] ack s =
              issue st.address play (w.setClc { w.clc with cut := none, cutTaken := false })))) ∧
      (∀ ack, s.clc.announcer ≠ .present → deliver st [a, p, n] ack s =
        issue st.address play (u.setClc { u.clc with
          announcer := .present
          playTaken := false
          overrun := none
          cutTaken := false }))) ∧
    (∀ ack v, s.clc.announcer ≠ .present →
      v = u.setClc { u.clc with announcer := .present, playTaken := false, overrun := none, cutTaken := false } →
      (∀ c, s.clc.channel = .playing → s.clc.current = some c → deliver st [a, p, n] ack s =
        issue st.address (.play c.message (messageKind s c.message) c.zones false) v) ∧
      (∀ b cls r, s.clc.channel = .paging → s.clc.holder = some (b, cls) →
        s.clc.requests.find? (fun q => q.station == b) = some r →
        deliver st [a, p, n] ack s = issue st.address (.page b r.zones) v) ∧
      (s.clc.channel = .evacuation → s.clc.evacZones = 0 → deliver st [a, p, n] ack s = v) ∧
      (s.clc.channel = .idle → deliver st [a, p, n] ack s = select (match x with
        | .idle => v
        | .playing => issue st.address (.stopPlay false) v
        | .pageOpen => issue st.address .endPage v))) ∧
    (∀ ack, s.clc.announcer = .present → s.clc.channel = .idle ∨ s.clc.channel = .paging →
      deliver st [a, p, n] ack s = u) ∧
    tellLoss st s = post .announcerLost st.address none
      (s.setClc { s.clc with announcer := .lost, playTaken := false, overrun := none })

/-- A paging station's request joins the list and may rise; a FIRE request cuts, preempts, stops the evacuation
message or is granted; a drop or a loss ends the station's page, and in EVACUATE the message plays again or the next FIRE
request is taken. (R156, R157, R158, R159, R160, R162, R163, R166, R180) The model's choice: log entry 33; log entry 34;
log entry 48; log entry 6. -/
def Obligations.PagingRequestsAreTaken : Prop :=
  ∀ (st : Station) (k zh zl : Byte) (tell : LoopCmd → State → State) (evac : State → State)
      (granted : Request → State → State) (s : State), st.kind = .paging →
    (∀ c t, tell c t = match announcerAddress s with
      | some unit => if s.clc.announcer = .present then issue unit c t else t
      | none => t) →
    (∀ t, evac t = match scheduleEntry? s.tbs.active.schedule with
      | some x => if x.evacMessage ≠ 0 ∧ s.clc.evacZones ≠ 0 then
          tell (.play x.evacMessage (messageKind s x.evacMessage) s.clc.evacZones true) t else t
      | none => t) →
    (∀ q t, granted q t = post .pageGranted q.station (some 5) (issue q.station .grant
      (tell (.page q.station q.zones) (t.setClc { t.clc with
        requests := t.clc.requests.map fun y => if y.station = q.station then { y with state := .granted } else y
        channel := .paging
        holder := some (q.station, .fire)
        pageLimit := some (s.time + pageLimitSeconds s.tbs.active.schedule * 1000)
        cut := none
        cutTaken := false
        evacOwed := s.asc.stage == .evacuate })))) →
    (st.address ∈ s.clc.revokeOwed → deliver st [k, zh, zl] none s = deliver st [k, zh, zl] none
      (issue st.address .revoke
        (s.setClc { s.clc with revokeOwed := s.clc.revokeOwed.filter fun y => y != st.address }))) ∧
    (∀ (cls : PageClass) (zones : FohSet) (shown : State) (at_ : Request → List Request → List Request),
      st.address ∉ s.clc.revokeOwed →
      ((k = 3 ∧ cls = .staff) ∨ (k = 4 ∧ cls = .manager) ∨ (k = 5 ∧ cls = .fire)) →
      zones = (if zh.toNat * 256 + zl.toNat = 0 then BitVec.allOnes 16
        else BitVec.ofNat 16 (zh.toNat * 256 + zl.toNat)) →
      shown = s.setClc { s.clc with
        showing := st.address :: s.clc.showing.filter fun y => y != st.address } →
      (∀ r l, at_ r l =
        let ahead (y : Request) : Bool :=
          decide (r.cls.code < y.cls.code ∨ (y.cls = r.cls ∧ y.firstSeen ≤ r.firstSeen))
        l.takeWhile ahead ++ r :: l.dropWhile ahead) →
      ((∀ y ∈ s.clc.requests, y.station ≠ st.address) → st.address ∈ s.clc.owing →
        deliver st [k, zh, zl] none s = shown) ∧
      (∀ r, s.clc.requests.find? (fun y => y.station == st.address) = some r →
        (r.state ≠ .waiting → deliver st [k, zh, zl] none s = shown) ∧
        (r.state = .waiting → cls.code ≤ r.cls.code → deliver st [k, zh, zl] none s =
          shown.setClc { shown.clc with
            requests := at_ { r with cls := cls, zones := zones } (s.clc.requests.erase r) })) ∧
      (∀ joined, (((∀ y ∈ s.clc.requests, y.station ≠ st.address) ∧ st.address ∉ s.clc.owing ∧
            joined = shown.setClc { shown.clc with
              requests := at_ ⟨st.address, cls, zones, s.time, .waiting⟩ s.clc.requests }) ∨
          (∃ r, s.clc.requests.find? (fun y => y.station == st.address) = some r ∧ r.state = .waiting ∧
            r.cls.code < cls.code ∧
            joined = shown.setClc { shown.clc with
              requests := at_ { r with cls := cls, zones := zones } (s.clc.requests.erase r) })) →
        (s.clc.channel = .idle → deliver st [k, zh, zl] none s = select joined) ∧
        (s.clc.channel = .playing → cls = .fire → s.clc.cut = none → deliver st [k, zh, zl] none s =
          tell (.stopPlay true) (joined.setClc { joined.clc with cut := some .firePage })) ∧
        (s.clc.channel = .playing → cls ≠ .fire ∨ s.clc.cut.isSome = true →
          deliver st [k, zh, zl] none s = joined) ∧
        (∀ b c, s.clc.channel = .paging → s.clc.holder = some (b, c) → cls = .fire → c ≠ .fire →
          s.asc.stage ≠ .evacuate → deliver st [k, zh, zl] none s =
            freed (post .pageRevoked b (some 2) (issue b .revoke (tell .endPage
              (joined.setClc { joined.clc with
                requests := joined.clc.requests.map fun y =>
                  if y.station = b then { y with state := .revoked } else y
                holder := none
                pageLimit := none
                channel := .idle
                evacOwed := false }))))) ∧
        (∀ b c, s.clc.channel = .paging → s.clc.holder = some (b, c) → cls ≠ .fire ∨ c = .fire →
          deliver st [k, zh, zl] none s = joined) ∧
        (s.clc.channel = .evacuation → cls ≠ .fire → deliver st [k, zh, zl] none s = joined) ∧
        (s.clc.channel = .evacuation → cls = .fire → s.clc.announcer = .present →
          (s.clc.unitReport.map (·.1)) = some .playing →
          (s.clc.cut = none → deliver st [k, zh, zl] none s =
            tell (.stopPlay true)
              (joined.setClc { joined.clc with cut := some .firePage, cutTaken := false })) ∧
          (s.clc.cut.isSome = true → deliver st [k, zh, zl] none s = joined)) ∧
        (∀ q, s.clc.channel = .evacuation → cls = .fire →
          s.clc.announcer ≠ .present ∨ (s.clc.unitReport.map (·.1)) ≠ some .playing →
          joined.clc.requests.find? (fun y => y.state == .waiting) = some q → q.cls = .fire →
          deliver st [k, zh, zl] none s = granted q joined))) ∧
    (∀ gone done, ((st.address ∉ s.clc.revokeOwed ∧ k = 0 ∧ done = deliver st [k, zh, zl] none s ∧
          gone = s.setClc { s.clc with
            showing := s.clc.showing.filter fun y => y != st.address
            owing := s.clc.owing.filter fun y => y != st.address
            requests := s.clc.requests.filter fun y => y.station != st.address }) ∨
        (done = tellLoss st s ∧
          gone = s.setClc { s.clc with requests := s.clc.requests.filter fun y => y.station != st.address })) →
      ((∀ h, s.clc.holder = some h → h.1 ≠ st.address) → done = gone) ∧
      (∀ c, s.clc.holder = some (st.address, c) → s.asc.stage ≠ .evacuate →
        done = freed (post .pageEnded st.address (some c.code) (tell .endPage (gone.setClc { gone.clc with
          holder := none
          pageLimit := none
          channel := .idle
          evacOwed := false })))) ∧
      (∀ c again, s.clc.holder = some (st.address, c) → s.asc.stage = .evacuate →
        again = evac (post .pageEnded st.address (some c.code) (tell .endPage (gone.setClc { gone.clc with
          holder := none
          pageLimit := none
          channel := .evacuation
          evacOwed := false }))) →
        ((∀ q, gone.clc.requests.find? (fun y => y.state == .waiting) = some q → q.cls ≠ .fire) →
          done = again) ∧
        (∀ q, gone.clc.requests.find? (fun y => y.state == .waiting) = some q → q.cls = .fire →
          (s.clc.announcer = .present → (s.clc.unitReport.map (·.1)) = some .playing → s.clc.cut = none →
            done = tell (.stopPlay true)
              (again.setClc { again.clc with cut := some .firePage, cutTaken := false })) ∧
          (s.clc.announcer ≠ .present ∨ (s.clc.unitReport.map (·.1)) ≠ some .playing →
            done = granted q again))))

/-! ### The field loop -/

/-- POLL_START polls the record at the poll position with its opening, its pending command or a plain poll;
commands get rising tags. (R168, R169, R171, R174, R175, R178, R179, R181, R182) The model's choice: log
entry 18. -/
def Obligations.PollsCarryThePendingCommand : Prop :=
  ∀ (st : Station) (c : LoopCmd) (s : State), Running s →
    (s.lpc.stations.find? (fun x => x.index == s.lpc.position) = some st → s.lpc.tx = none →
      s.lpc.quietOwed = false ∨ s.lpc.busyUntil < s.time →
      exec .pollStart s = .next (s.setLpc { s.lpc with
        quietOwed := false
        tx := some ⟨st.address,
          if st.opened = false then .opening
          else match st.pending with
            | some (c, tag) => .command c tag
            | none => .plain, s.time, none⟩ })) ∧
    (s.lpc.tx ≠ none ∨ (s.lpc.quietOwed = true ∧ s.time ≤ s.lpc.busyUntil) → exec .pollStart s = .next s) ∧
    (∀ (bs : List LoopByte) (last : Nat), s.lpc.tx = none → (∀ b ∈ bs, b.later ≤ last) →
      (∃ b ∈ bs, b.later = last) → exec (.loopReply bs) s = .next
        (s.setLpc { s.lpc with busyUntil := max s.lpc.busyUntil (s.time + last) })) ∧
    (c.takenBy st.kind = false → st.handOver c = st) ∧
    (∀ tag, st.pending = some (.drive .release, tag) → st.handOver c = st) ∧
    (c.takenBy st.kind = true → st.pending.map (·.1) ≠ some (.drive .release) → st.lastTag < 255 →
      st.handOver c = { st with pending := some (c, st.lastTag + 1), lastTag := st.lastTag + 1 }) ∧
    (c.takenBy st.kind = true → st.pending.map (·.1) ≠ some (.drive .release) → st.lastTag = 255 →
      st.handOver c = { st with pending := some (c, 1), lastTag := 1, opened := false }) ∧
    (∀ a, issue a c s = s.setLpc { s.lpc with
      stations := s.lpc.stations.map fun x => if x.address = a then x.handOver c else x }) ∧
    (∀ t : Transaction,
      t.bytes.map (·.value) = enc1 t.address ++ (match t.poll with
        | .plain => [1, 0]
        | .opening => [3, 0]
        | .command d tag => [2] ++ enc1 (1 + d.bytes.length) ++ enc1 tag ++ d.bytes) ∧
      t.bytes.map (·.mark) = true :: List.replicate (t.bytes.length - 1) false ∧
      ∀ b ∈ t.bytes, ((List.range 8).countP (fun k => b.value.getLsbD k) + (if b.mark then 1 else 0) +
        (if b.parity then 1 else 0)) % 2 = 0 ∧ b.framing = false)

/-- A good reply that begins within its window ends the transaction, makes its outstation PRESENT, takes its
acknowledgement and hands its content to the owner. (R168, R169, R171, R172, R176, R180) The model's choice:
log entry 18. -/
def Obligations.GoodReplyIsDelivered : Prop :=
  ∀ (st : Station) (t : Transaction) (content payload : List Byte) (ack sent : Nat) (s : State)
    (answer : Option (LoopCmd × Bool)) (busy : Nat → State) (done : Nat → State), Running s → s.lpc.tx = some t →
    sent = t.start * 1000 + t.bytes.length * 192 →
    (∀ last, busy last = s.setLpc { s.lpc with busyUntil := max s.lpc.busyUntil (s.time + last) }) →
    (∀ last, done last = deliver st content answer
      ((fun u : State =>
          if st.state = .unknown then post .outstationFound st.address (some st.kind.code) u
          else if st.state = .lost then post .outstationRegained st.address (some st.kind.code) u
          else u)
        ((busy last).setLpc { (busy last).lpc with
          tx := none
          position := nextIndex s.lpc.stations s.lpc.position
          stations := s.lpc.stations.map fun x =>
            if x.address = st.address then
              { x with
                misses := 0
                state := .present
                opened := x.opened || decide (t.poll = .opening)
                pending := if answer.isSome then none else x.pending }
            else x }))) →
    (∀ (bs : List LoopByte) (last : Nat), t.heard = none →
      (∀ b ∈ bs, (s.time + b.later + 1) * 1000 ≤ sent ∨ sent + 6000 ≤ (s.time + b.later) * 1000) →
      (∀ b ∈ bs, b.later ≤ last) → (last = 0 ∨ ∃ b ∈ bs, b.later = last) →
      exec (.loopReply bs) s = .next (busy last)) ∧
    (∀ (first : LoopByte) (rest bs : List LoopByte) (ends : Nat), bs = first :: rest → t.heard = none →
      sent < (s.time + first.later + 1) * 1000 → (s.time + first.later) * 1000 < sent + 6000 →
      (∀ b ∈ rest, b.mark = false) →
      (∀ p ∈ bs.zip rest, p.1.later ≤ p.2.later ∧ p.2.later ≤ p.1.later + 1) →
      s.time < ends → ends * 1000 < sent + 10000 →
      (∀ b ∈ bs, s.time + b.later ≤ ends) → (∃ b ∈ bs, s.time + b.later = ends) →
      exec (.loopReply bs) s = .next (s.setLpc { s.lpc with
        busyUntil := max s.lpc.busyUntil ends
        tx := some { t with heard := some (false, bs.map fun b => { b with later := s.time + b.later }) } })) ∧
    (∀ (first next : LoopByte) (rest more old bs : List LoopByte) (running : Bool) (last new ends : Nat),
      old = first :: rest → bs = next :: more → t.heard = some (running, old) → sent < (s.time + 1) * 1000 →
      (∀ b ∈ rest ++ bs, b.mark = false) →
      (∀ p ∈ old.zip rest, p.1.later ≤ p.2.later ∧ p.2.later ≤ p.1.later + 1) →
      (∀ b ∈ old, b.later ≤ last) → (∃ b ∈ old, b.later = last) → (∀ b ∈ bs, s.time + b.later = new) →
      last ≤ new → s.time < ends → ends * 1000 < sent + 10000 →
      (running = false ∧ new ≤ last + 1 ∧ s.time < last ∧ ends = new) ∨
        (running = true ∧ new ≤ ends ∧ sent + 9000 ≤ ends * 1000) →
      exec (.loopReply bs) s = .next (s.setLpc { s.lpc with
        busyUntil := max s.lpc.busyUntil ends
        tx := some { t with heard := some (running, old ++ bs.map fun b => { b with later := new }) } })) ∧
    (s.lpc.stations.find? (fun x => x.address == t.address) = some st →
      1 ≤ t.address → t.address ≤ 126 → content.length = contentLength st.kind →
      contentInRange st.kind content = true →
      ((ack = 0 ∧ payload = content ∧ answer = none) ∨
        (∃ c tag, (ack = 1 ∨ ack = 2) ∧ t.poll = .command c tag ∧ tag ≤ 255 ∧
          payload = enc1 tag ++ content ∧
          answer = if st.pending = some (c, tag) then some (c, decide (ack = 1)) else none)) →
      (∀ (extra : List LoopByte) (last : Nat), t.heard = none →
        sent < (s.time + 1) * 1000 → s.time * 1000 < sent + 6000 →
        ((∃ b more, extra = b :: more ∧ b.mark = true ∧ b.later = 0) ∨ ∀ b ∈ extra, 2 ≤ b.later) →
        (∀ b ∈ extra, b.later ≤ last) → (last = 0 ∨ ∃ b ∈ extra, b.later = last) →
        exec (.loopReply (loopReplyBytes t.address (16 * st.kind.code + ack) payload ++ extra)) s =
          .next (done last)) ∧
      (∀ (held : List LoopByte) (running : Bool), t.heard = some (running, held) →
        held.map (fun b => { b with later := 0 }) =
          loopReplyBytes t.address (16 * st.kind.code + ack) payload →
        (∀ p ∈ held.zip (held.drop 1), p.1.later ≤ p.2.later ∧ p.2.later ≤ p.1.later + 1) →
        (∀ b ∈ held, b.later ≤ s.time) → (∀ b ∈ held, b.later * 1000 < sent + 9000) →
        (running = false → exec (.loopReply
          (loopReplyBytes t.address (16 * st.kind.code + ack) payload)) s = .next (done 0)) ∧
        (∀ (b : LoopByte) (more : List LoopByte) (last : Nat), sent < (s.time + 1) * 1000 →
          s.time * 1000 < sent + 9000 → b.mark = true → b.later = 0 → (∀ x ∈ more, x.later ≤ last) →
          (last = 0 ∨ ∃ x ∈ more, x.later = last) →
          exec (.loopReply (b :: more)) s = .next (done last))))

/-- A reply that is missing, forced over or faulty is a miss with its flag: the third in a row makes the
outstation LOST and tells its owner. (R168, R170, R171, R172, R173, R177) The model's choice: log entry 17;
log entry 18; log entry 30. -/
def Obligations.MissedRepliesLoseTheOutstation : Prop :=
  ∀ (st : Station) (t : Transaction) (sent : Nat) (missed : State → State) (s : State), Running s →
    s.lpc.tx = some t → s.lpc.stations.find? (fun x => x.address == t.address) = some st →
    sent = t.start * 1000 + t.bytes.length * 192 →
    (∀ u, missed u =
      if st.state = .lost then u
      else if st.misses < 2 then u.setLpc { u.lpc with
        stations := u.lpc.stations.map fun x =>
          if x.address = t.address then { x with misses := x.misses + 1 } else x }
      else tellLoss st (post .outstationLost t.address (some st.kind.code) (u.setLpc { u.lpc with
        stations := u.lpc.stations.map fun x =>
          if x.address = t.address then { x with misses := 3, state := .lost } else x }))) →
    (t.heard.isSome = true ∨ s.time * 1000 < sent + 5000 → exec .replyWindowExpiry s = .next s) ∧
    (t.heard = none → sent + 5000 ≤ s.time * 1000 →
      exec .replyWindowExpiry s = .next (missed
        ((s.setCmi { s.cmi with sticky := { s.cmi.sticky with loopSilent := true } }).setLpc
          { s.lpc with tx := none, position := nextIndex s.lpc.stations s.lpc.position }))) ∧
    ((s.time + 1) * 1000 ≤ sent → t.heard = none → ∀ bs : List LoopByte, (∀ b ∈ bs, b.later = 0) →
      exec (.loopReplyForcedOver bs) s =
        .next (s.setLpc { s.lpc with busyUntil := max s.lpc.busyUntil s.time })) ∧
    (∀ (first : LoopByte) (rest : List LoopByte) (ends : Nat), sent < (s.time + 1) * 1000 →
      t.heard = none → s.time * 1000 < sent + 6000 → sent + 9000 ≤ ends * 1000 → ends * 1000 < sent + 10000 →
      (∀ b ∈ first :: rest, b.later = 0) → (∀ b ∈ rest, b.mark = false) →
      exec (.loopReplyForcedOver (first :: rest)) s = .next (s.setLpc { s.lpc with
        busyUntil := max s.lpc.busyUntil ends
        tx := some { t with heard := some (true, (first :: rest).map fun b => { b with later := s.time }) } })) ∧
    (∀ (content : List Byte) (held : List LoopByte) (running : Bool), sent + 9000 ≤ s.time * 1000 →
      t.heard = some (running, held) →
      running = true ∨ ((∀ p ∈ held.zip (held.drop 1), p.1.later ≤ p.2.later ∧ p.2.later ≤ p.1.later + 1) ∧
        ∃ b ∈ held, sent + 9000 ≤ b.later * 1000) →
      1 ≤ t.address → t.address ≤ 126 →
      content.length = contentLength st.kind → contentInRange st.kind content = true →
      held.map (fun b => { b with later := 0 }) = loopReplyBytes t.address (16 * st.kind.code) content →
      (∀ b ∈ held, b.later * 1000 < sent + 10000) →
      exec (.loopReplyForcedOver (loopReplyBytes t.address (16 * st.kind.code) content)) s = .next (missed
        ((s.setCmi { s.cmi with sticky := { s.cmi.sticky with loopLong := true } }).setLpc { s.lpc with
          tx := none
          busyUntil := max s.lpc.busyUntil s.time
          position := nextIndex s.lpc.stations s.lpc.position }))) ∧
    (∀ (first : LoopByte) (rest bs : List LoopByte) (n status len fits : Nat) (content : List Byte)
        (parity framing address short long wrong : Bool) (i : Instr) (last : Nat),
      (t.heard = none ∧ sent < (s.time + 1) * 1000 ∧ s.time * 1000 < sent + 6000 ∧ i = .loopReply bs ∧ last = 0) ∨
        (∃ running held, t.heard = some (running, held) ∧ held.map (fun b => { b with later := 0 }) = bs ∧
          (∀ p ∈ held.zip (held.drop 1), p.1.later ≤ p.2.later ∧ p.2.later ≤ p.1.later + 1) ∧
          (∀ b ∈ held, b.later ≤ s.time ∧ b.later * 1000 < sent + 9000) ∧
          ((running = false ∧ i = .loopReply bs ∧ last = 0) ∨
            (sent < (s.time + 1) * 1000 ∧ s.time * 1000 < sent + 9000 ∧ ∃ b more, b.mark = true ∧ b.later = 0 ∧
              (∀ x ∈ more, x.later ≤ last) ∧ (last = 0 ∨ ∃ x ∈ more, x.later = last) ∧
              i = .loopReply (b :: more)))) →
      bs = first :: rest →
      (∀ b ∈ bs, b.later = 0) → (∀ b ∈ rest, b.mark = false) → n = bs.length →
      status = (bs.map (·.value.toNat)).getD 1 0 → len = (bs.map (·.value.toNat)).getD 2 0 →
      fits = contentLength st.kind + (if status % 4 = 0 then 0 else 1) →
      content = ((bs.map (·.value)).drop (if status % 4 = 0 then 3 else 4)).take (contentLength st.kind) →
      parity = bs.any (fun b => decide (((List.range 8).countP (fun k => b.value.getLsbD k) +
        (if b.mark then 1 else 0) + (if b.parity then 1 else 0)) % 2 = 1)) →
      framing = (bs.any (·.framing) || !first.mark) → address = decide (first.value.toNat ≠ t.address) →
      short = decide (n < 3 ∨ n < 3 + len) → long = decide (3 ≤ n ∧ 3 + len < n) →
      wrong = decide (
        (2 ≤ n ∧ (status / 16 ≠ st.kind.code ∨ status % 4 = 3 ∨
          (status % 4 ≠ 0 ∧ (t.poll = .plain ∨ t.poll = .opening)))) ∨
        (3 ≤ n ∧ len ≠ fits) ∨ (3 ≤ n ∧ len = fits ∧ contentInRange st.kind content = false)) →
      (parity || framing || address || short || long || wrong) = true →
      exec i s = .next (missed
        ((s.setCmi { s.cmi with sticky := { s.cmi.sticky with
          loopParity := s.cmi.sticky.loopParity || parity
          loopFraming := s.cmi.sticky.loopFraming || framing
          loopAddress := s.cmi.sticky.loopAddress || address
          loopShort := s.cmi.sticky.loopShort || short
          loopLong := s.cmi.sticky.loopLong || long
          loopContent := s.cmi.sticky.loopContent || wrong } }).setLpc { s.lpc with
            tx := none
            busyUntil := max s.lpc.busyUntil (s.time + last)
            position := nextIndex s.lpc.stations s.lpc.position }))) ∧
    (∀ c : List Byte, contentInRange .zoneUnit c = true ∧
      (c.length = 4 → (contentInRange .curtainUnit c = true ↔
        (c.getD 0 0).toNat * 256 + (c.getD 1 0).toNat ≤ 1000 ∧ (c.getD 2 0).toNat ≤ 3)) ∧
      (c.length = 3 → (contentInRange .announcer c = true ↔
        (c.getD 0 0).toNat ≤ 2 ∧ (c.getD 1 0).toNat ≤ 5 ∧ (c.getD 2 0).toNat ≤ 2)) ∧
      (c.length = 3 → (contentInRange .paging c = true ↔
        c.getD 0 0 = 0 ∨ (3 ≤ (c.getD 0 0).toNat ∧ (c.getD 0 0).toNat ≤ 5))))

/-! ### Tables and the authority record -/

/-- STAGE OPEN empties and opens a bank, STAGE WRITE places entries in an open one, STAGE QUEUE queues it;
each refuses in the states its rule names. (R197, R198) The model's choice: log entry 31; log entry 47;
log entry 57. -/
def Obligations.StagingBanksOpenFillAndQueue : Prop :=
  ∀ (i : TableId) (id : Byte) (b : Staging) (s : State), Ready s → id.toNat = i.code →
    s.tbs.staging.get i = b →
    ((b.state ≠ .queued ∨ s.tbs.commit.current ≠ .pending) →
      exec (.stageOpen [id]) s = .next (buildReply 0x60
        ⟨s.setTbs { s.tbs with staging := s.tbs.staging.set i ⟨.opened, []⟩ }, .done, [2, 0, 0]⟩)) ∧
    (b.state = .queued → s.tbs.commit.current = .pending →
      exec (.stageOpen [id]) s = .next (buildReply 0x60 ⟨s, .busy, enc1 3 ++ enc2 b.bank.length⟩)) ∧
    (∀ (hi lo : Byte) (entry : List Byte) (n : Nat), b.state = .opened → n = hi.toNat * 256 + lo.toNat →
      i.first ≤ n → n ≤ i.lastIndex → entryLength i n = some entry.length → 1 ≤ entry.length →
      exec (.stageWrite ([id, hi, lo] ++ entry)) s = .next (buildReply 0x61
        ⟨s.setTbs { s.tbs with staging := s.tbs.staging.set i ⟨.opened, bankPut b.bank n entry⟩ }, .done,
          enc1 2 ++ enc2 (bankPut b.bank n entry).length⟩)) ∧
    (∀ rest : List Byte, b.state ≠ .opened → 2 ≤ rest.length → rest.length ≤ 199 →
      exec (.stageWrite (id :: rest)) s = .next (buildReply 0x61
        ⟨s, .refusedState, enc1 (if b.state = .empty then 1 else 3) ++ enc2 b.bank.length⟩)) ∧
    (b.state = .empty → exec (.stageQueue [id]) s = .next (buildReply 0x62
      ⟨s, .refusedState, enc1 1 ++ enc2 b.bank.length⟩)) ∧
    (b.state ≠ .empty → s.tbs.commit.current = .pending → exec (.stageQueue [id]) s = .next (buildReply 0x62
      ⟨s, .busy, enc1 (if b.state = .opened then 2 else 3) ++ enc2 b.bank.length⟩)) ∧
    (b.state ≠ .empty → s.tbs.commit.current ≠ .pending → exec (.stageQueue [id]) s = .next (buildReply 0x62
      ⟨s.setTbs { s.tbs with staging := s.tbs.staging.set i { b with state := .queued } }, .done,
        enc1 3 ++ enc2 b.bank.length⟩)) ∧
    (b.state = .opened → ∀ (hi lo : Byte) (n : Nat), n = hi.toNat * 256 + lo.toNat →
      (∀ e1 e2 : List Byte, i.first ≤ n → n + 1 ≤ i.lastIndex → entryLength i n = some e1.length →
        entryLength i (n + 1) = some e1.length → e2.length = e1.length →
        exec (.stageWrite ([id, hi, lo] ++ e1 ++ e2)) s = .next (buildReply 0x61
          ⟨s.setTbs { s.tbs with
              staging := s.tbs.staging.set i ⟨.opened, bankPut (bankPut b.bank n e1) (n + 1) e2⟩ }, .done,
            enc1 2 ++ enc2 (bankPut (bankPut b.bank n e1) (n + 1) e2).length⟩)) ∧
      (∀ (es : List (List Byte)) (len : Nat) (bank : Bank), i.first ≤ n → 1 ≤ es.length → (∀ e ∈ es, e.length = len) →
        entryLength i n = some len → entryLength i (n + es.length - 1) = some len →
        n + es.length ≤ i.lastIndex + 1 → es.length * len ≤ 197 →
        bank = (es.zipIdx n).foldl (fun x e => bankPut x e.2 e.1) b.bank →
        exec (.stageWrite ([id, hi, lo] ++ es.flatten)) s = .next (buildReply 0x61
          ⟨s.setTbs { s.tbs with staging := s.tbs.staging.set i ⟨.opened, bank⟩ }, .done,
            enc1 2 ++ enc2 bank.length⟩)) ∧
      (∀ (ch cl f k len : Byte) (params : List Byte), i = .cue → 1 ≤ n → n ≤ 256 →
        params.length = len.toNat → params.length ≤ 191 →
        exec (.stageWrite ([id, hi, lo, ch, cl, f, 1, k, len] ++ params)) s = .next (buildReply 0x61
          ⟨s.setTbs { s.tbs with
              staging := s.tbs.staging.set i ⟨.opened, bankPut b.bank n ([ch, cl, f, 1, k, len] ++ params)⟩ }, .done,
            enc1 2 ++ enc2 (bankPut b.bank n ([ch, cl, f, 1, k, len] ++ params)).length⟩)) ∧
      (∀ (ch cl f k len : Byte) (params : List Byte), i = .cue → params.length < len.toNat →
        params.length ≤ 191 →
        exec (.stageWrite ([id, hi, lo, ch, cl, f, 1, k, len] ++ params)) s = .next (buildReply 0x61
          ⟨s, .badArgument, enc1 2 ++ enc2 b.bank.length⟩)) ∧
      (∀ entry : List Byte, entry.length ≤ 197 →
        (n < i.first ∨ i.lastIndex < n ∨ entry = [] ∨
          (∃ len, entryLength i n = some len ∧ (entry.length % len ≠ 0 ∨ i.lastIndex + 1 < n + entry.length / len ∨
            entryLength i (n + entry.length / len - 1) ≠ some len))) →
        exec (.stageWrite ([id, hi, lo] ++ entry)) s = .next (buildReply 0x61
          ⟨s, .badArgument, enc1 2 ++ enc2 b.bank.length⟩)) ∧
      (∀ cues : List (Byte × Byte × Byte × Byte × List Byte), i = .cue → 257 < n + cues.length →
        (cues.map fun c => 6 + c.2.2.2.2.length).sum ≤ 197 →
        exec (.stageWrite ([id, hi, lo] ++ (cues.map fun c =>
          [c.1, c.2.1, c.2.2.1, 1, c.2.2.2.1, BitVec.ofNat 8 c.2.2.2.2.length] ++ c.2.2.2.2).flatten)) s =
          .next (buildReply 0x61 ⟨s, .badArgument, enc1 2 ++ enc2 b.bank.length⟩))) ∧
    (b.state = .opened → ∀ rest : List Byte, rest.length ≤ 1 →
      exec (.stageWrite (id :: rest)) s = .next (buildReply 0x61
        ⟨s, .badArgument, enc1 2 ++ enc2 b.bank.length⟩)) ∧
    (∀ rest : List Byte, 1 ≤ rest.length → rest.length ≤ 199 →
      exec (.stageOpen (id :: rest)) s = .next (buildReply 0x60
        ⟨s, .badArgument, enc1 (match b.state with | .empty => 1 | .opened => 2 | .queued => 3) ++
          enc2 b.bank.length⟩) ∧
      exec (.stageQueue (id :: rest)) s = .next (buildReply 0x62
        ⟨s, .badArgument, enc1 (match b.state with | .empty => 1 | .opened => 2 | .queued => 3) ++
          enc2 b.bank.length⟩)) ∧
    (∀ (bad : Byte) (rest : List Byte), bad = 0 ∨ 8 < bad.toNat → rest.length ≤ 199 →
      exec (.stageOpen (bad :: rest)) s = .next (buildReply 0x60 ⟨s, .badArgument, []⟩) ∧
      exec (.stageWrite (bad :: rest)) s = .next (buildReply 0x61 ⟨s, .badArgument, []⟩) ∧
      exec (.stageQueue (bad :: rest)) s = .next (buildReply 0x62 ⟨s, .badArgument, []⟩))

/-- Validation passes a set of tables just when every entry meets every condition of its table and a Slot Map has its
header, and so every reference exists; otherwise it reports table, index and reason of the first that fails: tables by
id, entries by index, conditions in their order. (R65, R74, R121, R148, R149, R174, R199) The model's choice: log entry
23; log entry 50; log entry 57. -/
def Obligations.ValidationReportsTheFirstFailure : Prop :=
  ∀ t : PerTable Bank,
    (validate t = none ↔ HeaderPresent t ∧ ∀ i, TableMet t i) ∧
    (validate t = none → ReferencesExist t) ∧
    (¬ HeaderPresent t → validate t = some ⟨1, 0, 2⟩) ∧
    (∀ (i : TableId) (e : BankEntry) (c : Prop × Nat) (before after : Bank) (met rest : List (Prop × Nat)),
      HeaderPresent t → (∀ j, j.code < i.code → TableMet t j) →
      t.get i = before ++ e :: after → (∀ x ∈ before, ∀ m ∈ conditionsOf t i x, m.1) →
      conditionsOf t i e = met ++ c :: rest → (∀ m ∈ met, m.1) → ¬ c.1 →
      validate t = some ⟨i.code, e.index, c.2⟩)

/-- COMMIT validates the queued banks, and makes them active at a safe point, waits for one, or fails; ABORT
COMMIT ends only a waiting commit. (R199, R200, R201, R202) The model's choice: log entries 24 and 25; log
entry 23. -/
def Obligations.CommitMakesTheQueuedBanksActive : Prop :=
  ∀ s : State, Ready s →
    (safePoint s = true ↔ s.asc.stage = .normal ∧ s.phc.phase ≠ .act ∧
      (s.tbs.staging.curtain.state = .queued → ∀ c ∈ s.ctc.curtains,
        (c.state = .raised ∨ c.state = .lowered) ∧ c.ownership = .implicit) ∧
      (s.tbs.staging.message.state = .queued ∨ s.tbs.staging.schedule.state = .queued →
        s.clc.channel = .idle)) ∧
    (∀ i, (prospective s).get i =
      if (s.tbs.staging.get i).state = .queued then (s.tbs.staging.get i).bank else s.tbs.active.get i) ∧
    (∀ t : PerTable Bank, t.slot ≠ [] → (∀ e ∈ t.slot, e.index ≠ 0) → validate t = some ⟨1, 0, 2⟩) ∧
    (∀ (t : PerTable Bank) (eh el hold ih il : Byte) (rest : Bank),
      t.slot = ⟨0, [eh, el, hold, ih, il]⟩ :: rest →
      (eh.toNat * 256 + el.toNat < 24 ∨ 512 < eh.toNat * 256 + el.toNat ∨ hold.toNat < 1 ∨ 30 < hold.toNat ∨
        (ih.toNat * 256 + il.toNat ≠ 0 ∧ ih.toNat * 256 + il.toNat < 60) ∨ 3600 < ih.toNat * 256 + il.toNat) →
      validate t = some ⟨1, 0, 1⟩) ∧
    (∀ (t : PerTable Bank) (a k1 k2 : Byte) (n1 n2 : Nat) (rest : Bank),
      t = ⟨[], [], [], [], [], [], [], ⟨n1, [a, k1]⟩ :: ⟨n2, [a, k2]⟩ :: rest⟩ → n1 < n2 →
      (∀ e ∈ rest, n2 < e.index) → 1 ≤ a.toNat → a.toNat ≤ 126 →
      1 ≤ k1.toNat → k1.toNat ≤ 4 → 1 ≤ k2.toNat → k2.toNat ≤ 4 → validate t = some ⟨8, n2, 6⟩) ∧
    (s.tbs.commit.current = .pending → exec (.commit []) s = .next (buildReply 0x63 ⟨s, .busy, []⟩)) ∧
    (s.tbs.commit.current ≠ .pending → (∀ i, (s.tbs.staging.get i).state ≠ .queued) →
      exec (.commit []) s = .next (buildReply 0x63 ⟨s, .refusedState, []⟩)) ∧
    (s.tbs.commit.current ≠ .pending → (∃ i, (s.tbs.staging.get i).state = .queued) →
      (∀ f, validate (prospective s) = some f →
        ∃ t, exec (.commit []) s = .next
            (buildReply 0x63 ⟨t, .refusedState, enc1 f.table ++ enc2 f.index ++ enc1 f.reason⟩) ∧
          t = s.setTbs t.tbs ∧ t.tbs.active = s.tbs.active ∧ t.tbs.auth = s.tbs.auth ∧
          t.tbs.commit.current = .failed ∧ t.tbs.commit.failure = some f ∧
          ∀ i, t.tbs.staging.get i =
            if (s.tbs.staging.get i).state = .queued then { s.tbs.staging.get i with state := .opened }
            else s.tbs.staging.get i) ∧
      (validate (prospective s) = none → safePoint s = false →
        ∃ t, exec (.commit []) s = .next (buildReply 0x63 ⟨t, .accepted, []⟩) ∧
          t = s.setTbs t.tbs ∧ t.tbs.active = s.tbs.active ∧ t.tbs.auth = s.tbs.auth ∧
          t.tbs.staging = s.tbs.staging ∧ t.tbs.commit.current = .pending ∧
          t.tbs.commit.previous = s.tbs.commit.current) ∧
      (validate (prospective s) = none → safePoint s = true →
        ∃ t, exec (.commit []) s = .next (buildReply 0x63 ⟨t,
            if ∃ e ∈ (prospective s).zone, 65 ≤ e.index ∧ s.tbs.auth.stagingLimit < at2 e.bytes 2 then .clamped
            else .done, []⟩) ∧
          t.tbs.commit.current = .passed ∧ t.tbs.auth = s.tbs.auth ∧ t.asc = s.asc ∧ t.phc = s.phc ∧
          (∀ i, t.tbs.staging.get i =
            if (s.tbs.staging.get i).state = .queued then ⟨.empty, []⟩ else s.tbs.staging.get i) ∧
          (∀ i, i ≠ .zone → t.tbs.active.get i =
            if (s.tbs.staging.get i).state = .queued then (s.tbs.staging.get i).bank
            else s.tbs.active.get i) ∧
          (∀ g, g ≤ 6 → groupOffset t.tbs.active.zone g =
            min (groupOffset (prospective s).zone g) s.tbs.auth.stagingLimit))) ∧
    (s.tbs.commit.current ≠ .pending →
      exec (.abortCommit []) s = .next (buildReply 0x64 ⟨s, .refusedState, []⟩)) ∧
    (s.tbs.commit.current = .pending →
      ∃ t, exec (.abortCommit []) s = .next (buildReply 0x64 ⟨t, .done, []⟩) ∧
        t = s.setTbs t.tbs ∧ t.tbs.active = s.tbs.active ∧ t.tbs.auth = s.tbs.auth ∧
        t.tbs.commit.current = .aborted ∧ t.tbs.commit.previous = s.tbs.commit.previous ∧
        ∀ i, t.tbs.staging.get i =
          if (s.tbs.staging.get i).state = .queued then { s.tbs.staging.get i with state := .opened }
          else s.tbs.staging.get i)

/-- A commit that completes, at once or at a later safe point with COMMIT DONE, makes the queued banks
active and each owner rebuilds from its own. (R199, R200, R201, R29, R37, R58, R71, R97, R144, R157, R165, R181)
The model's choice: log entry 18; log entries 24 and 25; log entry 48; log entry 6. -/
def Obligations.PendingCommitCompletesAtASafePoint : Prop :=
  ∀ (s t : State), (s.tbs.commit.current ≠ .pending ∨ safePoint s = false → reexamine s = s) ∧
    (∀ (queued : TableId → Bool) (next : TableId → Bank) (limit : Nat) (clamped : Bool)
        (gone : Option (Nat × PageClass)) (last : State → State),
      (∀ i, queued i = decide ((s.tbs.staging.get i).state = .queued)) →
      (∀ i, next i = if queued i then (s.tbs.staging.get i).bank else s.tbs.active.get i) →
      limit = s.tbs.auth.stagingLimit → clamped = (next .zone).any (fun e => 65 ≤ e.index ∧ limit < at2 e.bytes 2) →
      gone = (if queued .poll then s.clc.holder.filter fun h =>
          !(next .poll).any fun e =>
            (stationOf e.index e.bytes).address == h.1 && (stationOf e.index e.bytes).kind == .paging
        else none) →
      safePoint s = true → (∀ r ∈ s.zmn.zones, r.window = none) →
      ((s.tbs.commit.current = .pending ∧ t = reexamine s ∧
          last = post .commitDone 0 (some (if clamped then 1 else 0))) ∨
        (∃ r, Ready s ∧ s.tbs.commit.current ≠ .pending ∧ (∃ i, queued i) ∧ validate (prospective s) = none ∧
          exec (.commit []) s = .next (buildReply 0x63 ⟨t, r, []⟩) ∧ last = id)) →
      t.tbs.auth = s.tbs.auth ∧ t.asc = s.asc ∧ t.phc = s.phc ∧ t.time = s.time ∧
      (s.tbs.commit.current ≠ .pending →
        exec (.commit []) s = .next (buildReply 0x63 ⟨t, if clamped then .clamped else .done, []⟩)) ∧
      (s.tbs.commit.current = .pending →
        t.tbs.commit = ⟨.passed, s.tbs.commit.previous, s.tbs.commit.tables, none, s.time⟩) ∧
      (∀ i, t.tbs.staging.get i = if queued i then ⟨.empty, []⟩ else s.tbs.staging.get i) ∧
      (∀ i, i ≠ .zone → t.tbs.active.get i = next i) ∧
      t.tbs.active.zone = (next .zone).map (fun e =>
        if 65 ≤ e.index ∧ limit < at2 e.bytes 2 then { e with bytes := e.bytes.take 2 ++ enc2 limit } else e) ∧
      (queued .slot ∨ queued .cue → t.crg = ⟨none, none⟩) ∧ (¬ queued .slot → ¬ queued .cue → t.crg = s.crg) ∧
      (¬ queued .slot → t.srx = s.srx ∧ t.fbl = s.fbl) ∧
      (queued .slot → (s.srx.state = .ok → s.time < s.srx.lastGood + holdTime (next .slot)) →
        (s.phc.phase = .dark → s.time < s.srx.idleRef + idleTime (next .slot) ∨ idleTime (next .slot) = 0) →
        t.fbl = s.fbl ∧ t.srx = { s.srx with
          valid := match expectedLength? (next .slot) with
            | some e => min s.srx.valid e
            | none => s.srx.valid }) ∧
      (¬ queued .house → t.hlu = s.hlu) ∧
      (queued .house →
        t.hlu.circuits = ((next .house).filter fun e => e.index != 0).map (fun e =>
          let sent := match s.hlu.circuits.find? fun c => c.number == e.index with | some c => c.lastSent | none => 0
          { number := e.index, group := (circuitEntryOf e.bytes).group, slot := (circuitEntryOf e.bytes).slot
            floor := (circuitEntryOf e.bytes).floor, ceiling := (circuitEntryOf e.bytes).ceiling
            source := .preset ⟨sent, sent, s.time, 0⟩, override := none, lastSent := sent }) ∧
        t.hlu.groups = s.hlu.groups.map fun g => { g with fade := defaultFade (next .house) g.number }) ∧
      (¬ queued .zone → t.zmn = s.zmn) ∧
      (queued .zone → t.zmn.used = s.zmn.used ∧
        t.zmn.zones = ((next .zone).filter fun e => e.index ≤ 64).map fun e =>
          { zoneOf e.index e.bytes with
            condition := .unknown
            deferred := false
            window := none
            latch := match s.zmn.zones.find? fun r => r.number == e.index with | some r => r.latch | none => false }) ∧
      (¬ queued .curtain → t.ctc = s.ctc) ∧
      (queued .curtain →
        t.ctc.curtains = (next .curtain).map (fun e =>
          match s.ctc.curtains.find? fun c => c.unit == (curtainEntryOf e.bytes).unit with
          | some c => { c with
              number := e.index
              proscenium := (curtainEntryOf e.bytes).proscenium
              demoFlag := (curtainEntryOf e.bytes).demo }
          | none => { number := e.index, unit := (curtainEntryOf e.bytes).unit
                      proscenium := (curtainEntryOf e.bytes).proscenium, demoFlag := (curtainEntryOf e.bytes).demo }) ∧
        ((∃ c d, demoCurtain s = some c ∧ demoCurtain t = some d ∧ c.unit = d.unit) → t.ctc.demo = s.ctc.demo) ∧
        ((∀ c d, demoCurtain s = some c → demoCurtain t = some d → c.unit ≠ d.unit) →
          t.ctc.demo = ⟨.notDone, none, none, none, none, none⟩)) ∧
      (¬ queued .poll → t.lpc = s.lpc) ∧
      (queued .poll →
        t.lpc.tx = none ∧ t.lpc.quietOwed = true ∧
        t.lpc.busyUntil = (if s.lpc.tx.isSome then max s.lpc.busyUntil s.time else s.lpc.busyUntil) ∧
        t.lpc.position = (match next .poll with | [] => 0 | e :: _ => e.index) ∧
        t.lpc.stations = (next .poll).map (fun e =>
          t.ctc.curtains.foldl
            (fun st c => match c.outstanding with
              | some d => if st.address = c.unit then st.handOver (.drive d) else st
              | none => st)
            (match s.lpc.stations.find? fun x => x.address == (stationOf e.index e.bytes).address &&
                x.kind == (stationOf e.index e.bytes).kind with
              | some x => { stationOf e.index e.bytes with pending := x.pending, lastTag := x.lastTag }
              | none => stationOf e.index e.bytes))) ∧
      (∀ calls : Calls, calls = (if queued .message ∨ queued .schedule then { s.clc with queue := [], sched := [] }
          else s.clc) →
        (¬ queued .poll → t.clc = calls) ∧
        (∀ keeps : Nat → Bool, queued .poll → (∀ a, keeps a = (next .poll).any fun e =>
            (stationOf e.index e.bytes).address == a && (stationOf e.index e.bytes).kind == .paging) →
          t.clc = { calls with
            announcer := .unknown
            requests := s.clc.requests.filter fun r => keeps r.station
            owing := s.clc.owing.filter keeps
            showing := s.clc.showing.filter keeps
            revokeOwed := s.clc.revokeOwed.filter keeps
            holder := if gone.isSome then none else s.clc.holder
            pageLimit := if gone.isSome then none else s.clc.pageLimit
            evacOwed := if gone.isSome then false else s.clc.evacOwed
            channel := if gone.isSome then .idle else s.clc.channel })) ∧
      ((queued .slot → (s.srx.state = .ok → s.time < s.srx.lastGood + holdTime (next .slot)) ∧
          (s.phc.phase = .dark → s.time < s.srx.idleRef + idleTime (next .slot) ∨ idleTime (next .slot) = 0)) →
        t.evq = (last ((match gone with
          | some (a, cls) => post .pageEnded a (some cls.code)
          | none => id)
        ((if (queued .message ∨ queued .schedule) ∧ (s.clc.queue ≠ [] ∨ s.clc.sched ≠ []) then
          post .callsCleared 0 (some s.clc.queue.length) else id) s))).evq))

/-- SET AUTHORITY writes values within their ranges until LOCK AUTHORITY, and nothing after it. (R204, R205)
-/
def Obligations.AuthorityIsSetAndLocked : Prop :=
  ∀ s : State, Ready s →
    (∀ p : List Byte, p.length ≤ 200 → s.tbs.auth.locked = true →
      exec (.setAuthority p) s = .next (buildReply 0x67 ⟨s, .locked, []⟩)) ∧
    (∀ (hi lo : Byte) (v : Nat), s.tbs.auth.locked = false → v = hi.toNat * 256 + lo.toNat →
      exec (.setAuthority [1, hi, lo]) s = .next (buildReply 0x67
        ⟨s.setTbs { s.tbs with auth := { s.tbs.auth with ackTime := max 10 (min 120 v) } },
          if v < 10 ∨ 120 < v then .clamped else .done, []⟩) ∧
      exec (.setAuthority [2, hi, lo]) s = .next (buildReply 0x67
        ⟨s.setTbs { s.tbs with auth := { s.tbs.auth with invTime := max 30 (min 300 v) } },
          if v < 30 ∨ 300 < v then .clamped else .done, []⟩) ∧
      exec (.setAuthority [3, hi, lo]) s = .next (buildReply 0x67
        ⟨s.setTbs { s.tbs with auth := { s.tbs.auth with stagingLimit := min 300 v } },
          if 300 < v then .clamped else .done, []⟩) ∧
      exec (.setAuthority [4, hi, lo]) s = .next (buildReply 0x67
        ⟨s.setTbs { s.tbs with auth := { s.tbs.auth with descentLimit := max 10 (min 60 v) } },
          if v < 10 ∨ 60 < v then .clamped else .done, []⟩) ∧
      exec (.setAuthority [5, hi, lo]) s = .next (buildReply 0x67
        ⟨s.setTbs { s.tbs with auth := { s.tbs.auth with alarmFade := max 5 (min 50 v) } },
          if v < 5 ∨ 50 < v then .clamped else .done, []⟩)) ∧
    (∀ (hi lo : Byte) (v : Nat) (rule : DemoRule), s.tbs.auth.locked = false → v = hi.toNat * 256 + lo.toNat →
      ((v = 1 ∧ rule = .none) ∨ (v = 2 ∧ rule = .warn) ∨ (v = 3 ∧ rule = .enforce) →
        exec (.setAuthority [6, hi, lo]) s = .next (buildReply 0x67
          ⟨s.setTbs { s.tbs with auth := { s.tbs.auth with demoRule := rule } }, .done, []⟩)) ∧
      (v = 0 ∨ 3 < v →
        exec (.setAuthority [6, hi, lo]) s = .next (buildReply 0x67 ⟨s, .badArgument, []⟩))) ∧
    (∀ (z : Byte) (vs : List (Byte × Byte × Byte × Byte)) (w b : Nat → Nat) (p : List Byte),
      s.tbs.auth.locked = false → s.tbs.auth.maxWindow.length = 64 → s.tbs.auth.budget.length = 64 →
      vs.length ≤ 49 →
      p = [7, z, BitVec.ofNat 8 vs.length] ++ (vs.map fun x => [x.1, x.2.1, x.2.2.1, x.2.2.2]).flatten →
      (∀ k, w k = (vs.getD k (0, 0, 0, 0)).1.toNat * 256 + (vs.getD k (0, 0, 0, 0)).2.1.toNat ∧
        b k = (vs.getD k (0, 0, 0, 0)).2.2.1.toNat * 256 + (vs.getD k (0, 0, 0, 0)).2.2.2.toNat) →
      (1 ≤ z.toNat → 1 ≤ vs.length → z.toNat + vs.length ≤ 65 →
        exec (.setAuthority p) s = .next (buildReply 0x67
          ⟨s.setTbs { s.tbs with auth := { s.tbs.auth with
              maxWindow := (List.range 64).map fun k =>
                if z.toNat - 1 ≤ k ∧ k < z.toNat - 1 + vs.length then min 600 (w (k - (z.toNat - 1)))
                else s.tbs.auth.maxWindow.getD k 0
              budget := (List.range 64).map fun k =>
                if z.toNat - 1 ≤ k ∧ k < z.toNat - 1 + vs.length then min 3600 (b (k - (z.toNat - 1)))
                else s.tbs.auth.budget.getD k 0 } },
            if ∃ k < vs.length, 600 < w k ∨ 3600 < b k then .clamped else .done, []⟩)) ∧
      (z.toNat = 0 ∨ vs = [] ∨ 65 < z.toNat + vs.length →
        exec (.setAuthority p) s = .next (buildReply 0x67 ⟨s, .badArgument, []⟩))) ∧
    (s.keyOn = true → s.tbs.auth.locked = false →
      exec (.lockAuthority []) s = .next (buildReply 0x68
        ⟨post .authorityLocked 0 none (s.setTbs { s.tbs with auth := { s.tbs.auth with locked := true } }),
          .done, []⟩)) ∧
    (s.keyOn = true → s.tbs.auth.locked = true →
      exec (.lockAuthority []) s = .next (buildReply 0x68 ⟨s, .done, []⟩))

/-! ### Reading commands -/

/-- The reading commands are DONE in their ranges, give every field of their records, and change nothing but
the reply. (R15, R52, R100, R117, R147, R148, R167, R188, R189, R202, R203, R205) The model's choice: log
entries 29 and 42; log entry 12; log entry 37; log entry 5; log entry 51; log entry 7; log entry 9. -/
def Obligations.ReadingCommandsGiveTheirRecords : Prop :=
  ∀ (s : State) (kind : Nat → Nat), Ready s →
    (∀ m, kind m = match findMessage s.tbs.active.message m with | some e => e.kind | none => 0) →
    exec (.getShow []) s = .next (buildReply 0x11 ⟨s, .done,
      enc1 s.phc.phase.code ++ enc2 s.phc.performance ++ enc1 s.phc.act ++ enc1 s.phc.interval ++
        enc4 (s.phc.start / 1000) ++ enc4 ((s.time - s.phc.start) / 1000)⟩) ∧
    (∀ u, s.unit = some u → exec (.getIdentity []) s = .next (buildReply 0x54 ⟨s, .done,
      enc2 417 ++ enc1 Config.revision ++ enc1 u ++ enc2 s.cmi.restarts ++ enc4 (s.time / 1000)⟩)) ∧
    (∀ first count : Byte, 1 ≤ first.toNat → 1 ≤ count.toNat → count.toNat ≤ 16 →
      (first.toNat + count.toNat ≤ 49 → exec (.getHouse [first, count]) s = .next (buildReply 0x23 ⟨s, .done,
        (s.hlu.groups.map fun g => enc1 g.master ++ enc2 g.fade).flatten ++
        ((List.range count.toNat).map fun i =>
          match s.hlu.circuits.find? fun c => c.number == first.toNat + i with
          | none => enc1 0
          | some c => enc1 1 ++ enc1 c.group ++ enc1 c.floor ++ enc1 c.ceiling ++
            (match c.source with
              | .console h => enc1 1 ++ enc1 (if h.isSome then 1 else 0)
              | .preset f => enc1 2 ++ enc1 f.target ++ enc1 (if s.time - f.start < f.duration then 1 else 2) ++ enc1 0) ++
            enc1 (if c.override.isSome then 1 else 0) ++ enc1 (baseLevel s.srx.table c s.time) ++
            enc1 (circuitLevel s c s.time) ++ enc1 c.lastSent).flatten⟩)) ∧
      (first.toNat + count.toNat ≤ 65 → exec (.getZones [first, count]) s = .next (buildReply 0x31 ⟨s, .done,
        ((List.range count.toNat).map fun i =>
          match s.zmn.zones.find? fun r => r.number == first.toNat + i with
          | none => enc1 0 ++ enc2 (usedOf s (first.toNat + i))
          | some r => enc1 1 ++ enc1 r.kind.code ++ enc1 r.unit ++ enc1 r.input ++ enc1 r.group ++
            enc1 r.condition.code ++ enc1 (if r.latch then 1 else 2) ++ enc1 (if r.deferred then 1 else 2) ++
            (match r.window with
              | some w => enc1 1 ++ enc4 (s.time - w.start) ++ enc4 (w.finish - s.time)
              | none => enc1 0) ++
            enc2 (maxWindowOf s (first.toNat + i)) ++ enc2 (budgetOf s (first.toNat + i)) ++
            enc2 (usedOf s (first.toNat + i)) ++ enc2 (remainingBudget s r / 1000)).flatten⟩))) ∧
    exec (.getAlarm []) s = .next (buildReply 0x3B ⟨s, .done,
      enc1 s.asc.stage.code ++ encOpt s.fresh 10 1 (fun x : InvStep => enc1 x.code) s.asc.invStep ++
      encOpt s.fresh 11 1 enc1 s.asc.zone ++ encOpt s.fresh 12 1 enc1 s.asc.group ++
      enc1 (if s.asc.general then 1 else 0) ++ enc4 (s.asc.stageStart / 1000) ++
      encOpt s.fresh 13 4 (fun t => enc4 (t / 1000)) s.asc.evacStart ++
      encOpt s.fresh 14 4 (fun e => enc4 (e - s.time))
        (match s.asc.ackExpiry with | some e => some e | none => s.asc.invExpiry) ++
      enc1 (if s.asc.showStop then 1 else 2) ++
      encOpt s.fresh 15 5 (fun x : Nat × Nat => enc1 x.1 ++ enc4 (x.2 / 1000)) s.asc.lastPre ++
      enc1 (s.zmn.zones.filter fun r => r.latch).length ++
      enc1 (s.zmn.zones.filter fun r => decide (r.condition = .fire)).length ++
      ((List.range 7).map fun g => match s.asc.groups.getD g .clear with
        | .clear => enc1 0 ++ unstated s.fresh (20 + g) 4 ++ unstated s.fresh (30 + g) 1
        | .pending d => enc1 1 ++ enc4 (d / 1000) ++ unstated s.fresh (30 + g) 1
        | .evacuating t c => enc1 2 ++ enc4 (t / 1000) ++ enc1 c.code).flatten⟩) ∧
    exec (.getCurtains []) s = .next (buildReply 0x43 ⟨s, .done,
      (([1, 2, 3, 4] : List Nat).map fun n => match s.ctc.curtains.find? fun c => c.number == n with
        | none => enc1 0
        | some c => enc1 1 ++ enc1 c.unit ++ enc1 (if c.proscenium then 1 else 2) ++ enc1 (if c.demoFlag then 1 else 0) ++
          enc1 c.state.code ++ enc2 c.position ++ enc1 c.ownership.code ++
          enc1 (if c.latch.isSome then 1 else 2) ++
          encOpt s.fresh (40 + n) 1 (fun x : LatchCause => enc1 x.code) c.latch ++
          encOpt s.fresh (45 + n) 1 (fun x : DriveCmd => enc1 x.code) c.outstanding ++
          enc1 c.release.code ++ enc1 (if c.holdWaiting then 1 else 0) ++
          encOpt s.fresh (50 + n) 5 (fun d : Descent => enc4 (s.time - d.start) ++ enc1 (if d.taken then 1 else 0))
            c.descent ++
          encOpt s.fresh (55 + n) 4 enc4 c.lastDescent).flatten ++
      enc1 s.ctc.demo.state.code ++ encOpt s.fresh 60 4 enc4 s.ctc.demo.loweringTime ++
      encOpt s.fresh 61 1 (fun x : DemoFailure => enc1 x.code) s.ctc.demo.failure⟩) ∧
    exec (.getCalls []) s = .next (buildReply 0x4A ⟨s, .done,
      enc1 s.clc.channel.code ++ enc1 s.clc.announcer.code ++
      encOpt s.fresh 70 1 (fun x : CutReason => enc1 x.code) s.clc.cut ++ enc1 (if s.clc.evacOwed then 1 else 0) ++
      encOpt s.fresh 71 2 (fun x : Activity × Nat => enc1 x.1.code ++ enc1 x.2) s.clc.unitReport ++
      (match s.clc.channel, s.clc.current with
        | .playing, some c => enc1 c.message ++ enc1 (kind c.message) ++ enc1 c.priority.code ++ enc2 c.zones.toNat ++
          enc1 (if s.clc.playTaken then 1 else 0) ++ encOpt s.fresh 72 4 (fun e => enc4 (e - s.time)) s.clc.overrun
        | _, _ => []) ++
      (match s.clc.channel, s.clc.holder with
        | .paging, some (a, cls) => enc1 a ++ enc1 cls.code ++
          encOpt s.fresh 73 4 (fun e => enc4 (e - s.time)) s.clc.pageLimit
        | _, _ => []) ++
      enc2 s.clc.evacZones.toNat ++ enc1 s.clc.queue.length ++
      (s.clc.queue.map fun c => enc1 c.message ++ enc1 (kind c.message) ++ enc1 c.priority.code ++ enc1 c.origin.code ++
        enc2 c.zones.toNat ++ enc4 (c.enqueued / 1000) ++
        encOpt s.fresh 74 4 (fun e => enc4 (e / 1000)) c.expiry).flatten ++
      enc1 s.clc.sched.length ++
      (s.clc.sched.map fun e => enc1 e.source ++ enc1 e.message ++ enc1 (kind e.message) ++ enc4 (e.due.toNat / 1000)).flatten ++
      enc1 s.clc.requests.length ++
      (s.clc.requests.map fun r => enc1 r.station ++ enc1 r.cls.code ++ enc1 r.state.code ++
        enc4 (r.firstSeen / 1000)).flatten⟩) ∧
    exec (.getStatus []) s = .next (buildReply 0x53 ⟨s, .done,
      ((fun x : Sticky => [x.framing, x.short, x.long, x.badFrame, x.collision, x.loopSilent, x.loopParity,
          x.loopFraming, x.loopAddress, x.loopShort, x.loopLong, x.loopContent, x.eventsDiscarded])
        s.cmi.sticky).map (fun b => if b then (1 : Byte) else 0) ++ enc2 s.cmi.discards ++
      (match s.srx.lastFrame.kind with
        | .none => unstated s.fresh 80 1
        | .level => enc1 1
        | .discarded => enc1 2
        | .control => enc1 3
        | .other => enc1 4) ++ enc2 s.srx.lastFrame.count ++
      enc1 (if s.srx.lastFrame.short then 1 else 0) ++ enc1 (if s.srx.lastFrame.long then 1 else 0) ++
      enc1 s.srx.state.code ++ enc2 s.srx.valid ++ enc4 (s.srx.lastGood / 1000) ++
      enc1 s.lpc.stations.length ++ enc1 s.lpc.position ++
      (s.lpc.stations.map fun st => enc1 st.address ++ enc1 st.kind.code ++ enc1 st.state.code ++
        enc1 st.misses ++ enc1 (if st.pending.isSome then 1 else 0)).flatten ++
      enc1 s.evq.queue.length ++ enc1 s.evq.mask ++ enc1 (if s.evq.armed then 1 else 0) ++
      enc1 (if s.evq.line then 1 else 2) ++ enc1 (if s.evq.gap.isSome then 1 else 0) ++ enc1 (if s.keyOn then 1 else 2) ++
      enc4 (s.time / 1000)⟩) ∧
    exec (.getCommit []) s = .next (buildReply 0x65 ⟨s, .done,
      enc1 s.tbs.commit.current.code ++ enc1 s.tbs.commit.previous.previousCode ++
      enc1 s.tbs.commit.tables.length ++ (s.tbs.commit.tables.map enc1).flatten ++
      encOpt s.fresh 1 4 (fun f : Failure => enc1 f.table ++ enc2 f.index ++ enc1 f.reason)
        s.tbs.commit.failure ++ enc4 s.tbs.commit.outcome ++
      (([.slot, .house, .cue, .zone, .curtain, .message, .schedule, .poll] : List TableId).map fun i =>
        enc1 (s.tbs.staging.get i).state.code ++ enc2 (s.tbs.staging.get i).bank.length ++
        enc2 (s.tbs.active.get i).length).flatten⟩) ∧
    exec (.getAuthority []) s = .next (buildReply 0x69 ⟨s, .done,
      (s.tbs.auth.maxWindow.map enc2).flatten ++ (s.tbs.auth.budget.map enc2).flatten ++
      enc1 s.tbs.auth.ackTime ++ enc2 s.tbs.auth.invTime ++ enc2 s.tbs.auth.stagingLimit ++
      enc1 s.tbs.auth.descentLimit ++ enc1 s.tbs.auth.alarmFade ++ enc1 s.tbs.auth.demoRule.code ++
      enc1 (if s.tbs.auth.locked then 1 else 0)⟩) ∧
    (∀ (i : TableId) (id hi lo count : Byte) (first n : Nat) (items : List (List Byte)), id.toNat = i.code →
      first = hi.toNat * 256 + lo.toNat → i.first ≤ first → 1 ≤ count.toNat → count.toNat ≤ 16 →
      first + count.toNat ≤ i.lastIndex + 1 →
      items = ((List.range count.toNat).map fun k =>
        match (s.tbs.active.get i).find? fun e => e.index == first + k with
        | some e => 1 :: e.bytes
        | none => enc1 0) →
      n ≤ count.toNat → (items.take n).flatten.length ≤ 499 →
      (n = count.toNat ∨ 499 < (items.take (n + 1)).flatten.length) →
      exec (.readActive [id, hi, lo, count]) s = .next (buildReply 0x66
        ⟨s, .done, enc1 n ++ (items.take n).flatten⟩))

/-! ### Invariants that every step keeps -/

/-- Every step keeps the alarm record in agreement with its stage: SHOW STOP just in EVACUATE, groups, step,
timers and origin only where the stage has them. (R101, R102, R107, R109, R110, R111, R115, R116) -/
def Obligations.EveryStepKeepsTheAlarmConsistent : Prop :=
  ∀ s t : State, AlarmConsistent s → step s = .next t → AlarmConsistent t

/-- Every step keeps the announcement channel for the alarm: in EVACUATE it is EVACUATION or a FIRE page;
the call queue stays bounded and without repeats. (R150, R156, R160, R162, R163) -/
def Obligations.EveryStepKeepsTheChannelForTheAlarm : Prop :=
  ∀ s t : State, ChannelConsistent s → step s = .next t → ChannelConsistent t

/-- Every step keeps the zone laws: a window only on an unlatched SMOKE or FLAME zone in ACT and NORMAL, a
deferred fire only under a window, used within budget. (R74, R76, R77, R86, R87, R88, R92, R197) -/
def Obligations.EveryStepKeepsTheZoneLaws : Prop :=
  ∀ s t : State, ZonesConsistent s → step s = .next t → ZonesConsistent t

/-- Every step keeps the curtain laws: EXPLICIT just in a segment, no RAISE with a latch or outside NORMAL,
no LOWER, RAISE or STOP under PENDANT. (R123, R126, R127, R131, R138, R140, R142, R197) -/
def Obligations.EveryStepKeepsTheCurtainLaws : Prop :=
  ∀ s t : State, CurtainsConsistent s → step s = .next t → CurtainsConsistent t

/-- Every step keeps the table laws: every reference of the active tables exists in the active tables, also across a
commit that waits; and once locked, the authority record is kept by every step but the one that takes a reset. (R65,
R121, R199, R201, R204, R205, R190) -/
def Obligations.EveryStepKeepsTheTableLaws : Prop :=
  ∀ s t : State, step s = .next t →
    (TablesConsistent s → TablesConsistent t) ∧
    (s.tbs.auth.locked = true → (∀ rest, s.pending ≠ .resetAssertion :: rest) → t.tbs.auth = s.tbs.auth)

/-- The reset state meets the invariants of the event queue, alarm, channel, zones, curtains and tables, with the
authority record unlocked and no command waiting. (R190, R72, R101, R120, R195, R204) -/
def Obligations.ResetMeetsTheInvariants : Prop :=
  EventsBounded State.reset ∧ AlarmConsistent State.reset ∧ ChannelConsistent State.reset ∧
    ZonesConsistent State.reset ∧ CurtainsConsistent State.reset ∧ TablesConsistent State.reset ∧
    State.reset.tbs.auth.locked = false ∧ State.reset.pending = []

/-! ### Encoding -/

/-- The frame written for a command is well-formed and reads back as that command, for every command that a
control frame carries. (R183, R184) -/
def Obligations.ControlFramesCarryEveryCommand : Prop :=
  ∀ (i : Instr) (code u : Nat) (p : List Byte), i.wellFormed = true → controlCode i = some (code, p) →
    u ≤ 254 →
    wellFormedFrame (controlFrameBytes u code p) = true ∧ frameCommand (controlFrameBytes u code p) = i
end

