-- ==== Sys2Proof/Laws/State.lean ====
section
/-! SUPPORT. One lemma for each field and each replacement of a field of the state. -/

namespace Sys2Proof.Machine

@[simp] theorem State.setTime_time (s : State) (x : Nat) : (s.setTime x).time = x := rfl
@[simp] theorem State.setTime_resetHeld (s : State) (x : Nat) : (s.setTime x).resetHeld = s.resetHeld := rfl
@[simp] theorem State.setTime_unit (s : State) (x : Nat) : (s.setTime x).unit = s.unit := rfl
@[simp] theorem State.setTime_keyOn (s : State) (x : Nat) : (s.setTime x).keyOn = s.keyOn := rfl
@[simp] theorem State.setTime_restartArmed (s : State) (x : Nat) : (s.setTime x).restartArmed = s.restartArmed := rfl
@[simp] theorem State.setTime_phc (s : State) (x : Nat) : (s.setTime x).phc = s.phc := rfl
@[simp] theorem State.setTime_srx (s : State) (x : Nat) : (s.setTime x).srx = s.srx := rfl
@[simp] theorem State.setTime_fbl (s : State) (x : Nat) : (s.setTime x).fbl = s.fbl := rfl
@[simp] theorem State.setTime_hlu (s : State) (x : Nat) : (s.setTime x).hlu = s.hlu := rfl
@[simp] theorem State.setTime_crg (s : State) (x : Nat) : (s.setTime x).crg = s.crg := rfl
@[simp] theorem State.setTime_zmn (s : State) (x : Nat) : (s.setTime x).zmn = s.zmn := rfl
@[simp] theorem State.setTime_asc (s : State) (x : Nat) : (s.setTime x).asc = s.asc := rfl
@[simp] theorem State.setTime_ctc (s : State) (x : Nat) : (s.setTime x).ctc = s.ctc := rfl
@[simp] theorem State.setTime_clc (s : State) (x : Nat) : (s.setTime x).clc = s.clc := rfl
@[simp] theorem State.setTime_lpc (s : State) (x : Nat) : (s.setTime x).lpc = s.lpc := rfl
@[simp] theorem State.setTime_evq (s : State) (x : Nat) : (s.setTime x).evq = s.evq := rfl
@[simp] theorem State.setTime_cmi (s : State) (x : Nat) : (s.setTime x).cmi = s.cmi := rfl
@[simp] theorem State.setTime_tbs (s : State) (x : Nat) : (s.setTime x).tbs = s.tbs := rfl
@[simp] theorem State.setTime_fresh (s : State) (x : Nat) : (s.setTime x).fresh = s.fresh := rfl
@[simp] theorem State.setTime_pending (s : State) (x : Nat) : (s.setTime x).pending = s.pending := rfl
@[simp] theorem State.setTime_self (s : State) : s.setTime s.time = s := rfl
@[simp] theorem State.setTime_setTime (s : State) (x y : Nat) : (s.setTime x).setTime y = s.setTime y := rfl

@[simp] theorem State.setResetHeld_time (s : State) (x : Bool) : (s.setResetHeld x).time = s.time := rfl
@[simp] theorem State.setResetHeld_resetHeld (s : State) (x : Bool) : (s.setResetHeld x).resetHeld = x := rfl
@[simp] theorem State.setResetHeld_unit (s : State) (x : Bool) : (s.setResetHeld x).unit = s.unit := rfl
@[simp] theorem State.setResetHeld_keyOn (s : State) (x : Bool) : (s.setResetHeld x).keyOn = s.keyOn := rfl
@[simp] theorem State.setResetHeld_restartArmed (s : State) (x : Bool) : (s.setResetHeld x).restartArmed = s.restartArmed := rfl
@[simp] theorem State.setResetHeld_phc (s : State) (x : Bool) : (s.setResetHeld x).phc = s.phc := rfl
@[simp] theorem State.setResetHeld_srx (s : State) (x : Bool) : (s.setResetHeld x).srx = s.srx := rfl
@[simp] theorem State.setResetHeld_fbl (s : State) (x : Bool) : (s.setResetHeld x).fbl = s.fbl := rfl
@[simp] theorem State.setResetHeld_hlu (s : State) (x : Bool) : (s.setResetHeld x).hlu = s.hlu := rfl
@[simp] theorem State.setResetHeld_crg (s : State) (x : Bool) : (s.setResetHeld x).crg = s.crg := rfl
@[simp] theorem State.setResetHeld_zmn (s : State) (x : Bool) : (s.setResetHeld x).zmn = s.zmn := rfl
@[simp] theorem State.setResetHeld_asc (s : State) (x : Bool) : (s.setResetHeld x).asc = s.asc := rfl
@[simp] theorem State.setResetHeld_ctc (s : State) (x : Bool) : (s.setResetHeld x).ctc = s.ctc := rfl
@[simp] theorem State.setResetHeld_clc (s : State) (x : Bool) : (s.setResetHeld x).clc = s.clc := rfl
@[simp] theorem State.setResetHeld_lpc (s : State) (x : Bool) : (s.setResetHeld x).lpc = s.lpc := rfl
@[simp] theorem State.setResetHeld_evq (s : State) (x : Bool) : (s.setResetHeld x).evq = s.evq := rfl
@[simp] theorem State.setResetHeld_cmi (s : State) (x : Bool) : (s.setResetHeld x).cmi = s.cmi := rfl
@[simp] theorem State.setResetHeld_tbs (s : State) (x : Bool) : (s.setResetHeld x).tbs = s.tbs := rfl
@[simp] theorem State.setResetHeld_fresh (s : State) (x : Bool) : (s.setResetHeld x).fresh = s.fresh := rfl
@[simp] theorem State.setResetHeld_pending (s : State) (x : Bool) : (s.setResetHeld x).pending = s.pending := rfl
@[simp] theorem State.setResetHeld_self (s : State) : s.setResetHeld s.resetHeld = s := rfl
@[simp] theorem State.setResetHeld_setResetHeld (s : State) (x y : Bool) : (s.setResetHeld x).setResetHeld y = s.setResetHeld y := rfl

@[simp] theorem State.setUnit_time (s : State) (x : Option Nat) : (s.setUnit x).time = s.time := rfl
@[simp] theorem State.setUnit_resetHeld (s : State) (x : Option Nat) : (s.setUnit x).resetHeld = s.resetHeld := rfl
@[simp] theorem State.setUnit_unit (s : State) (x : Option Nat) : (s.setUnit x).unit = x := rfl
@[simp] theorem State.setUnit_keyOn (s : State) (x : Option Nat) : (s.setUnit x).keyOn = s.keyOn := rfl
@[simp] theorem State.setUnit_restartArmed (s : State) (x : Option Nat) : (s.setUnit x).restartArmed = s.restartArmed := rfl
@[simp] theorem State.setUnit_phc (s : State) (x : Option Nat) : (s.setUnit x).phc = s.phc := rfl
@[simp] theorem State.setUnit_srx (s : State) (x : Option Nat) : (s.setUnit x).srx = s.srx := rfl
@[simp] theorem State.setUnit_fbl (s : State) (x : Option Nat) : (s.setUnit x).fbl = s.fbl := rfl
@[simp] theorem State.setUnit_hlu (s : State) (x : Option Nat) : (s.setUnit x).hlu = s.hlu := rfl
@[simp] theorem State.setUnit_crg (s : State) (x : Option Nat) : (s.setUnit x).crg = s.crg := rfl
@[simp] theorem State.setUnit_zmn (s : State) (x : Option Nat) : (s.setUnit x).zmn = s.zmn := rfl
@[simp] theorem State.setUnit_asc (s : State) (x : Option Nat) : (s.setUnit x).asc = s.asc := rfl
@[simp] theorem State.setUnit_ctc (s : State) (x : Option Nat) : (s.setUnit x).ctc = s.ctc := rfl
@[simp] theorem State.setUnit_clc (s : State) (x : Option Nat) : (s.setUnit x).clc = s.clc := rfl
@[simp] theorem State.setUnit_lpc (s : State) (x : Option Nat) : (s.setUnit x).lpc = s.lpc := rfl
@[simp] theorem State.setUnit_evq (s : State) (x : Option Nat) : (s.setUnit x).evq = s.evq := rfl
@[simp] theorem State.setUnit_cmi (s : State) (x : Option Nat) : (s.setUnit x).cmi = s.cmi := rfl
@[simp] theorem State.setUnit_tbs (s : State) (x : Option Nat) : (s.setUnit x).tbs = s.tbs := rfl
@[simp] theorem State.setUnit_fresh (s : State) (x : Option Nat) : (s.setUnit x).fresh = s.fresh := rfl
@[simp] theorem State.setUnit_pending (s : State) (x : Option Nat) : (s.setUnit x).pending = s.pending := rfl
@[simp] theorem State.setUnit_self (s : State) : s.setUnit s.unit = s := rfl
@[simp] theorem State.setUnit_setUnit (s : State) (x y : Option Nat) : (s.setUnit x).setUnit y = s.setUnit y := rfl

@[simp] theorem State.setKeyOn_time (s : State) (x : Bool) : (s.setKeyOn x).time = s.time := rfl
@[simp] theorem State.setKeyOn_resetHeld (s : State) (x : Bool) : (s.setKeyOn x).resetHeld = s.resetHeld := rfl
@[simp] theorem State.setKeyOn_unit (s : State) (x : Bool) : (s.setKeyOn x).unit = s.unit := rfl
@[simp] theorem State.setKeyOn_keyOn (s : State) (x : Bool) : (s.setKeyOn x).keyOn = x := rfl
@[simp] theorem State.setKeyOn_restartArmed (s : State) (x : Bool) : (s.setKeyOn x).restartArmed = s.restartArmed := rfl
@[simp] theorem State.setKeyOn_phc (s : State) (x : Bool) : (s.setKeyOn x).phc = s.phc := rfl
@[simp] theorem State.setKeyOn_srx (s : State) (x : Bool) : (s.setKeyOn x).srx = s.srx := rfl
@[simp] theorem State.setKeyOn_fbl (s : State) (x : Bool) : (s.setKeyOn x).fbl = s.fbl := rfl
@[simp] theorem State.setKeyOn_hlu (s : State) (x : Bool) : (s.setKeyOn x).hlu = s.hlu := rfl
@[simp] theorem State.setKeyOn_crg (s : State) (x : Bool) : (s.setKeyOn x).crg = s.crg := rfl
@[simp] theorem State.setKeyOn_zmn (s : State) (x : Bool) : (s.setKeyOn x).zmn = s.zmn := rfl
@[simp] theorem State.setKeyOn_asc (s : State) (x : Bool) : (s.setKeyOn x).asc = s.asc := rfl
@[simp] theorem State.setKeyOn_ctc (s : State) (x : Bool) : (s.setKeyOn x).ctc = s.ctc := rfl
@[simp] theorem State.setKeyOn_clc (s : State) (x : Bool) : (s.setKeyOn x).clc = s.clc := rfl
@[simp] theorem State.setKeyOn_lpc (s : State) (x : Bool) : (s.setKeyOn x).lpc = s.lpc := rfl
@[simp] theorem State.setKeyOn_evq (s : State) (x : Bool) : (s.setKeyOn x).evq = s.evq := rfl
@[simp] theorem State.setKeyOn_cmi (s : State) (x : Bool) : (s.setKeyOn x).cmi = s.cmi := rfl
@[simp] theorem State.setKeyOn_tbs (s : State) (x : Bool) : (s.setKeyOn x).tbs = s.tbs := rfl
@[simp] theorem State.setKeyOn_fresh (s : State) (x : Bool) : (s.setKeyOn x).fresh = s.fresh := rfl
@[simp] theorem State.setKeyOn_pending (s : State) (x : Bool) : (s.setKeyOn x).pending = s.pending := rfl
@[simp] theorem State.setKeyOn_self (s : State) : s.setKeyOn s.keyOn = s := rfl
@[simp] theorem State.setKeyOn_setKeyOn (s : State) (x y : Bool) : (s.setKeyOn x).setKeyOn y = s.setKeyOn y := rfl

@[simp] theorem State.setRestartArmed_time (s : State) (x : Bool) : (s.setRestartArmed x).time = s.time := rfl
@[simp] theorem State.setRestartArmed_resetHeld (s : State) (x : Bool) : (s.setRestartArmed x).resetHeld = s.resetHeld := rfl
@[simp] theorem State.setRestartArmed_unit (s : State) (x : Bool) : (s.setRestartArmed x).unit = s.unit := rfl
@[simp] theorem State.setRestartArmed_keyOn (s : State) (x : Bool) : (s.setRestartArmed x).keyOn = s.keyOn := rfl
@[simp] theorem State.setRestartArmed_restartArmed (s : State) (x : Bool) : (s.setRestartArmed x).restartArmed = x := rfl
@[simp] theorem State.setRestartArmed_phc (s : State) (x : Bool) : (s.setRestartArmed x).phc = s.phc := rfl
@[simp] theorem State.setRestartArmed_srx (s : State) (x : Bool) : (s.setRestartArmed x).srx = s.srx := rfl
@[simp] theorem State.setRestartArmed_fbl (s : State) (x : Bool) : (s.setRestartArmed x).fbl = s.fbl := rfl
@[simp] theorem State.setRestartArmed_hlu (s : State) (x : Bool) : (s.setRestartArmed x).hlu = s.hlu := rfl
@[simp] theorem State.setRestartArmed_crg (s : State) (x : Bool) : (s.setRestartArmed x).crg = s.crg := rfl
@[simp] theorem State.setRestartArmed_zmn (s : State) (x : Bool) : (s.setRestartArmed x).zmn = s.zmn := rfl
@[simp] theorem State.setRestartArmed_asc (s : State) (x : Bool) : (s.setRestartArmed x).asc = s.asc := rfl
@[simp] theorem State.setRestartArmed_ctc (s : State) (x : Bool) : (s.setRestartArmed x).ctc = s.ctc := rfl
@[simp] theorem State.setRestartArmed_clc (s : State) (x : Bool) : (s.setRestartArmed x).clc = s.clc := rfl
@[simp] theorem State.setRestartArmed_lpc (s : State) (x : Bool) : (s.setRestartArmed x).lpc = s.lpc := rfl
@[simp] theorem State.setRestartArmed_evq (s : State) (x : Bool) : (s.setRestartArmed x).evq = s.evq := rfl
@[simp] theorem State.setRestartArmed_cmi (s : State) (x : Bool) : (s.setRestartArmed x).cmi = s.cmi := rfl
@[simp] theorem State.setRestartArmed_tbs (s : State) (x : Bool) : (s.setRestartArmed x).tbs = s.tbs := rfl
@[simp] theorem State.setRestartArmed_fresh (s : State) (x : Bool) : (s.setRestartArmed x).fresh = s.fresh := rfl
@[simp] theorem State.setRestartArmed_pending (s : State) (x : Bool) : (s.setRestartArmed x).pending = s.pending := rfl
@[simp] theorem State.setRestartArmed_self (s : State) : s.setRestartArmed s.restartArmed = s := rfl
@[simp] theorem State.setRestartArmed_setRestartArmed (s : State) (x y : Bool) : (s.setRestartArmed x).setRestartArmed y = s.setRestartArmed y := rfl

@[simp] theorem State.setPhc_time (s : State) (x : ShowRecord) : (s.setPhc x).time = s.time := rfl
@[simp] theorem State.setPhc_resetHeld (s : State) (x : ShowRecord) : (s.setPhc x).resetHeld = s.resetHeld := rfl
@[simp] theorem State.setPhc_unit (s : State) (x : ShowRecord) : (s.setPhc x).unit = s.unit := rfl
@[simp] theorem State.setPhc_keyOn (s : State) (x : ShowRecord) : (s.setPhc x).keyOn = s.keyOn := rfl
@[simp] theorem State.setPhc_restartArmed (s : State) (x : ShowRecord) : (s.setPhc x).restartArmed = s.restartArmed := rfl
@[simp] theorem State.setPhc_phc (s : State) (x : ShowRecord) : (s.setPhc x).phc = x := rfl
@[simp] theorem State.setPhc_srx (s : State) (x : ShowRecord) : (s.setPhc x).srx = s.srx := rfl
@[simp] theorem State.setPhc_fbl (s : State) (x : ShowRecord) : (s.setPhc x).fbl = s.fbl := rfl
@[simp] theorem State.setPhc_hlu (s : State) (x : ShowRecord) : (s.setPhc x).hlu = s.hlu := rfl
@[simp] theorem State.setPhc_crg (s : State) (x : ShowRecord) : (s.setPhc x).crg = s.crg := rfl
@[simp] theorem State.setPhc_zmn (s : State) (x : ShowRecord) : (s.setPhc x).zmn = s.zmn := rfl
@[simp] theorem State.setPhc_asc (s : State) (x : ShowRecord) : (s.setPhc x).asc = s.asc := rfl
@[simp] theorem State.setPhc_ctc (s : State) (x : ShowRecord) : (s.setPhc x).ctc = s.ctc := rfl
@[simp] theorem State.setPhc_clc (s : State) (x : ShowRecord) : (s.setPhc x).clc = s.clc := rfl
@[simp] theorem State.setPhc_lpc (s : State) (x : ShowRecord) : (s.setPhc x).lpc = s.lpc := rfl
@[simp] theorem State.setPhc_evq (s : State) (x : ShowRecord) : (s.setPhc x).evq = s.evq := rfl
@[simp] theorem State.setPhc_cmi (s : State) (x : ShowRecord) : (s.setPhc x).cmi = s.cmi := rfl
@[simp] theorem State.setPhc_tbs (s : State) (x : ShowRecord) : (s.setPhc x).tbs = s.tbs := rfl
@[simp] theorem State.setPhc_fresh (s : State) (x : ShowRecord) : (s.setPhc x).fresh = s.fresh := rfl
@[simp] theorem State.setPhc_pending (s : State) (x : ShowRecord) : (s.setPhc x).pending = s.pending := rfl
@[simp] theorem State.setPhc_self (s : State) : s.setPhc s.phc = s := rfl
@[simp] theorem State.setPhc_setPhc (s : State) (x y : ShowRecord) : (s.setPhc x).setPhc y = s.setPhc y := rfl

@[simp] theorem State.setSrx_time (s : State) (x : Stream) : (s.setSrx x).time = s.time := rfl
@[simp] theorem State.setSrx_resetHeld (s : State) (x : Stream) : (s.setSrx x).resetHeld = s.resetHeld := rfl
@[simp] theorem State.setSrx_unit (s : State) (x : Stream) : (s.setSrx x).unit = s.unit := rfl
@[simp] theorem State.setSrx_keyOn (s : State) (x : Stream) : (s.setSrx x).keyOn = s.keyOn := rfl
@[simp] theorem State.setSrx_restartArmed (s : State) (x : Stream) : (s.setSrx x).restartArmed = s.restartArmed := rfl
@[simp] theorem State.setSrx_phc (s : State) (x : Stream) : (s.setSrx x).phc = s.phc := rfl
@[simp] theorem State.setSrx_srx (s : State) (x : Stream) : (s.setSrx x).srx = x := rfl
@[simp] theorem State.setSrx_fbl (s : State) (x : Stream) : (s.setSrx x).fbl = s.fbl := rfl
@[simp] theorem State.setSrx_hlu (s : State) (x : Stream) : (s.setSrx x).hlu = s.hlu := rfl
@[simp] theorem State.setSrx_crg (s : State) (x : Stream) : (s.setSrx x).crg = s.crg := rfl
@[simp] theorem State.setSrx_zmn (s : State) (x : Stream) : (s.setSrx x).zmn = s.zmn := rfl
@[simp] theorem State.setSrx_asc (s : State) (x : Stream) : (s.setSrx x).asc = s.asc := rfl
@[simp] theorem State.setSrx_ctc (s : State) (x : Stream) : (s.setSrx x).ctc = s.ctc := rfl
@[simp] theorem State.setSrx_clc (s : State) (x : Stream) : (s.setSrx x).clc = s.clc := rfl
@[simp] theorem State.setSrx_lpc (s : State) (x : Stream) : (s.setSrx x).lpc = s.lpc := rfl
@[simp] theorem State.setSrx_evq (s : State) (x : Stream) : (s.setSrx x).evq = s.evq := rfl
@[simp] theorem State.setSrx_cmi (s : State) (x : Stream) : (s.setSrx x).cmi = s.cmi := rfl
@[simp] theorem State.setSrx_tbs (s : State) (x : Stream) : (s.setSrx x).tbs = s.tbs := rfl
@[simp] theorem State.setSrx_fresh (s : State) (x : Stream) : (s.setSrx x).fresh = s.fresh := rfl
@[simp] theorem State.setSrx_pending (s : State) (x : Stream) : (s.setSrx x).pending = s.pending := rfl
@[simp] theorem State.setSrx_self (s : State) : s.setSrx s.srx = s := rfl
@[simp] theorem State.setSrx_setSrx (s : State) (x y : Stream) : (s.setSrx x).setSrx y = s.setSrx y := rfl

@[simp] theorem State.setFbl_time (s : State) (x : Builder) : (s.setFbl x).time = s.time := rfl
@[simp] theorem State.setFbl_resetHeld (s : State) (x : Builder) : (s.setFbl x).resetHeld = s.resetHeld := rfl
@[simp] theorem State.setFbl_unit (s : State) (x : Builder) : (s.setFbl x).unit = s.unit := rfl
@[simp] theorem State.setFbl_keyOn (s : State) (x : Builder) : (s.setFbl x).keyOn = s.keyOn := rfl
@[simp] theorem State.setFbl_restartArmed (s : State) (x : Builder) : (s.setFbl x).restartArmed = s.restartArmed := rfl
@[simp] theorem State.setFbl_phc (s : State) (x : Builder) : (s.setFbl x).phc = s.phc := rfl
@[simp] theorem State.setFbl_srx (s : State) (x : Builder) : (s.setFbl x).srx = s.srx := rfl
@[simp] theorem State.setFbl_fbl (s : State) (x : Builder) : (s.setFbl x).fbl = x := rfl
@[simp] theorem State.setFbl_hlu (s : State) (x : Builder) : (s.setFbl x).hlu = s.hlu := rfl
@[simp] theorem State.setFbl_crg (s : State) (x : Builder) : (s.setFbl x).crg = s.crg := rfl
@[simp] theorem State.setFbl_zmn (s : State) (x : Builder) : (s.setFbl x).zmn = s.zmn := rfl
@[simp] theorem State.setFbl_asc (s : State) (x : Builder) : (s.setFbl x).asc = s.asc := rfl
@[simp] theorem State.setFbl_ctc (s : State) (x : Builder) : (s.setFbl x).ctc = s.ctc := rfl
@[simp] theorem State.setFbl_clc (s : State) (x : Builder) : (s.setFbl x).clc = s.clc := rfl
@[simp] theorem State.setFbl_lpc (s : State) (x : Builder) : (s.setFbl x).lpc = s.lpc := rfl
@[simp] theorem State.setFbl_evq (s : State) (x : Builder) : (s.setFbl x).evq = s.evq := rfl
@[simp] theorem State.setFbl_cmi (s : State) (x : Builder) : (s.setFbl x).cmi = s.cmi := rfl
@[simp] theorem State.setFbl_tbs (s : State) (x : Builder) : (s.setFbl x).tbs = s.tbs := rfl
@[simp] theorem State.setFbl_fresh (s : State) (x : Builder) : (s.setFbl x).fresh = s.fresh := rfl
@[simp] theorem State.setFbl_pending (s : State) (x : Builder) : (s.setFbl x).pending = s.pending := rfl
@[simp] theorem State.setFbl_self (s : State) : s.setFbl s.fbl = s := rfl
@[simp] theorem State.setFbl_setFbl (s : State) (x y : Builder) : (s.setFbl x).setFbl y = s.setFbl y := rfl

@[simp] theorem State.setHlu_time (s : State) (x : House) : (s.setHlu x).time = s.time := rfl
@[simp] theorem State.setHlu_resetHeld (s : State) (x : House) : (s.setHlu x).resetHeld = s.resetHeld := rfl
@[simp] theorem State.setHlu_unit (s : State) (x : House) : (s.setHlu x).unit = s.unit := rfl
@[simp] theorem State.setHlu_keyOn (s : State) (x : House) : (s.setHlu x).keyOn = s.keyOn := rfl
@[simp] theorem State.setHlu_restartArmed (s : State) (x : House) : (s.setHlu x).restartArmed = s.restartArmed := rfl
@[simp] theorem State.setHlu_phc (s : State) (x : House) : (s.setHlu x).phc = s.phc := rfl
@[simp] theorem State.setHlu_srx (s : State) (x : House) : (s.setHlu x).srx = s.srx := rfl
@[simp] theorem State.setHlu_fbl (s : State) (x : House) : (s.setHlu x).fbl = s.fbl := rfl
@[simp] theorem State.setHlu_hlu (s : State) (x : House) : (s.setHlu x).hlu = x := rfl
@[simp] theorem State.setHlu_crg (s : State) (x : House) : (s.setHlu x).crg = s.crg := rfl
@[simp] theorem State.setHlu_zmn (s : State) (x : House) : (s.setHlu x).zmn = s.zmn := rfl
@[simp] theorem State.setHlu_asc (s : State) (x : House) : (s.setHlu x).asc = s.asc := rfl
@[simp] theorem State.setHlu_ctc (s : State) (x : House) : (s.setHlu x).ctc = s.ctc := rfl
@[simp] theorem State.setHlu_clc (s : State) (x : House) : (s.setHlu x).clc = s.clc := rfl
@[simp] theorem State.setHlu_lpc (s : State) (x : House) : (s.setHlu x).lpc = s.lpc := rfl
@[simp] theorem State.setHlu_evq (s : State) (x : House) : (s.setHlu x).evq = s.evq := rfl
@[simp] theorem State.setHlu_cmi (s : State) (x : House) : (s.setHlu x).cmi = s.cmi := rfl
@[simp] theorem State.setHlu_tbs (s : State) (x : House) : (s.setHlu x).tbs = s.tbs := rfl
@[simp] theorem State.setHlu_fresh (s : State) (x : House) : (s.setHlu x).fresh = s.fresh := rfl
@[simp] theorem State.setHlu_pending (s : State) (x : House) : (s.setHlu x).pending = s.pending := rfl
@[simp] theorem State.setHlu_self (s : State) : s.setHlu s.hlu = s := rfl
@[simp] theorem State.setHlu_setHlu (s : State) (x y : House) : (s.setHlu x).setHlu y = s.setHlu y := rfl

@[simp] theorem State.setCrg_time (s : State) (x : Debounce) : (s.setCrg x).time = s.time := rfl
@[simp] theorem State.setCrg_resetHeld (s : State) (x : Debounce) : (s.setCrg x).resetHeld = s.resetHeld := rfl
@[simp] theorem State.setCrg_unit (s : State) (x : Debounce) : (s.setCrg x).unit = s.unit := rfl
@[simp] theorem State.setCrg_keyOn (s : State) (x : Debounce) : (s.setCrg x).keyOn = s.keyOn := rfl
@[simp] theorem State.setCrg_restartArmed (s : State) (x : Debounce) : (s.setCrg x).restartArmed = s.restartArmed := rfl
@[simp] theorem State.setCrg_phc (s : State) (x : Debounce) : (s.setCrg x).phc = s.phc := rfl
@[simp] theorem State.setCrg_srx (s : State) (x : Debounce) : (s.setCrg x).srx = s.srx := rfl
@[simp] theorem State.setCrg_fbl (s : State) (x : Debounce) : (s.setCrg x).fbl = s.fbl := rfl
@[simp] theorem State.setCrg_hlu (s : State) (x : Debounce) : (s.setCrg x).hlu = s.hlu := rfl
@[simp] theorem State.setCrg_crg (s : State) (x : Debounce) : (s.setCrg x).crg = x := rfl
@[simp] theorem State.setCrg_zmn (s : State) (x : Debounce) : (s.setCrg x).zmn = s.zmn := rfl
@[simp] theorem State.setCrg_asc (s : State) (x : Debounce) : (s.setCrg x).asc = s.asc := rfl
@[simp] theorem State.setCrg_ctc (s : State) (x : Debounce) : (s.setCrg x).ctc = s.ctc := rfl
@[simp] theorem State.setCrg_clc (s : State) (x : Debounce) : (s.setCrg x).clc = s.clc := rfl
@[simp] theorem State.setCrg_lpc (s : State) (x : Debounce) : (s.setCrg x).lpc = s.lpc := rfl
@[simp] theorem State.setCrg_evq (s : State) (x : Debounce) : (s.setCrg x).evq = s.evq := rfl
@[simp] theorem State.setCrg_cmi (s : State) (x : Debounce) : (s.setCrg x).cmi = s.cmi := rfl
@[simp] theorem State.setCrg_tbs (s : State) (x : Debounce) : (s.setCrg x).tbs = s.tbs := rfl
@[simp] theorem State.setCrg_fresh (s : State) (x : Debounce) : (s.setCrg x).fresh = s.fresh := rfl
@[simp] theorem State.setCrg_pending (s : State) (x : Debounce) : (s.setCrg x).pending = s.pending := rfl
@[simp] theorem State.setCrg_self (s : State) : s.setCrg s.crg = s := rfl
@[simp] theorem State.setCrg_setCrg (s : State) (x y : Debounce) : (s.setCrg x).setCrg y = s.setCrg y := rfl

@[simp] theorem State.setZmn_time (s : State) (x : Zones) : (s.setZmn x).time = s.time := rfl
@[simp] theorem State.setZmn_resetHeld (s : State) (x : Zones) : (s.setZmn x).resetHeld = s.resetHeld := rfl
@[simp] theorem State.setZmn_unit (s : State) (x : Zones) : (s.setZmn x).unit = s.unit := rfl
@[simp] theorem State.setZmn_keyOn (s : State) (x : Zones) : (s.setZmn x).keyOn = s.keyOn := rfl
@[simp] theorem State.setZmn_restartArmed (s : State) (x : Zones) : (s.setZmn x).restartArmed = s.restartArmed := rfl
@[simp] theorem State.setZmn_phc (s : State) (x : Zones) : (s.setZmn x).phc = s.phc := rfl
@[simp] theorem State.setZmn_srx (s : State) (x : Zones) : (s.setZmn x).srx = s.srx := rfl
@[simp] theorem State.setZmn_fbl (s : State) (x : Zones) : (s.setZmn x).fbl = s.fbl := rfl
@[simp] theorem State.setZmn_hlu (s : State) (x : Zones) : (s.setZmn x).hlu = s.hlu := rfl
@[simp] theorem State.setZmn_crg (s : State) (x : Zones) : (s.setZmn x).crg = s.crg := rfl
@[simp] theorem State.setZmn_zmn (s : State) (x : Zones) : (s.setZmn x).zmn = x := rfl
@[simp] theorem State.setZmn_asc (s : State) (x : Zones) : (s.setZmn x).asc = s.asc := rfl
@[simp] theorem State.setZmn_ctc (s : State) (x : Zones) : (s.setZmn x).ctc = s.ctc := rfl
@[simp] theorem State.setZmn_clc (s : State) (x : Zones) : (s.setZmn x).clc = s.clc := rfl
@[simp] theorem State.setZmn_lpc (s : State) (x : Zones) : (s.setZmn x).lpc = s.lpc := rfl
@[simp] theorem State.setZmn_evq (s : State) (x : Zones) : (s.setZmn x).evq = s.evq := rfl
@[simp] theorem State.setZmn_cmi (s : State) (x : Zones) : (s.setZmn x).cmi = s.cmi := rfl
@[simp] theorem State.setZmn_tbs (s : State) (x : Zones) : (s.setZmn x).tbs = s.tbs := rfl
@[simp] theorem State.setZmn_fresh (s : State) (x : Zones) : (s.setZmn x).fresh = s.fresh := rfl
@[simp] theorem State.setZmn_pending (s : State) (x : Zones) : (s.setZmn x).pending = s.pending := rfl
@[simp] theorem State.setZmn_self (s : State) : s.setZmn s.zmn = s := rfl
@[simp] theorem State.setZmn_setZmn (s : State) (x y : Zones) : (s.setZmn x).setZmn y = s.setZmn y := rfl

@[simp] theorem State.setAsc_time (s : State) (x : Alarm) : (s.setAsc x).time = s.time := rfl
@[simp] theorem State.setAsc_resetHeld (s : State) (x : Alarm) : (s.setAsc x).resetHeld = s.resetHeld := rfl
@[simp] theorem State.setAsc_unit (s : State) (x : Alarm) : (s.setAsc x).unit = s.unit := rfl
@[simp] theorem State.setAsc_keyOn (s : State) (x : Alarm) : (s.setAsc x).keyOn = s.keyOn := rfl
@[simp] theorem State.setAsc_restartArmed (s : State) (x : Alarm) : (s.setAsc x).restartArmed = s.restartArmed := rfl
@[simp] theorem State.setAsc_phc (s : State) (x : Alarm) : (s.setAsc x).phc = s.phc := rfl
@[simp] theorem State.setAsc_srx (s : State) (x : Alarm) : (s.setAsc x).srx = s.srx := rfl
@[simp] theorem State.setAsc_fbl (s : State) (x : Alarm) : (s.setAsc x).fbl = s.fbl := rfl
@[simp] theorem State.setAsc_hlu (s : State) (x : Alarm) : (s.setAsc x).hlu = s.hlu := rfl
@[simp] theorem State.setAsc_crg (s : State) (x : Alarm) : (s.setAsc x).crg = s.crg := rfl
@[simp] theorem State.setAsc_zmn (s : State) (x : Alarm) : (s.setAsc x).zmn = s.zmn := rfl
@[simp] theorem State.setAsc_asc (s : State) (x : Alarm) : (s.setAsc x).asc = x := rfl
@[simp] theorem State.setAsc_ctc (s : State) (x : Alarm) : (s.setAsc x).ctc = s.ctc := rfl
@[simp] theorem State.setAsc_clc (s : State) (x : Alarm) : (s.setAsc x).clc = s.clc := rfl
@[simp] theorem State.setAsc_lpc (s : State) (x : Alarm) : (s.setAsc x).lpc = s.lpc := rfl
@[simp] theorem State.setAsc_evq (s : State) (x : Alarm) : (s.setAsc x).evq = s.evq := rfl
@[simp] theorem State.setAsc_cmi (s : State) (x : Alarm) : (s.setAsc x).cmi = s.cmi := rfl
@[simp] theorem State.setAsc_tbs (s : State) (x : Alarm) : (s.setAsc x).tbs = s.tbs := rfl
@[simp] theorem State.setAsc_fresh (s : State) (x : Alarm) : (s.setAsc x).fresh = s.fresh := rfl
@[simp] theorem State.setAsc_pending (s : State) (x : Alarm) : (s.setAsc x).pending = s.pending := rfl
@[simp] theorem State.setAsc_self (s : State) : s.setAsc s.asc = s := rfl
@[simp] theorem State.setAsc_setAsc (s : State) (x y : Alarm) : (s.setAsc x).setAsc y = s.setAsc y := rfl

@[simp] theorem State.setCtc_time (s : State) (x : Curtains) : (s.setCtc x).time = s.time := rfl
@[simp] theorem State.setCtc_resetHeld (s : State) (x : Curtains) : (s.setCtc x).resetHeld = s.resetHeld := rfl
@[simp] theorem State.setCtc_unit (s : State) (x : Curtains) : (s.setCtc x).unit = s.unit := rfl
@[simp] theorem State.setCtc_keyOn (s : State) (x : Curtains) : (s.setCtc x).keyOn = s.keyOn := rfl
@[simp] theorem State.setCtc_restartArmed (s : State) (x : Curtains) : (s.setCtc x).restartArmed = s.restartArmed := rfl
@[simp] theorem State.setCtc_phc (s : State) (x : Curtains) : (s.setCtc x).phc = s.phc := rfl
@[simp] theorem State.setCtc_srx (s : State) (x : Curtains) : (s.setCtc x).srx = s.srx := rfl
@[simp] theorem State.setCtc_fbl (s : State) (x : Curtains) : (s.setCtc x).fbl = s.fbl := rfl
@[simp] theorem State.setCtc_hlu (s : State) (x : Curtains) : (s.setCtc x).hlu = s.hlu := rfl
@[simp] theorem State.setCtc_crg (s : State) (x : Curtains) : (s.setCtc x).crg = s.crg := rfl
@[simp] theorem State.setCtc_zmn (s : State) (x : Curtains) : (s.setCtc x).zmn = s.zmn := rfl
@[simp] theorem State.setCtc_asc (s : State) (x : Curtains) : (s.setCtc x).asc = s.asc := rfl
@[simp] theorem State.setCtc_ctc (s : State) (x : Curtains) : (s.setCtc x).ctc = x := rfl
@[simp] theorem State.setCtc_clc (s : State) (x : Curtains) : (s.setCtc x).clc = s.clc := rfl
@[simp] theorem State.setCtc_lpc (s : State) (x : Curtains) : (s.setCtc x).lpc = s.lpc := rfl
@[simp] theorem State.setCtc_evq (s : State) (x : Curtains) : (s.setCtc x).evq = s.evq := rfl
@[simp] theorem State.setCtc_cmi (s : State) (x : Curtains) : (s.setCtc x).cmi = s.cmi := rfl
@[simp] theorem State.setCtc_tbs (s : State) (x : Curtains) : (s.setCtc x).tbs = s.tbs := rfl
@[simp] theorem State.setCtc_fresh (s : State) (x : Curtains) : (s.setCtc x).fresh = s.fresh := rfl
@[simp] theorem State.setCtc_pending (s : State) (x : Curtains) : (s.setCtc x).pending = s.pending := rfl
@[simp] theorem State.setCtc_self (s : State) : s.setCtc s.ctc = s := rfl
@[simp] theorem State.setCtc_setCtc (s : State) (x y : Curtains) : (s.setCtc x).setCtc y = s.setCtc y := rfl

@[simp] theorem State.setClc_time (s : State) (x : Calls) : (s.setClc x).time = s.time := rfl
@[simp] theorem State.setClc_resetHeld (s : State) (x : Calls) : (s.setClc x).resetHeld = s.resetHeld := rfl
@[simp] theorem State.setClc_unit (s : State) (x : Calls) : (s.setClc x).unit = s.unit := rfl
@[simp] theorem State.setClc_keyOn (s : State) (x : Calls) : (s.setClc x).keyOn = s.keyOn := rfl
@[simp] theorem State.setClc_restartArmed (s : State) (x : Calls) : (s.setClc x).restartArmed = s.restartArmed := rfl
@[simp] theorem State.setClc_phc (s : State) (x : Calls) : (s.setClc x).phc = s.phc := rfl
@[simp] theorem State.setClc_srx (s : State) (x : Calls) : (s.setClc x).srx = s.srx := rfl
@[simp] theorem State.setClc_fbl (s : State) (x : Calls) : (s.setClc x).fbl = s.fbl := rfl
@[simp] theorem State.setClc_hlu (s : State) (x : Calls) : (s.setClc x).hlu = s.hlu := rfl
@[simp] theorem State.setClc_crg (s : State) (x : Calls) : (s.setClc x).crg = s.crg := rfl
@[simp] theorem State.setClc_zmn (s : State) (x : Calls) : (s.setClc x).zmn = s.zmn := rfl
@[simp] theorem State.setClc_asc (s : State) (x : Calls) : (s.setClc x).asc = s.asc := rfl
@[simp] theorem State.setClc_ctc (s : State) (x : Calls) : (s.setClc x).ctc = s.ctc := rfl
@[simp] theorem State.setClc_clc (s : State) (x : Calls) : (s.setClc x).clc = x := rfl
@[simp] theorem State.setClc_lpc (s : State) (x : Calls) : (s.setClc x).lpc = s.lpc := rfl
@[simp] theorem State.setClc_evq (s : State) (x : Calls) : (s.setClc x).evq = s.evq := rfl
@[simp] theorem State.setClc_cmi (s : State) (x : Calls) : (s.setClc x).cmi = s.cmi := rfl
@[simp] theorem State.setClc_tbs (s : State) (x : Calls) : (s.setClc x).tbs = s.tbs := rfl
@[simp] theorem State.setClc_fresh (s : State) (x : Calls) : (s.setClc x).fresh = s.fresh := rfl
@[simp] theorem State.setClc_pending (s : State) (x : Calls) : (s.setClc x).pending = s.pending := rfl
@[simp] theorem State.setClc_self (s : State) : s.setClc s.clc = s := rfl
@[simp] theorem State.setClc_setClc (s : State) (x y : Calls) : (s.setClc x).setClc y = s.setClc y := rfl

@[simp] theorem State.setLpc_time (s : State) (x : Loop) : (s.setLpc x).time = s.time := rfl
@[simp] theorem State.setLpc_resetHeld (s : State) (x : Loop) : (s.setLpc x).resetHeld = s.resetHeld := rfl
@[simp] theorem State.setLpc_unit (s : State) (x : Loop) : (s.setLpc x).unit = s.unit := rfl
@[simp] theorem State.setLpc_keyOn (s : State) (x : Loop) : (s.setLpc x).keyOn = s.keyOn := rfl
@[simp] theorem State.setLpc_restartArmed (s : State) (x : Loop) : (s.setLpc x).restartArmed = s.restartArmed := rfl
@[simp] theorem State.setLpc_phc (s : State) (x : Loop) : (s.setLpc x).phc = s.phc := rfl
@[simp] theorem State.setLpc_srx (s : State) (x : Loop) : (s.setLpc x).srx = s.srx := rfl
@[simp] theorem State.setLpc_fbl (s : State) (x : Loop) : (s.setLpc x).fbl = s.fbl := rfl
@[simp] theorem State.setLpc_hlu (s : State) (x : Loop) : (s.setLpc x).hlu = s.hlu := rfl
@[simp] theorem State.setLpc_crg (s : State) (x : Loop) : (s.setLpc x).crg = s.crg := rfl
@[simp] theorem State.setLpc_zmn (s : State) (x : Loop) : (s.setLpc x).zmn = s.zmn := rfl
@[simp] theorem State.setLpc_asc (s : State) (x : Loop) : (s.setLpc x).asc = s.asc := rfl
@[simp] theorem State.setLpc_ctc (s : State) (x : Loop) : (s.setLpc x).ctc = s.ctc := rfl
@[simp] theorem State.setLpc_clc (s : State) (x : Loop) : (s.setLpc x).clc = s.clc := rfl
@[simp] theorem State.setLpc_lpc (s : State) (x : Loop) : (s.setLpc x).lpc = x := rfl
@[simp] theorem State.setLpc_evq (s : State) (x : Loop) : (s.setLpc x).evq = s.evq := rfl
@[simp] theorem State.setLpc_cmi (s : State) (x : Loop) : (s.setLpc x).cmi = s.cmi := rfl
@[simp] theorem State.setLpc_tbs (s : State) (x : Loop) : (s.setLpc x).tbs = s.tbs := rfl
@[simp] theorem State.setLpc_fresh (s : State) (x : Loop) : (s.setLpc x).fresh = s.fresh := rfl
@[simp] theorem State.setLpc_pending (s : State) (x : Loop) : (s.setLpc x).pending = s.pending := rfl
@[simp] theorem State.setLpc_self (s : State) : s.setLpc s.lpc = s := rfl
@[simp] theorem State.setLpc_setLpc (s : State) (x y : Loop) : (s.setLpc x).setLpc y = s.setLpc y := rfl

@[simp] theorem State.setEvq_time (s : State) (x : Events) : (s.setEvq x).time = s.time := rfl
@[simp] theorem State.setEvq_resetHeld (s : State) (x : Events) : (s.setEvq x).resetHeld = s.resetHeld := rfl
@[simp] theorem State.setEvq_unit (s : State) (x : Events) : (s.setEvq x).unit = s.unit := rfl
@[simp] theorem State.setEvq_keyOn (s : State) (x : Events) : (s.setEvq x).keyOn = s.keyOn := rfl
@[simp] theorem State.setEvq_restartArmed (s : State) (x : Events) : (s.setEvq x).restartArmed = s.restartArmed := rfl
@[simp] theorem State.setEvq_phc (s : State) (x : Events) : (s.setEvq x).phc = s.phc := rfl
@[simp] theorem State.setEvq_srx (s : State) (x : Events) : (s.setEvq x).srx = s.srx := rfl
@[simp] theorem State.setEvq_fbl (s : State) (x : Events) : (s.setEvq x).fbl = s.fbl := rfl
@[simp] theorem State.setEvq_hlu (s : State) (x : Events) : (s.setEvq x).hlu = s.hlu := rfl
@[simp] theorem State.setEvq_crg (s : State) (x : Events) : (s.setEvq x).crg = s.crg := rfl
@[simp] theorem State.setEvq_zmn (s : State) (x : Events) : (s.setEvq x).zmn = s.zmn := rfl
@[simp] theorem State.setEvq_asc (s : State) (x : Events) : (s.setEvq x).asc = s.asc := rfl
@[simp] theorem State.setEvq_ctc (s : State) (x : Events) : (s.setEvq x).ctc = s.ctc := rfl
@[simp] theorem State.setEvq_clc (s : State) (x : Events) : (s.setEvq x).clc = s.clc := rfl
@[simp] theorem State.setEvq_lpc (s : State) (x : Events) : (s.setEvq x).lpc = s.lpc := rfl
@[simp] theorem State.setEvq_evq (s : State) (x : Events) : (s.setEvq x).evq = x := rfl
@[simp] theorem State.setEvq_cmi (s : State) (x : Events) : (s.setEvq x).cmi = s.cmi := rfl
@[simp] theorem State.setEvq_tbs (s : State) (x : Events) : (s.setEvq x).tbs = s.tbs := rfl
@[simp] theorem State.setEvq_fresh (s : State) (x : Events) : (s.setEvq x).fresh = s.fresh := rfl
@[simp] theorem State.setEvq_pending (s : State) (x : Events) : (s.setEvq x).pending = s.pending := rfl
@[simp] theorem State.setEvq_self (s : State) : s.setEvq s.evq = s := rfl
@[simp] theorem State.setEvq_setEvq (s : State) (x y : Events) : (s.setEvq x).setEvq y = s.setEvq y := rfl

@[simp] theorem State.setCmi_time (s : State) (x : Control) : (s.setCmi x).time = s.time := rfl
@[simp] theorem State.setCmi_resetHeld (s : State) (x : Control) : (s.setCmi x).resetHeld = s.resetHeld := rfl
@[simp] theorem State.setCmi_unit (s : State) (x : Control) : (s.setCmi x).unit = s.unit := rfl
@[simp] theorem State.setCmi_keyOn (s : State) (x : Control) : (s.setCmi x).keyOn = s.keyOn := rfl
@[simp] theorem State.setCmi_restartArmed (s : State) (x : Control) : (s.setCmi x).restartArmed = s.restartArmed := rfl
@[simp] theorem State.setCmi_phc (s : State) (x : Control) : (s.setCmi x).phc = s.phc := rfl
@[simp] theorem State.setCmi_srx (s : State) (x : Control) : (s.setCmi x).srx = s.srx := rfl
@[simp] theorem State.setCmi_fbl (s : State) (x : Control) : (s.setCmi x).fbl = s.fbl := rfl
@[simp] theorem State.setCmi_hlu (s : State) (x : Control) : (s.setCmi x).hlu = s.hlu := rfl
@[simp] theorem State.setCmi_crg (s : State) (x : Control) : (s.setCmi x).crg = s.crg := rfl
@[simp] theorem State.setCmi_zmn (s : State) (x : Control) : (s.setCmi x).zmn = s.zmn := rfl
@[simp] theorem State.setCmi_asc (s : State) (x : Control) : (s.setCmi x).asc = s.asc := rfl
@[simp] theorem State.setCmi_ctc (s : State) (x : Control) : (s.setCmi x).ctc = s.ctc := rfl
@[simp] theorem State.setCmi_clc (s : State) (x : Control) : (s.setCmi x).clc = s.clc := rfl
@[simp] theorem State.setCmi_lpc (s : State) (x : Control) : (s.setCmi x).lpc = s.lpc := rfl
@[simp] theorem State.setCmi_evq (s : State) (x : Control) : (s.setCmi x).evq = s.evq := rfl
@[simp] theorem State.setCmi_cmi (s : State) (x : Control) : (s.setCmi x).cmi = x := rfl
@[simp] theorem State.setCmi_tbs (s : State) (x : Control) : (s.setCmi x).tbs = s.tbs := rfl
@[simp] theorem State.setCmi_fresh (s : State) (x : Control) : (s.setCmi x).fresh = s.fresh := rfl
@[simp] theorem State.setCmi_pending (s : State) (x : Control) : (s.setCmi x).pending = s.pending := rfl
@[simp] theorem State.setCmi_self (s : State) : s.setCmi s.cmi = s := rfl
@[simp] theorem State.setCmi_setCmi (s : State) (x y : Control) : (s.setCmi x).setCmi y = s.setCmi y := rfl

@[simp] theorem State.setTbs_time (s : State) (x : TableStore) : (s.setTbs x).time = s.time := rfl
@[simp] theorem State.setTbs_resetHeld (s : State) (x : TableStore) : (s.setTbs x).resetHeld = s.resetHeld := rfl
@[simp] theorem State.setTbs_unit (s : State) (x : TableStore) : (s.setTbs x).unit = s.unit := rfl
@[simp] theorem State.setTbs_keyOn (s : State) (x : TableStore) : (s.setTbs x).keyOn = s.keyOn := rfl
@[simp] theorem State.setTbs_restartArmed (s : State) (x : TableStore) : (s.setTbs x).restartArmed = s.restartArmed := rfl
@[simp] theorem State.setTbs_phc (s : State) (x : TableStore) : (s.setTbs x).phc = s.phc := rfl
@[simp] theorem State.setTbs_srx (s : State) (x : TableStore) : (s.setTbs x).srx = s.srx := rfl
@[simp] theorem State.setTbs_fbl (s : State) (x : TableStore) : (s.setTbs x).fbl = s.fbl := rfl
@[simp] theorem State.setTbs_hlu (s : State) (x : TableStore) : (s.setTbs x).hlu = s.hlu := rfl
@[simp] theorem State.setTbs_crg (s : State) (x : TableStore) : (s.setTbs x).crg = s.crg := rfl
@[simp] theorem State.setTbs_zmn (s : State) (x : TableStore) : (s.setTbs x).zmn = s.zmn := rfl
@[simp] theorem State.setTbs_asc (s : State) (x : TableStore) : (s.setTbs x).asc = s.asc := rfl
@[simp] theorem State.setTbs_ctc (s : State) (x : TableStore) : (s.setTbs x).ctc = s.ctc := rfl
@[simp] theorem State.setTbs_clc (s : State) (x : TableStore) : (s.setTbs x).clc = s.clc := rfl
@[simp] theorem State.setTbs_lpc (s : State) (x : TableStore) : (s.setTbs x).lpc = s.lpc := rfl
@[simp] theorem State.setTbs_evq (s : State) (x : TableStore) : (s.setTbs x).evq = s.evq := rfl
@[simp] theorem State.setTbs_cmi (s : State) (x : TableStore) : (s.setTbs x).cmi = s.cmi := rfl
@[simp] theorem State.setTbs_tbs (s : State) (x : TableStore) : (s.setTbs x).tbs = x := rfl
@[simp] theorem State.setTbs_fresh (s : State) (x : TableStore) : (s.setTbs x).fresh = s.fresh := rfl
@[simp] theorem State.setTbs_pending (s : State) (x : TableStore) : (s.setTbs x).pending = s.pending := rfl
@[simp] theorem State.setTbs_self (s : State) : s.setTbs s.tbs = s := rfl
@[simp] theorem State.setTbs_setTbs (s : State) (x y : TableStore) : (s.setTbs x).setTbs y = s.setTbs y := rfl

@[simp] theorem State.setFresh_time (s : State) (x : Nat) : (s.setFresh x).time = s.time := rfl
@[simp] theorem State.setFresh_resetHeld (s : State) (x : Nat) : (s.setFresh x).resetHeld = s.resetHeld := rfl
@[simp] theorem State.setFresh_unit (s : State) (x : Nat) : (s.setFresh x).unit = s.unit := rfl
@[simp] theorem State.setFresh_keyOn (s : State) (x : Nat) : (s.setFresh x).keyOn = s.keyOn := rfl
@[simp] theorem State.setFresh_restartArmed (s : State) (x : Nat) : (s.setFresh x).restartArmed = s.restartArmed := rfl
@[simp] theorem State.setFresh_phc (s : State) (x : Nat) : (s.setFresh x).phc = s.phc := rfl
@[simp] theorem State.setFresh_srx (s : State) (x : Nat) : (s.setFresh x).srx = s.srx := rfl
@[simp] theorem State.setFresh_fbl (s : State) (x : Nat) : (s.setFresh x).fbl = s.fbl := rfl
@[simp] theorem State.setFresh_hlu (s : State) (x : Nat) : (s.setFresh x).hlu = s.hlu := rfl
@[simp] theorem State.setFresh_crg (s : State) (x : Nat) : (s.setFresh x).crg = s.crg := rfl
@[simp] theorem State.setFresh_zmn (s : State) (x : Nat) : (s.setFresh x).zmn = s.zmn := rfl
@[simp] theorem State.setFresh_asc (s : State) (x : Nat) : (s.setFresh x).asc = s.asc := rfl
@[simp] theorem State.setFresh_ctc (s : State) (x : Nat) : (s.setFresh x).ctc = s.ctc := rfl
@[simp] theorem State.setFresh_clc (s : State) (x : Nat) : (s.setFresh x).clc = s.clc := rfl
@[simp] theorem State.setFresh_lpc (s : State) (x : Nat) : (s.setFresh x).lpc = s.lpc := rfl
@[simp] theorem State.setFresh_evq (s : State) (x : Nat) : (s.setFresh x).evq = s.evq := rfl
@[simp] theorem State.setFresh_cmi (s : State) (x : Nat) : (s.setFresh x).cmi = s.cmi := rfl
@[simp] theorem State.setFresh_tbs (s : State) (x : Nat) : (s.setFresh x).tbs = s.tbs := rfl
@[simp] theorem State.setFresh_fresh (s : State) (x : Nat) : (s.setFresh x).fresh = x := rfl
@[simp] theorem State.setFresh_pending (s : State) (x : Nat) : (s.setFresh x).pending = s.pending := rfl
@[simp] theorem State.setFresh_self (s : State) : s.setFresh s.fresh = s := rfl
@[simp] theorem State.setFresh_setFresh (s : State) (x y : Nat) : (s.setFresh x).setFresh y = s.setFresh y := rfl

@[simp] theorem State.setPending_time (s : State) (x : List Instr) : (s.setPending x).time = s.time := rfl
@[simp] theorem State.setPending_resetHeld (s : State) (x : List Instr) : (s.setPending x).resetHeld = s.resetHeld := rfl
@[simp] theorem State.setPending_unit (s : State) (x : List Instr) : (s.setPending x).unit = s.unit := rfl
@[simp] theorem State.setPending_keyOn (s : State) (x : List Instr) : (s.setPending x).keyOn = s.keyOn := rfl
@[simp] theorem State.setPending_restartArmed (s : State) (x : List Instr) : (s.setPending x).restartArmed = s.restartArmed := rfl
@[simp] theorem State.setPending_phc (s : State) (x : List Instr) : (s.setPending x).phc = s.phc := rfl
@[simp] theorem State.setPending_srx (s : State) (x : List Instr) : (s.setPending x).srx = s.srx := rfl
@[simp] theorem State.setPending_fbl (s : State) (x : List Instr) : (s.setPending x).fbl = s.fbl := rfl
@[simp] theorem State.setPending_hlu (s : State) (x : List Instr) : (s.setPending x).hlu = s.hlu := rfl
@[simp] theorem State.setPending_crg (s : State) (x : List Instr) : (s.setPending x).crg = s.crg := rfl
@[simp] theorem State.setPending_zmn (s : State) (x : List Instr) : (s.setPending x).zmn = s.zmn := rfl
@[simp] theorem State.setPending_asc (s : State) (x : List Instr) : (s.setPending x).asc = s.asc := rfl
@[simp] theorem State.setPending_ctc (s : State) (x : List Instr) : (s.setPending x).ctc = s.ctc := rfl
@[simp] theorem State.setPending_clc (s : State) (x : List Instr) : (s.setPending x).clc = s.clc := rfl
@[simp] theorem State.setPending_lpc (s : State) (x : List Instr) : (s.setPending x).lpc = s.lpc := rfl
@[simp] theorem State.setPending_evq (s : State) (x : List Instr) : (s.setPending x).evq = s.evq := rfl
@[simp] theorem State.setPending_cmi (s : State) (x : List Instr) : (s.setPending x).cmi = s.cmi := rfl
@[simp] theorem State.setPending_tbs (s : State) (x : List Instr) : (s.setPending x).tbs = s.tbs := rfl
@[simp] theorem State.setPending_fresh (s : State) (x : List Instr) : (s.setPending x).fresh = s.fresh := rfl
@[simp] theorem State.setPending_pending (s : State) (x : List Instr) : (s.setPending x).pending = x := rfl
@[simp] theorem State.setPending_self (s : State) : s.setPending s.pending = s := rfl
@[simp] theorem State.setPending_setPending (s : State) (x y : List Instr) : (s.setPending x).setPending y = s.setPending y := rfl

end Sys2Proof.Machine
end

