-- ==== Sys2Proof/Laws/Ops.lean ====
section
/-! SUPPORT. What the shared operations can do: the evaluation of ATTENTION, the posting of an event, the
setting of a sticky flag and the hand-over of a command to LPC; and the fields that each leaves. -/

namespace Sys2Proof.Machine

/-- An evaluation asserts the line and clears armed, or changes nothing (R195). -/
theorem evaluateAttention_cases (s : State) :
    (s.evq.armed = true ∧ s.evq.gap = none ∧ (∃ r ∈ s.evq.queue, qualifies s.evq.mask r = true) ∧
      evaluateAttention s = s.setEvq { s.evq with line := true, armed := false }) ∨
    (¬ (s.evq.armed = true ∧ s.evq.gap = none ∧ ∃ r ∈ s.evq.queue, qualifies s.evq.mask r = true) ∧
      evaluateAttention s = s) := by
  have h : (s.evq.armed && s.evq.gap.isNone && s.evq.queue.any (qualifies s.evq.mask)) = true ↔
      s.evq.armed = true ∧ s.evq.gap = none ∧ ∃ r ∈ s.evq.queue, qualifies s.evq.mask r = true := by
    simp [and_assoc]
  unfold evaluateAttention
  split
  · exact .inl ⟨(h.mp ‹_›).1, (h.mp ‹_›).2.1, (h.mp ‹_›).2.2, rfl⟩
  · exact .inr ⟨fun x => ‹¬ _› (h.mpr x), rfl⟩

/-- A posting places the record, counts a discard, and may assert the line (R192, R193, R195). -/
theorem postRecord_cases (r : EventRecord) (s : State) :
    ∃ line armed, postRecord r s =
      (s.setEvq { s.evq with queue := (placeEvent s.evq.queue r).1, line := line, armed := armed }).setCmi
        (countDiscard (placeEvent s.evq.queue r).2 s.cmi) := by
  unfold postRecord
  obtain ⟨-, -, -, h⟩ | ⟨-, h⟩ := evaluateAttention_cases
    ((s.setEvq { s.evq with queue := (placeEvent s.evq.queue r).1 }).setCmi
      (countDiscard (placeEvent s.evq.queue r).2 s.cmi))
  · exact ⟨true, false, h⟩
  · exact ⟨s.evq.line, s.evq.armed, h⟩

/-- A placement keeps a queue of at most 32 records at most 32 long (R193). -/
theorem placeEvent_length (q : List EventRecord) (r : EventRecord) (h : q.length ≤ 32) :
    (placeEvent q r).1.length ≤ 32 := by
  unfold placeEvent
  have shrink (p : EventRecord → Bool) (ha : q.any p = true) : (q.eraseP p ++ [r]).length ≤ 32 := by
    obtain ⟨x, hx, hp⟩ := List.any_eq_true.mp ha
    have := List.length_eraseP_of_mem hx hp
    have := List.length_pos_of_mem hx
    simp only [List.length_append, List.length_cons, List.length_nil]
    omega
  split
  · simp only [List.length_append, List.length_cons, List.length_nil]; omega
  · split
    · exact h
    · split
      · exact shrink _ ‹_›
      · split
        · exact shrink _ ‹_›
        · exact h

@[simp] theorem evaluateAttention_time (s : State) : (evaluateAttention s).time = s.time := by
  unfold evaluateAttention; split <;> rfl
@[simp] theorem evaluateAttention_resetHeld (s : State) : (evaluateAttention s).resetHeld = s.resetHeld := by
  unfold evaluateAttention; split <;> rfl
@[simp] theorem evaluateAttention_unit (s : State) : (evaluateAttention s).unit = s.unit := by
  unfold evaluateAttention; split <;> rfl
@[simp] theorem evaluateAttention_keyOn (s : State) : (evaluateAttention s).keyOn = s.keyOn := by
  unfold evaluateAttention; split <;> rfl
@[simp] theorem evaluateAttention_restartArmed (s : State) : (evaluateAttention s).restartArmed = s.restartArmed := by
  unfold evaluateAttention; split <;> rfl
@[simp] theorem evaluateAttention_phc (s : State) : (evaluateAttention s).phc = s.phc := by
  unfold evaluateAttention; split <;> rfl
@[simp] theorem evaluateAttention_srx (s : State) : (evaluateAttention s).srx = s.srx := by
  unfold evaluateAttention; split <;> rfl
@[simp] theorem evaluateAttention_fbl (s : State) : (evaluateAttention s).fbl = s.fbl := by
  unfold evaluateAttention; split <;> rfl
@[simp] theorem evaluateAttention_hlu (s : State) : (evaluateAttention s).hlu = s.hlu := by
  unfold evaluateAttention; split <;> rfl
@[simp] theorem evaluateAttention_crg (s : State) : (evaluateAttention s).crg = s.crg := by
  unfold evaluateAttention; split <;> rfl
@[simp] theorem evaluateAttention_zmn (s : State) : (evaluateAttention s).zmn = s.zmn := by
  unfold evaluateAttention; split <;> rfl
@[simp] theorem evaluateAttention_asc (s : State) : (evaluateAttention s).asc = s.asc := by
  unfold evaluateAttention; split <;> rfl
@[simp] theorem evaluateAttention_ctc (s : State) : (evaluateAttention s).ctc = s.ctc := by
  unfold evaluateAttention; split <;> rfl
@[simp] theorem evaluateAttention_clc (s : State) : (evaluateAttention s).clc = s.clc := by
  unfold evaluateAttention; split <;> rfl
@[simp] theorem evaluateAttention_lpc (s : State) : (evaluateAttention s).lpc = s.lpc := by
  unfold evaluateAttention; split <;> rfl
@[simp] theorem evaluateAttention_cmi (s : State) : (evaluateAttention s).cmi = s.cmi := by
  unfold evaluateAttention; split <;> rfl
@[simp] theorem evaluateAttention_tbs (s : State) : (evaluateAttention s).tbs = s.tbs := by
  unfold evaluateAttention; split <;> rfl
@[simp] theorem evaluateAttention_fresh (s : State) : (evaluateAttention s).fresh = s.fresh := by
  unfold evaluateAttention; split <;> rfl
@[simp] theorem evaluateAttention_pending (s : State) : (evaluateAttention s).pending = s.pending := by
  unfold evaluateAttention; split <;> rfl

@[simp] theorem postRecord_time (r : EventRecord) (s : State) : (postRecord r s).time = s.time := by
  simp [postRecord]
@[simp] theorem postRecord_resetHeld (r : EventRecord) (s : State) : (postRecord r s).resetHeld = s.resetHeld := by
  simp [postRecord]
@[simp] theorem postRecord_unit (r : EventRecord) (s : State) : (postRecord r s).unit = s.unit := by
  simp [postRecord]
@[simp] theorem postRecord_keyOn (r : EventRecord) (s : State) : (postRecord r s).keyOn = s.keyOn := by
  simp [postRecord]
@[simp] theorem postRecord_restartArmed (r : EventRecord) (s : State) : (postRecord r s).restartArmed = s.restartArmed := by
  simp [postRecord]
@[simp] theorem postRecord_phc (r : EventRecord) (s : State) : (postRecord r s).phc = s.phc := by
  simp [postRecord]
@[simp] theorem postRecord_srx (r : EventRecord) (s : State) : (postRecord r s).srx = s.srx := by
  simp [postRecord]
@[simp] theorem postRecord_fbl (r : EventRecord) (s : State) : (postRecord r s).fbl = s.fbl := by
  simp [postRecord]
@[simp] theorem postRecord_hlu (r : EventRecord) (s : State) : (postRecord r s).hlu = s.hlu := by
  simp [postRecord]
@[simp] theorem postRecord_crg (r : EventRecord) (s : State) : (postRecord r s).crg = s.crg := by
  simp [postRecord]
@[simp] theorem postRecord_zmn (r : EventRecord) (s : State) : (postRecord r s).zmn = s.zmn := by
  simp [postRecord]
@[simp] theorem postRecord_asc (r : EventRecord) (s : State) : (postRecord r s).asc = s.asc := by
  simp [postRecord]
@[simp] theorem postRecord_ctc (r : EventRecord) (s : State) : (postRecord r s).ctc = s.ctc := by
  simp [postRecord]
@[simp] theorem postRecord_clc (r : EventRecord) (s : State) : (postRecord r s).clc = s.clc := by
  simp [postRecord]
@[simp] theorem postRecord_lpc (r : EventRecord) (s : State) : (postRecord r s).lpc = s.lpc := by
  simp [postRecord]
@[simp] theorem postRecord_tbs (r : EventRecord) (s : State) : (postRecord r s).tbs = s.tbs := by
  simp [postRecord]
@[simp] theorem postRecord_fresh (r : EventRecord) (s : State) : (postRecord r s).fresh = s.fresh := by
  simp [postRecord]
@[simp] theorem postRecord_pending (r : EventRecord) (s : State) : (postRecord r s).pending = s.pending := by
  simp [postRecord]

@[simp] theorem postAt_time (l : Nat) (e : Event) (i : Nat) (a : Option Nat) (s : State) :
    (postAt l e i a s).time = s.time := by simp [postAt]
@[simp] theorem post_time (e : Event) (i : Nat) (a : Option Nat) (s : State) :
    (post e i a s).time = s.time := by simp [post]
@[simp] theorem postAt_resetHeld (l : Nat) (e : Event) (i : Nat) (a : Option Nat) (s : State) :
    (postAt l e i a s).resetHeld = s.resetHeld := by simp [postAt]
@[simp] theorem post_resetHeld (e : Event) (i : Nat) (a : Option Nat) (s : State) :
    (post e i a s).resetHeld = s.resetHeld := by simp [post]
@[simp] theorem postAt_unit (l : Nat) (e : Event) (i : Nat) (a : Option Nat) (s : State) :
    (postAt l e i a s).unit = s.unit := by simp [postAt]
@[simp] theorem post_unit (e : Event) (i : Nat) (a : Option Nat) (s : State) :
    (post e i a s).unit = s.unit := by simp [post]
@[simp] theorem postAt_keyOn (l : Nat) (e : Event) (i : Nat) (a : Option Nat) (s : State) :
    (postAt l e i a s).keyOn = s.keyOn := by simp [postAt]
@[simp] theorem post_keyOn (e : Event) (i : Nat) (a : Option Nat) (s : State) :
    (post e i a s).keyOn = s.keyOn := by simp [post]
@[simp] theorem postAt_restartArmed (l : Nat) (e : Event) (i : Nat) (a : Option Nat) (s : State) :
    (postAt l e i a s).restartArmed = s.restartArmed := by simp [postAt]
@[simp] theorem post_restartArmed (e : Event) (i : Nat) (a : Option Nat) (s : State) :
    (post e i a s).restartArmed = s.restartArmed := by simp [post]
@[simp] theorem postAt_phc (l : Nat) (e : Event) (i : Nat) (a : Option Nat) (s : State) :
    (postAt l e i a s).phc = s.phc := by simp [postAt]
@[simp] theorem post_phc (e : Event) (i : Nat) (a : Option Nat) (s : State) :
    (post e i a s).phc = s.phc := by simp [post]
@[simp] theorem postAt_srx (l : Nat) (e : Event) (i : Nat) (a : Option Nat) (s : State) :
    (postAt l e i a s).srx = s.srx := by simp [postAt]
@[simp] theorem post_srx (e : Event) (i : Nat) (a : Option Nat) (s : State) :
    (post e i a s).srx = s.srx := by simp [post]
@[simp] theorem postAt_fbl (l : Nat) (e : Event) (i : Nat) (a : Option Nat) (s : State) :
    (postAt l e i a s).fbl = s.fbl := by simp [postAt]
@[simp] theorem post_fbl (e : Event) (i : Nat) (a : Option Nat) (s : State) :
    (post e i a s).fbl = s.fbl := by simp [post]
@[simp] theorem postAt_hlu (l : Nat) (e : Event) (i : Nat) (a : Option Nat) (s : State) :
    (postAt l e i a s).hlu = s.hlu := by simp [postAt]
@[simp] theorem post_hlu (e : Event) (i : Nat) (a : Option Nat) (s : State) :
    (post e i a s).hlu = s.hlu := by simp [post]
@[simp] theorem postAt_crg (l : Nat) (e : Event) (i : Nat) (a : Option Nat) (s : State) :
    (postAt l e i a s).crg = s.crg := by simp [postAt]
@[simp] theorem post_crg (e : Event) (i : Nat) (a : Option Nat) (s : State) :
    (post e i a s).crg = s.crg := by simp [post]
@[simp] theorem postAt_zmn (l : Nat) (e : Event) (i : Nat) (a : Option Nat) (s : State) :
    (postAt l e i a s).zmn = s.zmn := by simp [postAt]
@[simp] theorem post_zmn (e : Event) (i : Nat) (a : Option Nat) (s : State) :
    (post e i a s).zmn = s.zmn := by simp [post]
@[simp] theorem postAt_asc (l : Nat) (e : Event) (i : Nat) (a : Option Nat) (s : State) :
    (postAt l e i a s).asc = s.asc := by simp [postAt]
@[simp] theorem post_asc (e : Event) (i : Nat) (a : Option Nat) (s : State) :
    (post e i a s).asc = s.asc := by simp [post]
@[simp] theorem postAt_ctc (l : Nat) (e : Event) (i : Nat) (a : Option Nat) (s : State) :
    (postAt l e i a s).ctc = s.ctc := by simp [postAt]
@[simp] theorem post_ctc (e : Event) (i : Nat) (a : Option Nat) (s : State) :
    (post e i a s).ctc = s.ctc := by simp [post]
@[simp] theorem postAt_clc (l : Nat) (e : Event) (i : Nat) (a : Option Nat) (s : State) :
    (postAt l e i a s).clc = s.clc := by simp [postAt]
@[simp] theorem post_clc (e : Event) (i : Nat) (a : Option Nat) (s : State) :
    (post e i a s).clc = s.clc := by simp [post]
@[simp] theorem postAt_lpc (l : Nat) (e : Event) (i : Nat) (a : Option Nat) (s : State) :
    (postAt l e i a s).lpc = s.lpc := by simp [postAt]
@[simp] theorem post_lpc (e : Event) (i : Nat) (a : Option Nat) (s : State) :
    (post e i a s).lpc = s.lpc := by simp [post]
@[simp] theorem postAt_tbs (l : Nat) (e : Event) (i : Nat) (a : Option Nat) (s : State) :
    (postAt l e i a s).tbs = s.tbs := by simp [postAt]
@[simp] theorem post_tbs (e : Event) (i : Nat) (a : Option Nat) (s : State) :
    (post e i a s).tbs = s.tbs := by simp [post]
@[simp] theorem postAt_fresh (l : Nat) (e : Event) (i : Nat) (a : Option Nat) (s : State) :
    (postAt l e i a s).fresh = s.fresh := by simp [postAt]
@[simp] theorem post_fresh (e : Event) (i : Nat) (a : Option Nat) (s : State) :
    (post e i a s).fresh = s.fresh := by simp [post]
@[simp] theorem postAt_pending (l : Nat) (e : Event) (i : Nat) (a : Option Nat) (s : State) :
    (postAt l e i a s).pending = s.pending := by simp [postAt]
@[simp] theorem post_pending (e : Event) (i : Nat) (a : Option Nat) (s : State) :
    (post e i a s).pending = s.pending := by simp [post]

@[simp] theorem setSticky_time (g : Sticky → Sticky) (s : State) : (setSticky g s).time = s.time := rfl
@[simp] theorem setSticky_resetHeld (g : Sticky → Sticky) (s : State) : (setSticky g s).resetHeld = s.resetHeld := rfl
@[simp] theorem setSticky_unit (g : Sticky → Sticky) (s : State) : (setSticky g s).unit = s.unit := rfl
@[simp] theorem setSticky_keyOn (g : Sticky → Sticky) (s : State) : (setSticky g s).keyOn = s.keyOn := rfl
@[simp] theorem setSticky_restartArmed (g : Sticky → Sticky) (s : State) : (setSticky g s).restartArmed = s.restartArmed := rfl
@[simp] theorem setSticky_phc (g : Sticky → Sticky) (s : State) : (setSticky g s).phc = s.phc := rfl
@[simp] theorem setSticky_srx (g : Sticky → Sticky) (s : State) : (setSticky g s).srx = s.srx := rfl
@[simp] theorem setSticky_fbl (g : Sticky → Sticky) (s : State) : (setSticky g s).fbl = s.fbl := rfl
@[simp] theorem setSticky_hlu (g : Sticky → Sticky) (s : State) : (setSticky g s).hlu = s.hlu := rfl
@[simp] theorem setSticky_crg (g : Sticky → Sticky) (s : State) : (setSticky g s).crg = s.crg := rfl
@[simp] theorem setSticky_zmn (g : Sticky → Sticky) (s : State) : (setSticky g s).zmn = s.zmn := rfl
@[simp] theorem setSticky_asc (g : Sticky → Sticky) (s : State) : (setSticky g s).asc = s.asc := rfl
@[simp] theorem setSticky_ctc (g : Sticky → Sticky) (s : State) : (setSticky g s).ctc = s.ctc := rfl
@[simp] theorem setSticky_clc (g : Sticky → Sticky) (s : State) : (setSticky g s).clc = s.clc := rfl
@[simp] theorem setSticky_lpc (g : Sticky → Sticky) (s : State) : (setSticky g s).lpc = s.lpc := rfl
@[simp] theorem setSticky_evq (g : Sticky → Sticky) (s : State) : (setSticky g s).evq = s.evq := rfl
@[simp] theorem setSticky_tbs (g : Sticky → Sticky) (s : State) : (setSticky g s).tbs = s.tbs := rfl
@[simp] theorem setSticky_fresh (g : Sticky → Sticky) (s : State) : (setSticky g s).fresh = s.fresh := rfl
@[simp] theorem setSticky_pending (g : Sticky → Sticky) (s : State) : (setSticky g s).pending = s.pending := rfl

@[simp] theorem issue_time (a : Nat) (c : LoopCmd) (s : State) : (issue a c s).time = s.time := rfl
@[simp] theorem issue_resetHeld (a : Nat) (c : LoopCmd) (s : State) : (issue a c s).resetHeld = s.resetHeld := rfl
@[simp] theorem issue_unit (a : Nat) (c : LoopCmd) (s : State) : (issue a c s).unit = s.unit := rfl
@[simp] theorem issue_keyOn (a : Nat) (c : LoopCmd) (s : State) : (issue a c s).keyOn = s.keyOn := rfl
@[simp] theorem issue_restartArmed (a : Nat) (c : LoopCmd) (s : State) : (issue a c s).restartArmed = s.restartArmed := rfl
@[simp] theorem issue_phc (a : Nat) (c : LoopCmd) (s : State) : (issue a c s).phc = s.phc := rfl
@[simp] theorem issue_srx (a : Nat) (c : LoopCmd) (s : State) : (issue a c s).srx = s.srx := rfl
@[simp] theorem issue_fbl (a : Nat) (c : LoopCmd) (s : State) : (issue a c s).fbl = s.fbl := rfl
@[simp] theorem issue_hlu (a : Nat) (c : LoopCmd) (s : State) : (issue a c s).hlu = s.hlu := rfl
@[simp] theorem issue_crg (a : Nat) (c : LoopCmd) (s : State) : (issue a c s).crg = s.crg := rfl
@[simp] theorem issue_zmn (a : Nat) (c : LoopCmd) (s : State) : (issue a c s).zmn = s.zmn := rfl
@[simp] theorem issue_asc (a : Nat) (c : LoopCmd) (s : State) : (issue a c s).asc = s.asc := rfl
@[simp] theorem issue_ctc (a : Nat) (c : LoopCmd) (s : State) : (issue a c s).ctc = s.ctc := rfl
@[simp] theorem issue_clc (a : Nat) (c : LoopCmd) (s : State) : (issue a c s).clc = s.clc := rfl
@[simp] theorem issue_evq (a : Nat) (c : LoopCmd) (s : State) : (issue a c s).evq = s.evq := rfl
@[simp] theorem issue_cmi (a : Nat) (c : LoopCmd) (s : State) : (issue a c s).cmi = s.cmi := rfl
@[simp] theorem issue_tbs (a : Nat) (c : LoopCmd) (s : State) : (issue a c s).tbs = s.tbs := rfl
@[simp] theorem issue_fresh (a : Nat) (c : LoopCmd) (s : State) : (issue a c s).fresh = s.fresh := rfl
@[simp] theorem issue_pending (a : Nat) (c : LoopCmd) (s : State) : (issue a c s).pending = s.pending := rfl

/-- A record takes a command that its kind takes, unless a RELEASE is pending (R178). -/
theorem handOver_taken (st : Station) (c : LoopCmd) (hk : c.takenBy st.kind = true)
    (hp : ∀ tag, st.pending ≠ some (.drive .release, tag)) :
    st.handOver c =
      { st with pending := some (c, nextTag st.lastTag), lastTag := nextTag st.lastTag,
                opened := st.opened && !(255 ≤ st.lastTag) } := by
  unfold Station.handOver
  have : (st.pending.map (·.1)) ≠ some (.drive .release) := by
    cases hq : st.pending with
    | none => simp
    | some x => obtain ⟨y, tag⟩ := x; intro h; simp at h; exact hp tag (by rw [hq, h])
  simp [hk, this]

end Sys2Proof.Machine
end

