-- ==== Sys2Proof/Laws/KeptOwners.lean ====
section
/-! SUPPORT. What every operation keeps: a property of states that the replacement of an owner's records
and the posting of an event keep is kept by every operation that makes no other change, and by every
command. One lemma for each operation. -/

namespace Sys2Proof.Machine

variable {P : State → Prop}

/-- `P` is kept by the posting of an event and by a change of LPC's records. -/
structure KeptByLinks (P : State → Prop) : Prop where
  posted : ∀ {r s}, P s → P (postRecord r s)
  lpc : ∀ {s x}, P s → P (s.setLpc x)

/-- `P` is kept by what CTC's own operations do. -/
structure KeptByCurtains (P : State → Prop) : Prop extends KeptByLinks P where
  ctc : ∀ {s x}, P s → P (s.setCtc x)

/-- `P` is kept by what CLC's own operations do: only a placement lengthens the call queue. -/
structure KeptByCalls (P : State → Prop) : Prop extends KeptByLinks P where
  clc : ∀ {s x}, x.queue.length ≤ s.clc.queue.length → P s → P (s.setClc x)
  place : ∀ {c s}, P s → P (placeCall c s).state

/-- `P` is kept by what HLU's and FBL's own operations do. -/
structure KeptByOutput (P : State → Prop) : Prop where
  hlu : ∀ {s x}, P s → P (s.setHlu x)
  fbl : ∀ {s x}, P s → P (s.setFbl x)

/-- `P` is kept by what SRX's and CRG's own operations do, with FBL's start and stop. -/
structure KeptBySignal (P : State → Prop) : Prop extends KeptByOutput P where
  posted : ∀ {r s}, P s → P (postRecord r s)
  srx : ∀ {s x}, P s → P (s.setSrx x)
  crg : ∀ {s x}, P s → P (s.setCrg x)

/-- `P` is kept by what ZMN's own operations do. -/
structure KeptByZones (P : State → Prop) : Prop where
  posted : ∀ {r s}, P s → P (postRecord r s)
  zmn : ∀ {s x}, P s → P (s.setZmn x)

/-- `P` is kept by what TBS's own operations do, the authority record apart. -/
structure KeptByTables (P : State → Prop) : Prop where
  posted : ∀ {r s}, P s → P (postRecord r s)
  tbs : ∀ {s x}, x.auth = s.tbs.auth → P s → P (s.setTbs x)

/-- `P` is kept by every change that the operations of the owners make, outside the alarm record, the show
record, the authority record and the attention record. -/
structure KeptByOwners (P : State → Prop) : Prop extends
    KeptByCurtains P, KeptByCalls P, KeptBySignal P, KeptByZones P, KeptByTables P where
  sticky : ∀ {f s}, P s → P (setSticky f s)
  fresh : ∀ {s x}, P s → P (s.setFresh x)

/-- `P` is kept by every change that the taking of a fire makes too. -/
structure KeptByStage (P : State → Prop) : Prop extends KeptByOwners P where
  asc : ∀ {s x}, P s → P (s.setAsc x)

/-- `P` is kept by every change that a command makes, but for the two edges of RESET. -/
structure KeptByBlocks (P : State → Prop) : Prop extends KeptByStage P where
  phc : ∀ {s x}, P s → P (s.setPhc x)
  evq : ∀ {s x}, x.queue.length ≤ s.evq.queue.length → P s → P (s.setEvq x)
  eval : ∀ {s}, P s → P (evaluateAttention s)
  cmi : ∀ {s x}, P s → P (s.setCmi x)
  armed : ∀ {s x}, P s → P (s.setRestartArmed x)
  auth : ∀ {s a}, s.tbs.auth.locked = false → P s → P (setAuth a s)

theorem foldl_kept {β : Type} {f : State → β → State} (l : List β) (hf : ∀ s b, P s → P (f s b)) (s : State)
    (hs : P s) : P (l.foldl f s) := by
  induction l generalizing s with
  | nil => exact hs
  | cons b l ih => exact ih _ (hf s b hs)

theorem postAt_kept (h : ∀ {r s}, P s → P (postRecord r s)) (level : Nat) (e : Event) (index : Nat) (arg : Option Nat) (s : State)
    (hs : P s) : P (postAt level e index arg s) := h hs

theorem post_kept (h : ∀ {r s}, P s → P (postRecord r s)) (e : Event) (index : Nat) (arg : Option Nat) (s : State) (hs : P s) :
    P (post e index arg s) := h hs

theorem ite_kept {c : Prop} [Decidable c] {a b : State} (ha : P a) (hb : P b) : P (if c then a else b) := by
  split
  · exact ha
  · exact hb

theorem foldl_pair_kept {β γ : Type} {f : State × γ → β → State × γ} (l : List β) (a : State × γ)
    (hf : ∀ x b, P x.1 → P (f x b).1) (ha : P a.1) : P (l.foldl f a).1 := by
  induction l generalizing a with
  | nil => exact ha
  | cons b l ih => exact ih _ (hf a b ha)

theorem issue_kept (h : KeptByLinks P) (address : Nat) (c : LoopCmd) (s : State) (hs : P s) :
    P (issue address c s) := by
  simp only [issue]
  repeat' first | with_reducible assumption | with_reducible apply h.lpc

theorem mapCircuits_kept (h : KeptByOutput P) (f : Circuit → Circuit) (s : State) (hs : P s) :
    P (mapCircuits f s) := by
  simp only [mapCircuits]
  repeat' first | with_reducible assumption | with_reducible apply h.hlu

theorem houseFadeArgs_kept (h : KeptByOutput P) (a : FadeArgs) (s : State) (hs : P s) :
    P (houseFadeArgs a s).state := by
  simp only [houseFadeArgs]
  repeat' first | with_reducible assumption | with_reducible apply mapCircuits_kept h | split

theorem houseFadeCmd_kept (h : KeptByOutput P) (p : List Byte) (s : State) (hs : P s) :
    P (houseFadeCmd p s).state := by
  simp only [houseFadeCmd]
  repeat' first | with_reducible assumption | with_reducible apply houseFadeArgs_kept h | split

theorem houseConsoleCmd_kept (h : KeptByOutput P) (p : List Byte) (s : State) (hs : P s) :
    P (houseConsoleCmd p s).state := by
  simp only [houseConsoleCmd]
  repeat' first | with_reducible assumption | with_reducible apply mapCircuits_kept h | split

theorem houseMasterCmd_kept (h : KeptByOutput P) (p : List Byte) (s : State) (hs : P s) :
    P (houseMasterCmd p s).state := by
  simp only [houseMasterCmd]
  repeat' first | with_reducible assumption | with_reducible apply h.hlu | split

theorem getHouseCmd_kept (_h : KeptByLinks P) (p : List Byte) (s : State) (hs : P s) :
    P (getHouseCmd p s).state := by
  simp only [getHouseCmd]
  repeat' first | with_reducible assumption | split

theorem handoverExpire_kept (h : KeptByOutput P) (n : Nat) (s : State) (hs : P s) :
    P (handoverExpire n s) := by
  simp only [handoverExpire]
  repeat' first | with_reducible assumption | with_reducible apply mapCircuits_kept h

theorem houseEvacuate_kept (h : KeptByOutput P) (s : State) (hs : P s) :
    P (houseEvacuate s) := by
  simp only [houseEvacuate]
  repeat' first | with_reducible assumption | with_reducible apply mapCircuits_kept h

theorem houseAlarmReset_kept (h : KeptByOutput P) (s : State) (hs : P s) :
    P (houseAlarmReset s) := by
  simp only [houseAlarmReset]
  repeat' first | with_reducible assumption | with_reducible apply h.hlu

theorem houseRebuild_kept (h : KeptByOutput P) (s : State) (hs : P s) :
    P (houseRebuild s) := by
  simp only [houseRebuild]
  repeat' first | with_reducible assumption | with_reducible apply h.hlu

theorem recordSent_kept (h : KeptByOutput P) (s : State) (hs : P s) :
    P (recordSent s) := by
  simp only [recordSent]
  repeat' first | with_reducible assumption | with_reducible apply mapCircuits_kept h

theorem buildAndSend_kept (h : KeptByOutput P) (cutBefore : Bool) (s : State) (hs : P s) :
    P (buildAndSend cutBefore s) := by
  simp only [buildAndSend]
  repeat' first | with_reducible assumption | with_reducible apply recordSent_kept h
                | with_reducible apply h.fbl

theorem fblStart_kept (h : KeptByOutput P) (cutBefore : Bool) (s : State) (hs : P s) :
    P (fblStart cutBefore s) := by
  simp only [fblStart]
  repeat' first | with_reducible assumption | with_reducible apply buildAndSend_kept h
                | with_reducible apply h.fbl | split

theorem fblStop_kept (h : KeptByOutput P) (s : State) (hs : P s) :
    P (fblStop s) := by
  simp only [fblStop]
  repeat' first | with_reducible assumption | with_reducible apply h.fbl

theorem holdOther_kept (h : KeptByOutput P) (bytes : List Nat) (s : State) (hs : P s) :
    P (holdOther bytes s) := by
  simp only [holdOther]
  repeat' first | with_reducible assumption | with_reducible apply h.fbl | split

theorem intervalExpire_kept (h : KeptByOutput P) (s : State) (hs : P s) :
    P (intervalExpire s) := by
  simp only [intervalExpire]
  repeat' first | with_reducible assumption | with_reducible apply buildAndSend_kept h
                | with_reducible apply h.fbl | split

theorem rebuildIfSending_kept (h : KeptByOutput P) (s : State) (hs : P s) :
    P (rebuildIfSending s) := by
  simp only [rebuildIfSending]
  repeat' first | with_reducible assumption | with_reducible apply buildAndSend_kept h | split

theorem fblRestart_kept (h : KeptByOutput P) (s : State) (hs : P s) :
    P (fblRestart s) := by
  simp only [fblRestart]
  repeat' first | with_reducible assumption | with_reducible apply buildAndSend_kept h
                | with_reducible apply h.fbl | split

theorem unitIssue_kept (h : KeptByLinks P) (c : LoopCmd) (s : State) (hs : P s) :
    P (unitIssue c s) := by
  simp only [unitIssue]
  repeat' first | with_reducible assumption | with_reducible apply issue_kept h | split

theorem issueEvacPlay_kept (h : KeptByLinks P) (s : State) (hs : P s) :
    P (issueEvacPlay s) := by
  simp only [issueEvacPlay]
  repeat' first | with_reducible assumption | with_reducible apply unitIssue_kept h | split

theorem setQueue_kept (h : KeptByCalls P) (q : List Call) (s : State) (hq : q.length ≤ s.clc.queue.length)
    (hs : P s) : P (setQueue q s) :=
  h.clc hq hs

theorem startCall_kept (h : KeptByCalls P) (c : Call) (s : State) (hs : P s) :
    P (startCall c s) := by
  simp only [startCall]
  repeat' first | with_reducible assumption | with_reducible apply post_kept h.posted
                | with_reducible apply unitIssue_kept h.toKeptByLinks | with_reducible apply h.clc
                | exact Nat.le_refl _ | exact List.length_filter_le _ _ | exact List.length_erase_le


theorem grantPage_kept (h : KeptByCalls P) (r : Request) (s : State) (hs : P s) :
    P (grantPage r s) := by
  simp only [grantPage]
  repeat' first | with_reducible assumption | with_reducible apply post_kept h.posted
                | with_reducible apply issue_kept h.toKeptByLinks
                | with_reducible apply unitIssue_kept h.toKeptByLinks | with_reducible apply h.clc
                | exact Nat.le_refl _


theorem select_kept (h : KeptByCalls P) (s : State) (hs : P s) :
    P (select s) := by
  simp only [select]
  repeat' first | with_reducible assumption | with_reducible apply startCall_kept h
                | with_reducible apply grantPage_kept h | split

theorem placeAndSelect_kept (h : KeptByCalls P) (c : Call) (s : State) (hs : P s) :
    P (placeAndSelect c s).state := by
  simp only [placeAndSelect]
  repeat' first | with_reducible assumption | with_reducible apply select_kept h
                | with_reducible apply h.place | split

theorem placeOrDrop_kept (h : KeptByCalls P) (c : Call) (s : State) (hs : P s) :
    P (placeOrDrop c s) := by
  simp only [placeOrDrop]
  repeat' first | with_reducible assumption | with_reducible apply post_kept h.posted
                | with_reducible apply placeAndSelect_kept h | split

theorem dropCurrent_kept (h : KeptByCalls P) (s : State) (hs : P s) :
    P (dropCurrent s) := by
  simp only [dropCurrent]
  repeat' first | with_reducible assumption | with_reducible apply h.clc | exact Nat.le_refl _



theorem endPage_kept (h : KeptByCalls P) (revoke : Bool) (e : Event) (arg : Nat → Nat) (s : State) (hs : P s) :
    P (endPage revoke e arg s) := by
  simp only [endPage]
  repeat' first | with_reducible assumption | with_reducible apply unitIssue_kept h.toKeptByLinks
                | with_reducible apply issue_kept h.toKeptByLinks | with_reducible apply post_kept h.posted
                | with_reducible apply h.clc | exact Nat.le_refl _ | exact List.length_filter_le _ _
                | exact List.length_erase_le | exact Nat.zero_le _ | simp [*] | split

theorem cutCall_kept (h : KeptByCalls P) (why : CutReason) (s : State) (hs : P s) :
    P (cutCall why s) := by
  simp only [cutCall]
  repeat' first | with_reducible assumption | with_reducible apply unitIssue_kept h.toKeptByLinks
                | with_reducible apply h.clc | exact Nat.le_refl _ | exact List.length_filter_le _ _
                | exact List.length_erase_le | exact Nat.zero_le _ | simp [*] | split

theorem fireInEvacuation_kept (h : KeptByCalls P) (s : State) (hs : P s) :
    P (fireInEvacuation s) := by
  simp only [fireInEvacuation]
  repeat' first | with_reducible assumption | with_reducible apply unitIssue_kept h.toKeptByLinks
                | with_reducible apply grantPage_kept h | with_reducible apply h.clc | exact Nat.le_refl _
                | exact List.length_filter_le _ _ | exact List.length_erase_le | exact Nat.zero_le _
                | simp [*] | split

theorem resumeEvacuation_kept (h : KeptByCalls P) (s : State) (hs : P s) :
    P (resumeEvacuation s) := by
  simp only [resumeEvacuation]
  repeat' first | with_reducible assumption | with_reducible apply fireInEvacuation_kept h
                | with_reducible apply issueEvacPlay_kept h.toKeptByLinks | split

theorem staffAlert_kept (h : KeptByCalls P) (s : State) (hs : P s) :
    P (staffAlert s) := by
  simp only [staffAlert]
  repeat' first | with_reducible assumption | with_reducible apply placeOrDrop_kept h
                | with_reducible apply cutCall_kept h | split

theorem removeDetection_kept (h : KeptByCalls P) (s : State) (hs : P s) :
    P (removeDetection s) := by
  simp only [removeDetection]
  repeat' first | with_reducible assumption | with_reducible apply setQueue_kept h | exact Nat.le_refl _
                | exact List.length_filter_le _ _


theorem seizeChannel_kept (h : KeptByCalls P) (s : State) (hs : P s) :
    P (seizeChannel s) := by
  simp only [seizeChannel]
  repeat' first | with_reducible assumption | with_reducible apply unitIssue_kept h.toKeptByLinks
                | with_reducible apply dropCurrent_kept h | with_reducible apply post_kept h.posted
                | with_reducible apply endPage_kept h | with_reducible apply h.clc | exact Nat.le_refl _
                | exact List.length_filter_le _ _ | exact List.length_erase_le | exact Nat.zero_le _
                | simp [*] | split

theorem evacuateGroup_kept (h : KeptByCalls P) (g : Nat) (s : State) (hs : P s) :
    P (evacuateGroup g s) := by
  simp only [evacuateGroup]
  repeat' first | with_reducible assumption | with_reducible apply issueEvacPlay_kept h.toKeptByLinks
                | with_reducible apply h.clc | exact Nat.le_refl _ | exact List.length_filter_le _ _
                | exact List.length_erase_le | exact Nat.zero_le _ | simp [*] | split

theorem channelAlarmReset_kept (h : KeptByCalls P) (s : State) (hs : P s) :
    P (channelAlarmReset s) := by
  simp only [channelAlarmReset]
  repeat' first | with_reducible assumption | with_reducible apply unitIssue_kept h.toKeptByLinks
                | with_reducible apply h.clc | exact Nat.le_refl _ | exact List.length_filter_le _ _
                | exact List.length_erase_le | exact Nat.zero_le _ | simp [*] | split

theorem takeScheduled_kept (h : KeptByCalls P) (e : Scheduled) (s : State) (hs : P s) :
    P (takeScheduled e s) := by
  simp only [takeScheduled]
  repeat' first | with_reducible assumption | with_reducible apply placeOrDrop_kept h

theorem fillSchedule_kept (h : KeptByCalls P) (s : State) (hs : P s) :
    P (fillSchedule s) := by
  simp only [fillSchedule]
  repeat' first | with_reducible assumption | with_reducible apply takeScheduled_kept h
                | with_reducible apply h.clc | (with_reducible apply foldl_kept; intro _ _ _)
                | exact Nat.le_refl _


theorem clearSchedule_kept (h : KeptByCalls P) (s : State) (hs : P s) :
    P (clearSchedule s) := by
  simp only [clearSchedule]
  repeat' first | with_reducible assumption | with_reducible apply h.clc | exact Nat.le_refl _



theorem callsCleared_kept (h : KeptByCalls P) (s : State) (hs : P s) :
    P (callsCleared s) := by
  simp only [callsCleared]
  repeat' first | with_reducible assumption | with_reducible apply post_kept h.posted
                | with_reducible apply h.clc | exact Nat.le_refl _ | exact List.length_filter_le _ _
                | exact List.length_erase_le | exact Nat.zero_le _ | simp [*] | split

theorem callsLoopRebuilt_kept (h : KeptByCalls P) (s : State) (hs : P s) : P (callsLoopRebuilt s) := by
  simp only [callsLoopRebuilt]
  have h1 := h.clc (x := { s.clc with announcer := .unknown }) (Nat.le_refl _) hs
  exact h.clc (Nat.le_refl _) (ite_kept (endPage_kept h _ _ _ _ h1) h1)

theorem callsRestart_kept (h : KeptByCalls P) (s : State) (hs : P s) :
    P (callsRestart s) := by
  simp only [callsRestart]
  repeat' first | with_reducible assumption | with_reducible apply post_kept h.posted
                | with_reducible apply h.clc | exact Nat.le_refl _ | exact List.length_filter_le _ _
                | exact List.length_erase_le | exact Nat.zero_le _ | simp [*] | split

theorem modCurtain_kept (h : KeptByCurtains P) (n : Nat) (f : Curtain → Curtain) (s : State) (hs : P s) :
    P (modCurtain n f s) := by
  simp only [modCurtain]
  repeat' first | with_reducible assumption | with_reducible apply h.ctc

theorem setDemo_kept (h : KeptByCurtains P) (d : Demo) (s : State) (hs : P s) :
    P (setDemo d s) := by
  simp only [setDemo]
  repeat' first | with_reducible assumption | with_reducible apply h.ctc

theorem issueDrive_kept (h : KeptByCurtains P) (n : Nat) (cmd : DriveCmd) (s : State) (hs : P s) :
    P (issueDrive n cmd s) := by
  simp only [issueDrive]
  repeat' first | with_reducible assumption | with_reducible apply issue_kept h.toKeptByLinks
                | with_reducible apply modCurtain_kept h | split

theorem yieldIfHeld_kept (h : KeptByCurtains P) (n : Nat) (s : State) (hs : P s) :
    P (yieldIfHeld n s) := by
  simp only [yieldIfHeld]
  repeat' first | with_reducible assumption | with_reducible apply issueDrive_kept h | split

theorem segmentEnded_kept (h : KeptByCurtains P) (n : Nat) (s : State) (hs : P s) :
    P (segmentEnded n s) := by
  simp only [segmentEnded]
  repeat' first | with_reducible assumption | with_reducible apply modCurtain_kept h
                | with_reducible apply yieldIfHeld_kept h | split

theorem failDemo_kept (h : KeptByCurtains P) (n : Nat) (why : DemoFailure) (s : State) (hs : P s) :
    P (failDemo n why s) := by
  simp only [failDemo]
  repeat' first | with_reducible assumption | with_reducible apply post_kept h.posted
                | with_reducible apply setDemo_kept h | split

theorem abandonDemo_kept (h : KeptByCurtains P) (cause : Nat) (s : State) (hs : P s) :
    P (abandonDemo cause s) := by
  simp only [abandonDemo]
  repeat' first | with_reducible assumption | with_reducible apply post_kept h.posted
                | with_reducible apply setDemo_kept h | split

theorem stopRaising_kept (h : KeptByCurtains P) (n : Nat) (s : State) (hs : P s) :
    P (stopRaising n s) := by
  simp only [stopRaising]
  repeat' first | with_reducible assumption | with_reducible apply segmentEnded_kept h
                | with_reducible apply modCurtain_kept h | with_reducible apply issueDrive_kept h | split


theorem endDemoSegment_kept (h : KeptByCurtains P) (n : Nat) (s : State) (hs : P s) :
    P (endDemoSegment n s) := by
  simp only [endDemoSegment]
  repeat' first | with_reducible assumption | with_reducible apply segmentEnded_kept h
                | with_reducible apply modCurtain_kept h

theorem curtainsInvestigate_kept (h : KeptByCurtains P) (s : State) (hs : P s) :
    P (curtainsInvestigate s) := by
  simp only [curtainsInvestigate]
  repeat' first | with_reducible assumption | with_reducible apply abandonDemo_kept h
                | with_reducible apply endDemoSegment_kept h | with_reducible apply stopRaising_kept h
                | (with_reducible apply foldl_kept; intro _ _ _) | split

theorem evacuateCurtain_kept (h : KeptByCurtains P) (n : Nat) (s : State) (hs : P s) :
    P (evacuateCurtain n s) := by
  simp only [evacuateCurtain]
  repeat' first | with_reducible assumption | with_reducible apply modCurtain_kept h
                | with_reducible apply stopRaising_kept h | with_reducible apply issueDrive_kept h | split


theorem curtainsEvacuate_kept (h : KeptByCurtains P) (s : State) (hs : P s) :
    P (curtainsEvacuate s) := by
  simp only [curtainsEvacuate]
  repeat' first | with_reducible assumption | with_reducible apply abandonDemo_kept h
                | with_reducible apply endDemoSegment_kept h | with_reducible apply evacuateCurtain_kept h
                | (with_reducible apply foldl_kept; intro _ _ _) | split

theorem curtainsPreshow_kept (h : KeptByCurtains P) (s : State) (hs : P s) :
    P (curtainsPreshow s) := by
  simp only [curtainsPreshow]
  repeat' first | with_reducible assumption | with_reducible apply segmentEnded_kept h
                | with_reducible apply modCurtain_kept h | with_reducible apply issueDrive_kept h
                | with_reducible apply abandonDemo_kept h | with_reducible apply setDemo_kept h | split


theorem curtainLost_kept (h : KeptByCurtains P) (a : Nat) (s : State) (hs : P s) :
    P (curtainLost a s) := by
  simp only [curtainLost]
  repeat' first | with_reducible assumption | with_reducible apply post_kept h.posted
                | with_reducible apply modCurtain_kept h | with_reducible apply issueDrive_kept h
                | with_reducible apply failDemo_kept h | split

theorem curtainsRebuild_kept (h : KeptByCurtains P) (s : State) (hs : P s) :
    P (curtainsRebuild s) := by
  simp only [curtainsRebuild]
  repeat' first | with_reducible assumption | with_reducible apply h.ctc

theorem reissueOutstanding_kept (h : KeptByLinks P) (s : State) (hs : P s) :
    P (reissueOutstanding s) := by
  simp only [reissueOutstanding]
  repeat' first | with_reducible assumption | with_reducible apply issue_kept h
                | (with_reducible apply foldl_kept; intro _ _ _) | split

theorem restartCurtain_kept (h : KeptByCurtains P) (n : Nat) (s : State) (hs : P s) :
    P (restartCurtain n s) := by
  simp only [restartCurtain]
  repeat' first | with_reducible assumption | with_reducible apply modCurtain_kept h
                | with_reducible apply issueDrive_kept h | split

theorem curtainsRestart_kept (h : KeptByCurtains P) (s : State) (hs : P s) :
    P (curtainsRestart s) := by
  simp only [curtainsRestart]
  repeat' first | with_reducible assumption | with_reducible apply restartCurtain_kept h
                | with_reducible apply abandonDemo_kept h | (with_reducible apply foldl_kept; intro _ _ _)


theorem breakPair_kept (h : KeptBySignal P) (s : State) (hs : P s) :
    P (breakPair s) := by
  simp only [breakPair]
  repeat' first | with_reducible assumption | with_reducible apply h.crg

theorem streamLose_kept (h : KeptBySignal P) (s : State) (hs : P s) :
    P (streamLose s) := by
  simp only [streamLose]
  repeat' first | with_reducible assumption | with_reducible apply breakPair_kept h
                | with_reducible apply post_kept h.posted | with_reducible apply h.srx

theorem streamHush_kept (h : KeptBySignal P) (s : State) (hs : P s) :
    P (streamHush s) := by
  simp only [streamHush]
  repeat' first | with_reducible assumption | with_reducible apply fblStop_kept h.toKeptByOutput
                | with_reducible apply breakPair_kept h | with_reducible apply post_kept h.posted
                | with_reducible apply h.srx

theorem holdExpire_kept (h : KeptBySignal P) (s : State) (hs : P s) :
    P (holdExpire s) := by
  simp only [holdExpire]
  repeat' first | with_reducible assumption | with_reducible apply streamLose_kept h | split

theorem idleExpire_kept (h : KeptBySignal P) (s : State) (hs : P s) :
    P (idleExpire s) := by
  simp only [idleExpire]
  repeat' first | with_reducible assumption | with_reducible apply streamHush_kept h | split

theorem streamAlarm_kept (h : KeptBySignal P) (s : State) (hs : P s) :
    P (streamAlarm s) := by
  simp only [streamAlarm]
  repeat' first | with_reducible assumption | with_reducible apply fblStart_kept h.toKeptByOutput
                | with_reducible apply streamLose_kept h | with_reducible apply h.srx | split

theorem markIdle_kept (h : KeptBySignal P) (s : State) (hs : P s) :
    P (markIdle s) := by
  simp only [markIdle]
  repeat' first | with_reducible assumption | with_reducible apply h.srx

theorem streamCommit_kept (h : KeptBySignal P) (s : State) (hs : P s) :
    P (streamCommit s) := by
  simp only [streamCommit]
  repeat' first | with_reducible assumption | with_reducible apply idleExpire_kept h
                | with_reducible apply holdExpire_kept h | with_reducible apply h.srx

theorem debounceCommit_kept (h : KeptBySignal P) (s : State) (hs : P s) :
    P (debounceCommit s) := by
  simp only [debounceCommit]
  repeat' first | with_reducible assumption | with_reducible apply h.crg

theorem modZone_kept (h : KeptByZones P) (z : Nat) (f : Zone → Zone) (s : State) (hs : P s) :
    P (modZone z f s) := by
  simp only [modZone]
  repeat' first | with_reducible assumption | with_reducible apply h.zmn

theorem chargeZone_kept (h : KeptByZones P) (z charge : Nat) (s : State) (hs : P s) :
    P (chargeZone z charge s) := by
  simp only [chargeZone]
  repeat' first | with_reducible assumption | with_reducible apply h.zmn

theorem latchZone_kept (h : KeptByZones P) (r : Zone) (s : State) (hs : P s) :
    P (latchZone r s) := by
  simp only [latchZone]
  repeat' first | with_reducible assumption | with_reducible apply post_kept h.posted
                | with_reducible apply modZone_kept h

theorem closeBegin_kept (h : KeptByZones P) (z : Nat) (s : State) (hs : P s) :
    P (closeBegin z s).state := by
  simp only [closeBegin]
  repeat' first | with_reducible assumption | with_reducible apply modZone_kept h
                | with_reducible apply chargeZone_kept h | with_reducible apply latchZone_kept h | split


theorem closeReport_kept (h : KeptByLinks P) (z charge : Nat) (s : State) (hs : P s) :
    P (closeReport z charge s) := by
  simp only [closeReport]
  repeat' first | with_reducible assumption | with_reducible apply post_kept h.posted | split

theorem closeWhole_kept (h : KeptByOwners P) (z : Nat) (s : State) (hs : P s) :
    P (closeWhole z s).1 := by
  simp only [closeWhole]
  repeat' first | with_reducible assumption | with_reducible apply closeBegin_kept h.toKeptByZones
                | with_reducible apply closeReport_kept h.toKeptByCurtains.toKeptByLinks | split


theorem closeAllWhole_kept (h : KeptByOwners P) (s : State) (hs : P s) :
    P (closeAllWhole s).1 := by
  simp only [closeAllWhole]
  repeat' first | with_reducible assumption | with_reducible apply closeWhole_kept h
                | (with_reducible apply foldl_pair_kept; intro _ _ _)

theorem clearLatches_kept (h : KeptByZones P) (s : State) (hs : P s) :
    P (clearLatches s) := by
  simp only [clearLatches]
  repeat' first | with_reducible assumption | with_reducible apply h.zmn

theorem budgetsPreshow_kept (h : KeptByZones P) (s : State) (hs : P s) :
    P (budgetsPreshow s) := by
  simp only [budgetsPreshow]
  repeat' first | with_reducible assumption | with_reducible apply h.zmn

theorem zonesRebuild_kept (h : KeptByOwners P) (s : State) (hs : P s) :
    P (zonesRebuild s) := by
  simp only [zonesRebuild]
  repeat' first | with_reducible assumption | with_reducible apply closeAllWhole_kept h
                | with_reducible apply h.zmn

theorem setStaging_kept (h : KeptByTables P) (i : TableId) (x : Staging) (s : State) (hs : P s) :
    P (setStaging i x s) := by
  simp only [setStaging]
  repeat' first | with_reducible assumption | with_reducible apply h.tbs | exact rfl

theorem changeCommit_kept (h : KeptByTables P) (x : CommitState) (failure : Option Failure) (s : State) (hs : P s) :
    P (changeCommit x failure s) := by
  simp only [changeCommit]
  repeat' first | with_reducible assumption | with_reducible apply h.tbs | exact rfl

theorem reopenQueued_kept (h : KeptByTables P) (s : State) (hs : P s) :
    P (reopenQueued s) := by
  simp only [reopenQueued]
  repeat' first | with_reducible assumption | with_reducible apply setStaging_kept h
                | (with_reducible apply foldl_kept; intro _ _ _) | split

theorem emptyStaging_kept (h : KeptByTables P) (s : State) (hs : P s) :
    P (emptyStaging s) := by
  simp only [emptyStaging]
  repeat' first | with_reducible assumption | with_reducible apply h.tbs | exact rfl

theorem loopRebuild_kept (h : KeptByLinks P) (s : State) (hs : P s) :
    P (loopRebuild s) := by
  simp only [loopRebuild]
  repeat' first | with_reducible assumption | with_reducible apply h.lpc

theorem activate_kept (h : KeptByTables P) (s : State) (hs : P s) :
    P (activate s) := by
  simp only [activate]
  repeat' first | with_reducible assumption | with_reducible apply setStaging_kept h
                | with_reducible apply h.tbs | (with_reducible apply foldl_kept; intro _ _ _) | exact rfl
                | split

theorem whenState_kept (b : Bool) (f : State → State) (hf : ∀ s, P s → P (f s)) (s : State)
    (hs : P s) : P (whenState b f s) := by
  simp only [whenState]
  split
  · exact hf _ hs
  · exact hs

theorem rebuildOwners_kept (h : KeptByOwners P) (q : TableId → Bool) (s : State) (hs : P s) :
    P (rebuildOwners q s) := by
  simp only [rebuildOwners]
  repeat' first | with_reducible assumption | (with_reducible apply whenState_kept; intro _ _)
                | with_reducible apply reissueOutstanding_kept h.toKeptByCurtains.toKeptByLinks
                | with_reducible apply callsLoopRebuilt_kept h.toKeptByCalls
                | with_reducible apply callsCleared_kept h.toKeptByCalls
                | with_reducible apply curtainsRebuild_kept h.toKeptByCurtains
                | with_reducible apply zonesRebuild_kept h
                | with_reducible apply debounceCommit_kept h.toKeptBySignal
                | with_reducible apply houseRebuild_kept h.toKeptBySignal.toKeptByOutput
                | with_reducible apply streamCommit_kept h.toKeptBySignal
                | with_reducible apply loopRebuild_kept h.toKeptByCurtains.toKeptByLinks


theorem complete_kept (h : KeptByOwners P) (s : State) (hs : P s) :
    P (complete s) := by
  simp only [complete]
  repeat' first | with_reducible assumption | with_reducible apply rebuildOwners_kept h
                | with_reducible apply changeCommit_kept h.toKeptByTables
                | with_reducible apply activate_kept h.toKeptByTables

theorem reexamine_kept (h : KeptByOwners P) (s : State) (hs : P s) :
    P (reexamine s) := by
  simp only [reexamine]
  repeat' first | with_reducible assumption | with_reducible apply post_kept h.posted
                | with_reducible apply complete_kept h | split

theorem freed_kept (h : KeptByOwners P) (s : State) (hs : P s) :
    P (freed s) := by
  simp only [freed]
  repeat' first | with_reducible assumption | with_reducible apply select_kept h.toKeptByCalls
                | with_reducible apply reexamine_kept h

theorem stageOpenAt_kept (h : KeptByTables P) (i : TableId) (s : State) (hs : P s) :
    P (stageOpenAt i s).state := by
  simp only [stageOpenAt]
  repeat' first | with_reducible assumption | with_reducible apply setStaging_kept h | split

theorem stageOpenCmd_kept (h : KeptByTables P) (p : List Byte) (s : State) (hs : P s) :
    P (stageOpenCmd p s).state := by
  simp only [stageOpenCmd]
  repeat' first | with_reducible assumption | with_reducible apply stageOpenAt_kept h | split

theorem stageWriteAt_kept (h : KeptByTables P) (i : TableId) (p : List Byte) (s : State) (hs : P s) :
    P (stageWriteAt i p s).state := by
  simp only [stageWriteAt]
  repeat' first | with_reducible assumption | with_reducible apply setStaging_kept h | split

theorem stageWriteCmd_kept (h : KeptByTables P) (p : List Byte) (s : State) (hs : P s) :
    P (stageWriteCmd p s).state := by
  simp only [stageWriteCmd]
  repeat' first | with_reducible assumption | with_reducible apply stageWriteAt_kept h | split

theorem stageQueueAt_kept (h : KeptByTables P) (i : TableId) (s : State) (hs : P s) :
    P (stageQueueAt i s).state := by
  simp only [stageQueueAt]
  repeat' first | with_reducible assumption | with_reducible apply setStaging_kept h | split

theorem stageQueueCmd_kept (h : KeptByTables P) (p : List Byte) (s : State) (hs : P s) :
    P (stageQueueCmd p s).state := by
  simp only [stageQueueCmd]
  repeat' first | with_reducible assumption | with_reducible apply stageQueueAt_kept h | split

theorem noteTables_kept (h : KeptByTables P) (s : State) (hs : P s) :
    P (noteTables s) := by
  simp only [noteTables]
  repeat' first | with_reducible assumption | with_reducible apply h.tbs | exact rfl

theorem commitQueued_kept (h : KeptByOwners P) (s : State) (hs : P s) :
    P (commitQueued s).state := by
  simp only [commitQueued]
  repeat' first | with_reducible assumption | with_reducible apply changeCommit_kept h.toKeptByTables
                | with_reducible apply reopenQueued_kept h.toKeptByTables
                | with_reducible apply noteTables_kept h.toKeptByTables
                | with_reducible apply complete_kept h | split

theorem commitCmd_kept (h : KeptByOwners P) (p : List Byte) (s : State) (hs : P s) :
    P (commitCmd p s).state := by
  simp only [commitCmd]
  repeat' first | with_reducible assumption | with_reducible apply commitQueued_kept h | split

theorem abortPending_kept (h : KeptByTables P) (s : State) (hs : P s) :
    P (abortPending s) := by
  simp only [abortPending]
  repeat' first | with_reducible assumption | with_reducible apply changeCommit_kept h
                | with_reducible apply reopenQueued_kept h

theorem abortCommitCmd_kept (h : KeptByTables P) (p : List Byte) (s : State) (hs : P s) :
    P (abortCommitCmd p s).state := by
  simp only [abortCommitCmd]
  repeat' first | with_reducible assumption | with_reducible apply abortPending_kept h | split

theorem getCommitCmd_kept (_h : KeptByLinks P) (p : List Byte) (s : State) (hs : P s) :
    P (getCommitCmd p s).state := by
  simp only [getCommitCmd]
  repeat' first | with_reducible assumption | split

theorem readActiveAt_kept (_h : KeptByLinks P) (i : TableId) (a : ActiveArgs) (s : State) (hs : P s) :
    P (readActiveAt i a s).state := by
  simp only [readActiveAt]
  repeat' first | with_reducible assumption | split

theorem readActiveCmd_kept (h : KeptByLinks P) (p : List Byte) (s : State) (hs : P s) :
    P (readActiveCmd p s).state := by
  simp only [readActiveCmd]
  repeat' first | with_reducible assumption | with_reducible apply readActiveAt_kept h | split

theorem setAuthorityCmd_kept (h : KeptByBlocks P) (p : List Byte) (s : State) (hs : P s) :
    P (setAuthorityCmd p s).state := by
  simp only [setAuthorityCmd]
  repeat' first | with_reducible assumption | with_reducible apply h.auth | exact Bool.eq_false_iff.mpr ‹_›
                | split

theorem lockAuthorityCmd_kept (h : KeptByBlocks P) (p : List Byte) (s : State) (hs : P s) :
    P (lockAuthorityCmd p s).state := by
  simp only [lockAuthorityCmd]
  repeat' first | with_reducible assumption | with_reducible apply post_kept h.posted
                | with_reducible apply h.auth | exact Bool.eq_false_iff.mpr ‹_› | split

theorem getAuthorityCmd_kept (_h : KeptByLinks P) (p : List Byte) (s : State) (hs : P s) :
    P (getAuthorityCmd p s).state := by
  simp only [getAuthorityCmd]
  repeat' first | with_reducible assumption | split

theorem storeRestart_kept (h : KeptByTables P) (s : State) (hs : P s) :
    P (storeRestart s) := by
  simp only [storeRestart]
  repeat' first | with_reducible assumption | with_reducible apply post_kept h.posted
                | with_reducible apply emptyStaging_kept h | with_reducible apply abortPending_kept h
                | split

end Sys2Proof.Machine
end

