-- ==== Sys2Proof/Laws/KeptCommands.lean ====
section
/-! SUPPORT. What every command keeps: the operations of the alarm, the commands and the restarts, and the step as
a whole. One lemma for each operation. -/

namespace Sys2Proof.Machine

variable {P : State → Prop}

theorem streamTold_kept (h : KeptBySignal P) (leaving : Bool) (s : State) (hs : P s) :
    P (streamTold leaving s) := by
  simp only [streamTold]
  repeat' first | with_reducible assumption | with_reducible apply streamAlarm_kept h
                | with_reducible apply rebuildIfSending_kept h.toKeptByOutput | split

theorem windowsTold_kept (h : KeptByOwners P) (leaving : Bool) (s : State) (hs : P s) :
    P (windowsTold leaving s).1 := by
  simp only [windowsTold]
  repeat' first | with_reducible assumption | with_reducible apply closeAllWhole_kept h | split

theorem groupsTold_kept (h : KeptByCalls P) (gs : List Nat) (s : State) (hs : P s) :
    P (groupsTold gs s) := by
  simp only [groupsTold]
  repeat' first | with_reducible assumption | with_reducible apply evacuateGroup_kept h
                | (with_reducible apply foldl_kept; intro _ _ _)

theorem tellInvestigate_kept (h : KeptByOwners P) (s : State) (hs : P s) :
    P (tellInvestigate s).1 := by
  simp only [tellInvestigate]
  repeat' first | with_reducible assumption | with_reducible apply windowsTold_kept h
                | with_reducible apply streamTold_kept h.toKeptBySignal
                | with_reducible apply curtainsInvestigate_kept h.toKeptByCurtains

theorem tellEvacuate_kept (h : KeptByOwners P) (leaving : Bool) (gs : List Nat) (s : State) (hs : P s) :
    P (tellEvacuate leaving gs s).1 := by
  simp only [tellEvacuate]
  repeat' first | with_reducible assumption | with_reducible apply windowsTold_kept h
                | with_reducible apply streamTold_kept h.toKeptBySignal
                | with_reducible apply houseEvacuate_kept h.toKeptBySignal.toKeptByOutput
                | with_reducible apply groupsTold_kept h.toKeptByCalls
                | with_reducible apply seizeChannel_kept h.toKeptByCalls
                | with_reducible apply curtainsEvacuate_kept h.toKeptByCurtains

theorem postStarted_kept (h : KeptByLinks P) (g : Nat) (s : State) (hs : P s) :
    P (postStarted g s) := by
  simp only [postStarted]
  repeat' first | with_reducible assumption | with_reducible apply post_kept h.posted | split

theorem setGroup_kept (h : KeptByStage P) (g : Nat) (x : GroupState) (s : State) (hs : P s) :
    P (setGroup g x s) := by
  simp only [setGroup]
  repeat' first | with_reducible assumption | with_reducible apply h.asc

theorem startGroup_kept (h : KeptByStage P) (g : Nat) (cause : StartCause) (s : State) (hs : P s) :
    P (startGroup g cause s) := by
  simp only [startGroup]
  repeat' first | with_reducible assumption
                | with_reducible apply evacuateGroup_kept h.toKeptByOwners.toKeptByCalls
                | with_reducible apply postStarted_kept h.toKeptByOwners.toKeptByCurtains.toKeptByLinks
                | with_reducible apply setGroup_kept h | split

theorem investigateRecord_kept (h : KeptByStage P) (s : State) (hs : P s) :
    P (investigateRecord s) := by
  simp only [investigateRecord]
  repeat' first | with_reducible assumption | with_reducible apply h.asc

theorem enterInvestigate_kept (h : KeptByStage P) (s : State) (hs : P s) :
    P (enterInvestigate s).1 := by
  simp only [enterInvestigate]
  repeat' first | with_reducible assumption | with_reducible apply investigateRecord_kept h
                | with_reducible apply tellInvestigate_kept h.toKeptByOwners
                | with_reducible apply staffAlert_kept h.toKeptByOwners.toKeptByCalls
                | with_reducible apply post_kept h.posted

theorem evacuateRecord_kept (h : KeptByStage P) (general : Bool) (fireGroup : Option Nat) (s : State) (hs : P s) :
    P (evacuateRecord general fireGroup s) := by
  simp only [evacuateRecord]
  repeat' first | with_reducible assumption | with_reducible apply h.asc

theorem enterEvacuate_kept (h : KeptByStage P) (general : Bool) (cause : Nat) (fireGroup : Option Nat) (s : State) (hs : P s) :
    P (enterEvacuate general cause fireGroup s).1 := by
  simp only [enterEvacuate]
  repeat' first | with_reducible assumption | with_reducible apply evacuateRecord_kept h
                | with_reducible apply tellEvacuate_kept h.toKeptByOwners
                | with_reducible apply postStarted_kept h.toKeptByOwners.toKeptByCurtains.toKeptByLinks
                | with_reducible apply post_kept h.posted | (with_reducible apply foldl_kept; intro _ _ _)


theorem fireInEvacuate_kept (h : KeptByStage P) (f : Fire) (s : State) (hs : P s) :
    P (fireInEvacuate f s) := by
  simp only [fireInEvacuate]
  repeat' first | with_reducible assumption | with_reducible apply startGroup_kept h
                | with_reducible apply post_kept h.posted | with_reducible apply h.asc
                | (with_reducible apply foldl_kept; intro _ _ _) | split

theorem fireUnderAlarm_kept (h : KeptByStage P) (f : Fire) (s : State) (hs : P s) :
    P (fireUnderAlarm f s) := by
  simp only [fireUnderAlarm]
  repeat' first | with_reducible assumption | with_reducible apply enterEvacuate_kept h
                | with_reducible apply fireInEvacuate_kept h | split

theorem recordOrigin_kept (h : KeptByStage P) (f : Fire) (s : State) (hs : P s) :
    P (recordOrigin f s) := by
  simp only [recordOrigin]
  repeat' first | with_reducible assumption | with_reducible apply h.asc

theorem fireInNormal_kept (h : KeptByStage P) (f : Fire) (s : State) (hs : P s) :
    P (fireInNormal f s).1 := by
  simp only [fireInNormal]
  repeat' first | with_reducible assumption | with_reducible apply enterInvestigate_kept h
                | with_reducible apply recordOrigin_kept h | with_reducible apply enterEvacuate_kept h
                | split

theorem takeFire_kept (h : KeptByStage P) (f : Fire) (s : State) (hs : P s) :
    P (takeFire f s) := by
  simp only [takeFire]
  repeat' first | with_reducible assumption | with_reducible apply fireInNormal_kept h
                | with_reducible apply fireUnderAlarm_kept h
                | (with_reducible apply foldl_kept; intro _ _ _) | split

theorem takeFire_opt_kept (h : KeptByStage P) (f : Option Fire) (s : State) (hs : P s) :
    P (takeFire? f s) := by
  simp only [takeFire?]
  repeat' first | with_reducible assumption | with_reducible apply takeFire_kept h | split

theorem closeWindow_kept (h : KeptByStage P) (z : Nat) (s : State) (hs : P s) :
    P (closeWindow z s) := by
  simp only [closeWindow]
  repeat' first | with_reducible assumption
                | with_reducible apply closeBegin_kept h.toKeptByOwners.toKeptByZones
                | with_reducible apply closeReport_kept h.toKeptByOwners.toKeptByCurtains.toKeptByLinks
                | with_reducible apply takeFire_opt_kept h | split

theorem closeAllWindows_kept (h : KeptByStage P) (s : State) (hs : P s) :
    P (closeAllWindows s) := by
  simp only [closeAllWindows]
  repeat' first | with_reducible assumption | with_reducible apply closeWindow_kept h
                | (with_reducible apply foldl_kept; intro _ _ _)

theorem ackExpire_kept (h : KeptByStage P) (s : State) (hs : P s) :
    P (ackExpire s) := by
  simp only [ackExpire]
  repeat' first | with_reducible assumption | with_reducible apply enterEvacuate_kept h | split

theorem invExpire_kept (h : KeptByStage P) (s : State) (hs : P s) :
    P (invExpire s) := by
  simp only [invExpire]
  repeat' first | with_reducible assumption | with_reducible apply enterEvacuate_kept h | split

theorem offsetExpire_kept (h : KeptByStage P) (g : Nat) (s : State) (hs : P s) :
    P (offsetExpire g s) := by
  simp only [offsetExpire]
  repeat' first | with_reducible assumption | with_reducible apply startGroup_kept h | split

theorem returnToNormal_kept (h : KeptByStage P) (s : State) (hs : P s) :
    P (returnToNormal s) := by
  simp only [returnToNormal]
  repeat' first | with_reducible assumption
                | with_reducible apply markIdle_kept h.toKeptByOwners.toKeptBySignal
                | with_reducible apply h.asc

theorem alarmAckCmd_kept (h : KeptByStage P) (p : List Byte) (s : State) (hs : P s) :
    P (alarmAckCmd p s).state := by
  simp only [alarmAckCmd]
  repeat' first | with_reducible assumption | with_reducible apply post_kept h.posted
                | with_reducible apply h.asc | split

theorem declareFalse_kept (h : KeptByStage P) (s : State) (hs : P s) :
    P (declareFalse s) := by
  simp only [declareFalse]
  repeat' first | with_reducible assumption
                | with_reducible apply removeDetection_kept h.toKeptByOwners.toKeptByCalls
                | with_reducible apply clearLatches_kept h.toKeptByOwners.toKeptByZones
                | with_reducible apply freed_kept h.toKeptByOwners
                | with_reducible apply returnToNormal_kept h | with_reducible apply post_kept h.posted
                | with_reducible apply h.asc

theorem alarmFalseCmd_kept (h : KeptByStage P) (p : List Byte) (s : State) (hs : P s) :
    P (alarmFalseCmd p s).state := by
  simp only [alarmFalseCmd]
  repeat' first | with_reducible assumption | with_reducible apply declareFalse_kept h | split

theorem clearedAlarm_kept (h : KeptByStage P) (s : State) (hs : P s) :
    P (clearedAlarm s) := by
  simp only [clearedAlarm]
  repeat' first | with_reducible assumption | with_reducible apply h.asc

theorem forceClear_kept (h : KeptByBlocks P) (s : State) (hs : P s) :
    P (forceClear s) := by
  simp only [forceClear]
  repeat' first | with_reducible assumption | with_reducible apply post_kept h.posted
                | with_reducible apply clearSchedule_kept h.toKeptByStage.toKeptByOwners.toKeptByCalls
                | with_reducible apply h.phc | split

theorem resetAlarm_kept (h : KeptByBlocks P) (s : State) (hs : P s) :
    P (resetAlarm s) := by
  simp only [resetAlarm]
  repeat' first | with_reducible assumption | with_reducible apply freed_kept h.toKeptByStage.toKeptByOwners
                | with_reducible apply channelAlarmReset_kept h.toKeptByStage.toKeptByOwners.toKeptByCalls
                | with_reducible apply returnToNormal_kept h.toKeptByStage
                | with_reducible apply post_kept h.posted
                | with_reducible apply clearedAlarm_kept h.toKeptByStage
                | with_reducible apply clearLatches_kept h.toKeptByStage.toKeptByOwners.toKeptByZones
                | with_reducible apply houseAlarmReset_kept h.toKeptByStage.toKeptByOwners.toKeptBySignal.toKeptByOutput
                | with_reducible apply forceClear_kept h

theorem alarmResetCmd_kept (h : KeptByBlocks P) (p : List Byte) (s : State) (hs : P s) :
    P (alarmResetCmd p s).state := by
  simp only [alarmResetCmd]
  repeat' first | with_reducible assumption | with_reducible apply resetAlarm_kept h | split

theorem openWindow_kept (h : KeptByZones P) (r : Zone) (d : Nat) (s : State) (hs : P s) :
    P (openWindow r d s) := by
  simp only [openWindow]
  repeat' first | with_reducible assumption | with_reducible apply post_kept h.posted
                | with_reducible apply modZone_kept h

theorem extendWindow_kept (h : KeptByZones P) (r : Zone) (w : Window) (d : Nat) (s : State) (hs : P s) :
    P (extendWindow r w d s) := by
  simp only [extendWindow]
  repeat' first | with_reducible assumption | with_reducible apply post_kept h.posted
                | with_reducible apply modZone_kept h | split

theorem suppressZone_kept (h : KeptByZones P) (z d : Nat) (clamped : Bool) (s : State) (hs : P s) :
    P (suppressZone z d clamped s).1 := by
  simp only [suppressZone]
  repeat' first | with_reducible assumption | with_reducible apply openWindow_kept h
                | with_reducible apply extendWindow_kept h | split

theorem suppressZones_kept (h : KeptByZones P) (zs : List Nat) (d : Nat) (clamped : Bool) (s : State) (hs : P s) :
    P (suppressZones zs d clamped s).1 := by
  simp only [suppressZones]
  repeat' first | with_reducible assumption | with_reducible apply suppressZone_kept h
                | (with_reducible apply foldl_pair_kept; intro _ _ _)

theorem closeListed_kept (h : KeptByStage P) (zs : List Nat) (s : State) (hs : P s) :
    P (closeListed zs s).1 := by
  simp only [closeListed]
  repeat' first | with_reducible assumption | with_reducible apply closeWindow_kept h
                | with_reducible apply closeBegin_kept h.toKeptByOwners.toKeptByZones
                | (with_reducible apply foldl_pair_kept; intro _ _ _)

theorem suppressAt_kept (h : KeptByStage P) (list : List Nat) (d : Nat) (s : State) (hs : P s) :
    P (suppressAt list d s).state := by
  simp only [suppressAt]
  repeat' first | with_reducible assumption | with_reducible apply closeListed_kept h
                | with_reducible apply suppressZones_kept h.toKeptByOwners.toKeptByZones | split


theorem suppressCmd_kept (h : KeptByStage P) (p : List Byte) (s : State) (hs : P s) :
    P (suppressCmd p s).state := by
  simp only [suppressCmd]
  repeat' first | with_reducible assumption | with_reducible apply suppressAt_kept h | split

theorem postCondition_kept (h : KeptByLinks P) (z : Nat) (before after : Condition) (s : State) (hs : P s) :
    P (postCondition z before after s) := by
  simp only [postCondition]
  repeat' first | with_reducible assumption | with_reducible apply post_kept h.posted | split

theorem notePrealarm_kept (h : KeptByStage P) (z : Nat) (before after : Condition) (s : State) (hs : P s) :
    P (notePrealarm z before after s) := by
  simp only [notePrealarm]
  repeat' first | with_reducible assumption | with_reducible apply h.asc | split

theorem reportFire_kept (h : KeptByStage P) (r : Zone) (s : State) (hs : P s) :
    P (reportFire r s) := by
  simp only [reportFire]
  repeat' first | with_reducible assumption | with_reducible apply takeFire_kept h
                | with_reducible apply latchZone_kept h.toKeptByOwners.toKeptByZones
                | with_reducible apply post_kept h.posted
                | with_reducible apply modZone_kept h.toKeptByOwners.toKeptByZones | split

theorem clearDeferred_kept (h : KeptByZones P) (r : Zone) (s : State) (hs : P s) :
    P (clearDeferred r s) := by
  simp only [clearDeferred]
  repeat' first | with_reducible assumption | with_reducible apply post_kept h.posted
                | with_reducible apply modZone_kept h | split

theorem zoneReport_kept (h : KeptByStage P) (r : Zone) (value : Nat) (s : State) (hs : P s) :
    P (zoneReport r value s) := by
  simp only [zoneReport]
  repeat' first | with_reducible assumption
                | with_reducible apply modZone_kept h.toKeptByOwners.toKeptByZones
                | with_reducible apply notePrealarm_kept h
                | with_reducible apply postCondition_kept h.toKeptByOwners.toKeptByCurtains.toKeptByLinks
                | with_reducible apply reportFire_kept h
                | with_reducible apply clearDeferred_kept h.toKeptByOwners.toKeptByZones | split


theorem inputReport_kept (h : KeptByStage P) (unit input value : Nat) (s : State) (hs : P s) :
    P (inputReport unit input value s) := by
  simp only [inputReport]
  repeat' first | with_reducible assumption | with_reducible apply zoneReport_kept h | split

theorem zoneReply_kept (h : KeptByStage P) (unit : Nat) (content : List Byte) (s : State) (hs : P s) :
    P (zoneReply unit content s) := by
  simp only [zoneReply]
  repeat' first | with_reducible assumption | with_reducible apply inputReport_kept h
                | (with_reducible apply foldl_kept; intro _ _ _)

theorem loseZone_kept (h : KeptByOwners P) (unit input : Nat) (s : State) (hs : P s) :
    P (loseZone unit input s) := by
  simp only [loseZone]
  repeat' first | with_reducible assumption
                | with_reducible apply postCondition_kept h.toKeptByCurtains.toKeptByLinks
                | with_reducible apply modZone_kept h.toKeptByZones | split

theorem zoneUnitLost_kept (h : KeptByOwners P) (unit : Nat) (s : State) (hs : P s) :
    P (zoneUnitLost unit s) := by
  simp only [zoneUnitLost]
  repeat' first | with_reducible assumption | with_reducible apply loseZone_kept h
                | (with_reducible apply foldl_kept; intro _ _ _)

theorem windowExpire_kept (h : KeptByStage P) (z : Nat) (s : State) (hs : P s) :
    P (windowExpire z s) := by
  simp only [windowExpire]
  repeat' first | with_reducible assumption | with_reducible apply closeWindow_kept h | split

theorem getZonesCmd_kept (_h : KeptByLinks P) (p : List Byte) (s : State) (hs : P s) :
    P (getZonesCmd p s).state := by
  simp only [getZonesCmd]
  repeat' first | with_reducible assumption | split

theorem getAlarmCmd_kept (_h : KeptByLinks P) (p : List Byte) (s : State) (hs : P s) :
    P (getAlarmCmd p s).state := by
  simp only [getAlarmCmd]
  repeat' first | with_reducible assumption | split

theorem exitPhase_kept (h : KeptByStage P) (old : Phase) (s : State) (hs : P s) :
    P (exitPhase old s) := by
  simp only [exitPhase]
  repeat' first | with_reducible assumption | with_reducible apply closeAllWindows_kept h
                | with_reducible apply clearSchedule_kept h.toKeptByOwners.toKeptByCalls | split


theorem enterPhase_kept (h : KeptByOwners P) (new : Phase) (s : State) (hs : P s) :
    P (enterPhase new s) := by
  simp only [enterPhase]
  repeat' first | with_reducible assumption | with_reducible apply markIdle_kept h.toKeptBySignal
                | with_reducible apply curtainsPreshow_kept h.toKeptByCurtains
                | with_reducible apply budgetsPreshow_kept h.toKeptByZones
                | with_reducible apply rebuildIfSending_kept h.toKeptBySignal.toKeptByOutput | split


theorem fillPhase_kept (h : KeptByCalls P) (new : Phase) (s : State) (hs : P s) :
    P (fillPhase new s) := by
  simp only [fillPhase]
  repeat' first | with_reducible assumption | with_reducible apply fillSchedule_kept h | split

theorem transition_kept (h : KeptByBlocks P) (new : Phase) (minutes : Option Nat) (s : State) (hs : P s) :
    P (transition new minutes s) := by
  simp only [transition]
  repeat' first | with_reducible assumption
                | with_reducible apply fillPhase_kept h.toKeptByStage.toKeptByOwners.toKeptByCalls
                | with_reducible apply reexamine_kept h.toKeptByStage.toKeptByOwners
                | with_reducible apply enterPhase_kept h.toKeptByStage.toKeptByOwners
                | with_reducible apply exitPhase_kept h.toKeptByStage
                | with_reducible apply post_kept h.posted | with_reducible apply h.phc | split

theorem setPhaseAt_kept (h : KeptByBlocks P) (code : Nat) (minutes : Option Nat) (s : State) (hs : P s) :
    P (setPhaseAt code minutes s).state := by
  simp only [setPhaseAt]
  repeat' first | with_reducible assumption | with_reducible apply transition_kept h | split

theorem setPhaseCmd_kept (h : KeptByBlocks P) (p : List Byte) (s : State) (hs : P s) :
    P (setPhaseCmd p s).state := by
  simp only [setPhaseCmd]
  repeat' first | with_reducible assumption | with_reducible apply setPhaseAt_kept h | split

theorem getShowCmd_kept (_h : KeptByLinks P) (p : List Byte) (s : State) (hs : P s) :
    P (getShowCmd p s).state := by
  simp only [getShowCmd]
  repeat' first | with_reducible assumption | split

theorem withUnit_kept (a : Nat) (f : Curtain → State → State) (hf : ∀ c s, P s → P (f c s)) (s : State)
    (hs : P s) : P (withUnit a f s) := by
  simp only [withUnit]
  split
  · exact hf _ _ hs
  · exact hs

theorem notePosition_kept (h : KeptByCurtains P) (r : DriveReply) (c : Curtain) (s : State) (hs : P s) :
    P (notePosition r c s) := by
  simp only [notePosition]
  repeat' first | with_reducible assumption | with_reducible apply modCurtain_kept h

theorem postConfirmed_kept (h : KeptByLinks P) (c : Curtain) (x : CurtainState) (s : State) (hs : P s) :
    P (postConfirmed c x s) := by
  simp only [postConfirmed]
  repeat' first | with_reducible assumption | with_reducible apply post_kept h.posted | split

theorem setCurtainState_kept (h : KeptByCurtains P) (n : Nat) (x : CurtainState) (s : State) (hs : P s) :
    P (setCurtainState n x s) := by
  simp only [setCurtainState]
  repeat' first | with_reducible assumption | with_reducible apply modCurtain_kept h

theorem confirmCurtain_kept (h : KeptByCurtains P) (r : DriveReply) (c : Curtain) (s : State) (hs : P s) :
    P (confirmCurtain r c s) := by
  simp only [confirmCurtain]
  repeat' first | with_reducible assumption | with_reducible apply postConfirmed_kept h.toKeptByLinks
                | with_reducible apply setCurtainState_kept h | with_reducible apply post_kept h.posted
                | with_reducible apply issueDrive_kept h | split

theorem lowerTaken_kept (h : KeptByCurtains P) (c : Curtain) (s : State) (hs : P s) :
    P (lowerTaken c s) := by
  simp only [lowerTaken]
  repeat' first | with_reducible assumption | with_reducible apply setDemo_kept h | split

theorem moveRefused_kept (h : KeptByCurtains P) (r : DriveReply) (cmd : DriveCmd) (c : Curtain) (s : State) (hs : P s) :
    P (moveRefused r cmd c s) := by
  simp only [moveRefused]
  repeat' first | with_reducible assumption | with_reducible apply modCurtain_kept h
                | (with_reducible apply withUnit_kept; intro _ _ _)
                | with_reducible apply confirmCurtain_kept h | with_reducible apply failDemo_kept h
                | with_reducible apply post_kept h.posted | with_reducible apply segmentEnded_kept h | split


theorem releaseTaken_kept (h : KeptByCurtains P) (c : Curtain) (s : State) (hs : P s) :
    P (releaseTaken c s) := by
  simp only [releaseTaken]
  repeat' first | with_reducible assumption | with_reducible apply post_kept h.posted
                | with_reducible apply modCurtain_kept h

theorem releaseRefused_kept (h : KeptByCurtains P) (c : Curtain) (s : State) (hs : P s) :
    P (releaseRefused c s) := by
  simp only [releaseRefused]
  repeat' first | with_reducible assumption | with_reducible apply issueDrive_kept h
                | with_reducible apply post_kept h.posted | with_reducible apply modCurtain_kept h | split


theorem yieldTaken_kept (h : KeptByCurtains P) (c : Curtain) (s : State) (hs : P s) :
    P (yieldTaken c s) := by
  simp only [yieldTaken]
  repeat' first | with_reducible assumption | with_reducible apply post_kept h.posted
                | with_reducible apply modCurtain_kept h | split

theorem resumeTaken_kept (h : KeptByCurtains P) (c : Curtain) (s : State) (hs : P s) :
    P (resumeTaken c s) := by
  simp only [resumeTaken]
  repeat' first | with_reducible assumption | with_reducible apply post_kept h.posted
                | with_reducible apply modCurtain_kept h

theorem driveAnswered_kept (h : KeptByCurtains P) (r : DriveReply) (cmd : DriveCmd) (taken : Bool) (c : Curtain) (s : State) (hs : P s) :
    P (driveAnswered r cmd taken c s) := by
  simp only [driveAnswered]
  repeat' first | with_reducible assumption | with_reducible apply lowerTaken_kept h
                | with_reducible apply modCurtain_kept h | with_reducible apply releaseTaken_kept h
                | with_reducible apply yieldTaken_kept h | with_reducible apply resumeTaken_kept h
                | with_reducible apply moveRefused_kept h | with_reducible apply post_kept h.posted
                | with_reducible apply setCurtainState_kept h | with_reducible apply releaseRefused_kept h
                | split

/-- What CTC heeds in a reply: nothing, or the acknowledgement of the outstanding command of the unit's curtain. -/
theorem heededAck_cases (a : Nat) (ack : Option (DriveCmd × Bool)) (s : State) :
    heededAck a ack s = none ∨ ∃ cmd taken c, ack = some (cmd, taken) ∧ heededAck a ack s = ack ∧
      curtainOfUnit s a = some c ∧ c.outstanding = some cmd := by
  rcases ack with _ | ⟨cmd, taken⟩
  · exact .inl rfl
  · by_cases h : ((curtainOfUnit s a).bind (·.outstanding)) = some cmd
    · obtain ⟨c, hc, ho⟩ := Option.bind_eq_some_iff.mp h
      exact .inr ⟨cmd, taken, c, rfl, by simp [heededAck, h], hc, ho⟩
    · exact .inl (by simp [heededAck, h])

theorem takeAck_kept (h : KeptByCurtains P) (r : DriveReply) (ack : Option (DriveCmd × Bool)) (c : Curtain) (s : State) (hs : P s) :
    P (takeAck r ack c s) := by
  simp only [takeAck]
  repeat' first | with_reducible assumption | with_reducible apply driveAnswered_kept h
                | with_reducible apply modCurtain_kept h | split

theorem localRelease_kept (h : KeptByCurtains P) (r : DriveReply) (c : Curtain) (s : State) (hs : P s) :
    P (localRelease r c s) := by
  simp only [localRelease]
  repeat' first | with_reducible assumption | with_reducible apply post_kept h.posted
                | with_reducible apply modCurtain_kept h | with_reducible apply issueDrive_kept h
                | with_reducible apply failDemo_kept h | split

theorem takeRelease_kept (h : KeptByCurtains P) (r : DriveReply) (c : Curtain) (s : State) (hs : P s) :
    P (takeRelease r c s) := by
  simp only [takeRelease]
  repeat' first | with_reducible assumption | with_reducible apply localRelease_kept h | split

theorem segmentLimit_kept (h : KeptByCurtains P) (x : CurtainState) (c : Curtain) (s : State) (hs : P s) :
    P (segmentLimit x c s) := by
  simp only [segmentLimit]
  repeat' first | with_reducible assumption | with_reducible apply segmentEnded_kept h
                | with_reducible apply post_kept h.posted | with_reducible apply modCurtain_kept h


theorem segmentObstructed_kept (h : KeptByCurtains P) (c : Curtain) (s : State) (hs : P s) :
    P (segmentObstructed c s) := by
  simp only [segmentObstructed]
  repeat' first | with_reducible assumption | with_reducible apply segmentEnded_kept h
                | with_reducible apply failDemo_kept h | with_reducible apply post_kept h.posted
                | with_reducible apply modCurtain_kept h | with_reducible apply issueDrive_kept h


theorem demoLowered_kept (h : KeptByCurtains P) (c : Curtain) (s : State) (hs : P s) :
    P (demoLowered c s) := by
  simp only [demoLowered]
  repeat' first | with_reducible assumption | with_reducible apply setDemo_kept h
                | with_reducible apply setCurtainState_kept h

theorem demoPassed_kept (h : KeptByCurtains P) (c : Curtain) (s : State) (hs : P s) :
    P (demoPassed c s) := by
  simp only [demoPassed]
  repeat' first | with_reducible assumption | with_reducible apply segmentEnded_kept h
                | with_reducible apply post_kept h.posted | with_reducible apply setDemo_kept h
                | with_reducible apply modCurtain_kept h

theorem segmentReply_kept (h : KeptByCurtains P) (r : DriveReply) (m : Motion) (c : Curtain) (s : State) (hs : P s) :
    P (segmentReply r m c s) := by
  simp only [segmentReply]
  repeat' first | with_reducible assumption | with_reducible apply demoLowered_kept h
                | with_reducible apply segmentObstructed_kept h | with_reducible apply demoPassed_kept h
                | with_reducible apply segmentLimit_kept h | split

theorem descentDown_kept (h : KeptByOwners P) (c : Curtain) (s : State) (hs : P s) :
    P (descentDown c s) := by
  simp only [descentDown]
  repeat' first | with_reducible assumption | with_reducible apply post_kept h.posted
                | with_reducible apply modCurtain_kept h.toKeptByCurtains | with_reducible apply h.fresh


theorem descentReply_kept (h : KeptByOwners P) (r : DriveReply) (before : Bool) (c : Curtain) (s : State) (hs : P s) :
    P (descentReply r before c s) := by
  simp only [descentReply]
  repeat' first | with_reducible assumption | with_reducible apply descentDown_kept h
                | with_reducible apply setCurtainState_kept h.toKeptByCurtains
                | with_reducible apply postAt_kept h.posted | split

theorem pendantReply_kept (h : KeptByCurtains P) (r : DriveReply) (before : Bool) (c : Curtain) (s : State) (hs : P s) :
    P (pendantReply r before c s) := by
  simp only [pendantReply]
  repeat' first | with_reducible assumption | with_reducible apply postConfirmed_kept h.toKeptByLinks
                | with_reducible apply setCurtainState_kept h | with_reducible apply post_kept h.posted
                | split

theorem sentReply_kept (h : KeptByLinks P) (r : DriveReply) (before : Bool) (c : Curtain) (s : State) (hs : P s) :
    P (sentReply r before c s) := by
  simp only [sentReply]
  repeat' first | with_reducible assumption | with_reducible apply post_kept h.posted | split

theorem takeState_kept (h : KeptByOwners P) (r : DriveReply) (before : Bool) (c : Curtain) (s : State) (hs : P s) :
    P (takeState r before c s) := by
  simp only [takeState]
  repeat' first | with_reducible assumption | with_reducible apply descentReply_kept h
                | with_reducible apply sentReply_kept h.toKeptByCurtains.toKeptByLinks
                | with_reducible apply segmentReply_kept h.toKeptByCurtains
                | with_reducible apply pendantReply_kept h.toKeptByCurtains
                | with_reducible apply confirmCurtain_kept h.toKeptByCurtains | split

theorem takeHold_kept (h : KeptByCurtains P) (r : DriveReply) (ack : Option (DriveCmd × Bool)) (c : Curtain) (s : State) (hs : P s) :
    P (takeHold r ack c s) := by
  simp only [takeHold]
  repeat' first | with_reducible assumption | with_reducible apply yieldIfHeld_kept h
                | with_reducible apply modCurtain_kept h | with_reducible apply issueDrive_kept h | split


theorem driveReply_kept (h : KeptByOwners P) (a : Nat) (r : DriveReply) (ack : Option (DriveCmd × Bool)) (s : State) (hs : P s) :
    P (driveReply a r ack s) := by
  simp only [driveReply]
  repeat' first | with_reducible assumption | (with_reducible apply withUnit_kept; intro _ _ _)
                | with_reducible apply notePosition_kept h.toKeptByCurtains
                | with_reducible apply reexamine_kept h
                | with_reducible apply takeAck_kept h.toKeptByCurtains
                | with_reducible apply takeRelease_kept h.toKeptByCurtains
                | with_reducible apply takeState_kept h
                | with_reducible apply takeHold_kept h.toKeptByCurtains

theorem driveUnitLost_kept (h : KeptByOwners P) (a : Nat) (s : State) (hs : P s) :
    P (driveUnitLost a s) := by
  simp only [driveUnitLost]
  repeat' first | with_reducible assumption | with_reducible apply reexamine_kept h
                | with_reducible apply curtainLost_kept h.toKeptByCurtains

theorem startSegment_kept (h : KeptByCurtains P) (n : Nat) (up : Bool) (s : State) (hs : P s) :
    P (startSegment n up s) := by
  simp only [startSegment]
  repeat' first | with_reducible assumption | with_reducible apply modCurtain_kept h
                | with_reducible apply issueDrive_kept h

theorem stopSegment_kept (h : KeptByCurtains P) (n : Nat) (s : State) (hs : P s) :
    P (stopSegment n s) := by
  simp only [stopSegment]
  repeat' first | with_reducible assumption | with_reducible apply segmentEnded_kept h
                | with_reducible apply modCurtain_kept h | with_reducible apply issueDrive_kept h


theorem moveTaken_kept (h : KeptByOwners P) (c : Curtain) (up : Bool) (s : State) (hs : P s) :
    P (moveTaken c up s).state := by
  simp only [moveTaken]
  repeat' first | with_reducible assumption | with_reducible apply reexamine_kept h
                | with_reducible apply startSegment_kept h.toKeptByCurtains | split

theorem stopTaken_kept (h : KeptByOwners P) (c : Curtain) (s : State) (hs : P s) :
    P (stopTaken c s).state := by
  simp only [stopTaken]
  repeat' first | with_reducible assumption | with_reducible apply reexamine_kept h
                | with_reducible apply stopSegment_kept h.toKeptByCurtains | split

theorem curtainMoveAt_kept (h : KeptByOwners P) (number motion : Nat) (s : State) (hs : P s) :
    P (curtainMoveAt number motion s).state := by
  simp only [curtainMoveAt]
  repeat' first | with_reducible assumption | with_reducible apply stopTaken_kept h
                | with_reducible apply moveTaken_kept h | split

theorem curtainMoveCmd_kept (h : KeptByOwners P) (p : List Byte) (s : State) (hs : P s) :
    P (curtainMoveCmd p s).state := by
  simp only [curtainMoveCmd]
  repeat' first | with_reducible assumption | with_reducible apply curtainMoveAt_kept h | split

theorem clearLatchAt_kept (h : KeptByCurtains P) (number : Nat) (s : State) (hs : P s) :
    P (clearLatchAt number s).state := by
  simp only [clearLatchAt]
  repeat' first | with_reducible assumption | with_reducible apply post_kept h.posted
                | with_reducible apply modCurtain_kept h | split

theorem clearLatchCmd_kept (h : KeptByCurtains P) (p : List Byte) (s : State) (hs : P s) :
    P (clearLatchCmd p s).state := by
  simp only [clearLatchCmd]
  repeat' first | with_reducible assumption | with_reducible apply clearLatchAt_kept h | split

theorem startDemo_kept (h : KeptByCurtains P) (n : Nat) (s : State) (hs : P s) :
    P (startDemo n s) := by
  simp only [startDemo]
  repeat' first | with_reducible assumption | with_reducible apply setDemo_kept h
                | with_reducible apply startSegment_kept h

theorem demonstrateCmd_kept (h : KeptByOwners P) (p : List Byte) (s : State) (hs : P s) :
    P (demonstrateCmd p s).state := by
  simp only [demonstrateCmd]
  repeat' first | with_reducible assumption | with_reducible apply reexamine_kept h
                | with_reducible apply startDemo_kept h.toKeptByCurtains | split

theorem stallTaken_kept (h : KeptByOwners P) (c : Curtain) (s : State) (hs : P s) :
    P (stallTaken c s) := by
  simp only [stallTaken]
  repeat' first | with_reducible assumption | with_reducible apply reexamine_kept h
                | with_reducible apply segmentEnded_kept h.toKeptByCurtains
                | with_reducible apply failDemo_kept h.toKeptByCurtains
                | with_reducible apply post_kept h.posted
                | with_reducible apply modCurtain_kept h.toKeptByCurtains
                | with_reducible apply issueDrive_kept h.toKeptByCurtains

theorem stallExpire_kept (h : KeptByOwners P) (n : Nat) (s : State) (hs : P s) :
    P (stallExpire n s) := by
  simp only [stallExpire]
  repeat' first | with_reducible assumption | with_reducible apply stallTaken_kept h | split

theorem descentExpire_kept (h : KeptByCurtains P) (n : Nat) (s : State) (hs : P s) :
    P (descentExpire n s) := by
  simp only [descentExpire]
  repeat' first | with_reducible assumption | with_reducible apply post_kept h.posted
                | with_reducible apply modCurtain_kept h | split

theorem dwellExpire_kept (h : KeptByOwners P) (s : State) (hs : P s) :
    P (dwellExpire s) := by
  simp only [dwellExpire]
  repeat' first | with_reducible assumption | with_reducible apply reexamine_kept h
                | with_reducible apply setDemo_kept h.toKeptByCurtains
                | with_reducible apply startSegment_kept h.toKeptByCurtains | split

theorem loweringExpire_kept (h : KeptByOwners P) (s : State) (hs : P s) :
    P (loweringExpire s) := by
  simp only [loweringExpire]
  repeat' first | with_reducible assumption | with_reducible apply reexamine_kept h
                | with_reducible apply segmentEnded_kept h.toKeptByCurtains
                | with_reducible apply failDemo_kept h.toKeptByCurtains
                | with_reducible apply modCurtain_kept h.toKeptByCurtains
                | with_reducible apply issueDrive_kept h.toKeptByCurtains | split

theorem getCurtainsCmd_kept (_h : KeptByLinks P) (p : List Byte) (s : State) (hs : P s) :
    P (getCurtainsCmd p s).state := by
  simp only [getCurtainsCmd]
  repeat' first | with_reducible assumption | split

theorem callPlaced_kept (h : KeptByCalls P) (message : Nat) (zones : FohSet) (priority : Priority) (origin : Origin) (s : State) (hs : P s) :
    P (callPlaced message zones priority origin s).state := by
  simp only [callPlaced]
  repeat' first | with_reducible assumption | with_reducible apply placeAndSelect_kept h | split


theorem callAt_kept (h : KeptByCalls P) (a : CallArgs) (origin : Origin) (s : State) (hs : P s) :
    P (callAt a origin s).state := by
  simp only [callAt]
  repeat' first | with_reducible assumption | with_reducible apply callPlaced_kept h | split

theorem callCmd_kept (h : KeptByCalls P) (p : List Byte) (s : State) (hs : P s) :
    P (callCmd p s).state := by
  simp only [callCmd]
  repeat' first | with_reducible assumption | with_reducible apply callAt_kept h | split

theorem cancelAt_kept (h : KeptByOwners P) (p : Nat) (s : State) (hs : P s) :
    P (cancelAt p s) := by
  simp only [cancelAt]
  repeat' first | with_reducible assumption | with_reducible apply setQueue_kept h.toKeptByCalls
                | with_reducible apply freed_kept h | with_reducible apply post_kept h.posted
                | with_reducible apply dropCurrent_kept h.toKeptByCalls
                | with_reducible apply unitIssue_kept h.toKeptByCurtains.toKeptByLinks | exact Nat.le_refl _
                | exact List.length_filter_le _ _ | exact List.length_erase_le | exact Nat.zero_le _
                | simp [*] | split

theorem cancelCallsCmd_kept (h : KeptByOwners P) (payload : List Byte) (s : State) (hs : P s) :
    P (cancelCallsCmd payload s).state := by
  simp only [cancelCallsCmd]
  repeat' first | with_reducible assumption | with_reducible apply cancelAt_kept h | split

theorem callExpire_kept (h : KeptByCalls P) (message priority : Nat) (s : State) (hs : P s) :
    P (callExpire message priority s) := by
  simp only [callExpire]
  repeat' first | with_reducible assumption | with_reducible apply post_kept h.posted
                | with_reducible apply setQueue_kept h | exact Nat.le_refl _
                | exact List.length_filter_le _ _ | exact List.length_erase_le | exact Nat.zero_le _
                | simp [*] | split

theorem scheduleExpire_kept (h : KeptByCalls P) (source : Nat) (s : State) (hs : P s) :
    P (scheduleExpire source s) := by
  simp only [scheduleExpire]
  repeat' first | with_reducible assumption | with_reducible apply takeScheduled_kept h
                | with_reducible apply h.clc | exact Nat.le_refl _ | exact List.length_filter_le _ _
                | exact List.length_erase_le | exact Nat.zero_le _ | simp [*] | split

theorem overrunExpire_kept (h : KeptByOwners P) (s : State) (hs : P s) :
    P (overrunExpire s) := by
  simp only [overrunExpire]
  repeat' first | with_reducible assumption | with_reducible apply freed_kept h
                | with_reducible apply post_kept h.posted
                | with_reducible apply dropCurrent_kept h.toKeptByCalls
                | with_reducible apply unitIssue_kept h.toKeptByCurtains.toKeptByLinks | split

theorem afterPage_kept (h : KeptByOwners P) (s : State) (hs : P s) :
    P (afterPage s) := by
  simp only [afterPage]
  repeat' first | with_reducible assumption | with_reducible apply resumeEvacuation_kept h.toKeptByCalls
                | with_reducible apply freed_kept h | split

theorem pageLimitExpire_kept (h : KeptByOwners P) (s : State) (hs : P s) :
    P (pageLimitExpire s) := by
  simp only [pageLimitExpire]
  repeat' first | with_reducible assumption | with_reducible apply afterPage_kept h
                | with_reducible apply endPage_kept h.toKeptByCalls | split

theorem announcerRegained_kept (h : KeptByCalls P) (r : UnitReply) (s : State) (hs : P s) :
    P (announcerRegained r s) := by
  simp only [announcerRegained]
  repeat' first | with_reducible assumption | with_reducible apply unitIssue_kept h.toKeptByLinks
                | with_reducible apply issueEvacPlay_kept h.toKeptByLinks
                | with_reducible apply select_kept h | with_reducible apply endPage_kept h
                | with_reducible apply h.clc | exact Nat.le_refl _ | exact List.length_filter_le _ _
                | exact List.length_erase_le | exact Nat.zero_le _ | simp [*] | split

theorem recut_kept (h : KeptByCalls P) (s : State) (hs : P s) :
    P (recut s) := by
  simp only [recut]
  repeat' first | with_reducible assumption | with_reducible apply unitIssue_kept h.toKeptByLinks
                | with_reducible apply h.clc | exact Nat.le_refl _ | exact List.length_filter_le _ _
                | exact List.length_erase_le | exact Nat.zero_le _ | simp [*] | split

theorem playIsTaken_kept (h : KeptByCalls P) (c : Call) (s : State) (hs : P s) :
    P (playIsTaken c s) := by
  simp only [playIsTaken]
  repeat' first | with_reducible assumption | with_reducible apply recut_kept h | with_reducible apply h.clc
                | exact Nat.le_refl _


theorem callEnds_kept (h : KeptByOwners P) (c : Call) (s : State) (hs : P s) :
    P (callEnds c s) := by
  simp only [callEnds]
  repeat' first | with_reducible assumption | with_reducible apply dropCurrent_kept h.toKeptByCalls
                | with_reducible apply freed_kept h | with_reducible apply post_kept h.posted | split


theorem playingReply_kept (h : KeptByOwners P) (r : UnitReply) (ack : Option (LoopCmd × Bool)) (c : Call) (s : State) (hs : P s) :
    P (playingReply r ack c s) := by
  simp only [playingReply]
  repeat' first | with_reducible assumption | with_reducible apply freed_kept h
                | with_reducible apply post_kept h.posted
                | with_reducible apply dropCurrent_kept h.toKeptByCalls
                | with_reducible apply callEnds_kept h
                | with_reducible apply playIsTaken_kept h.toKeptByCalls | split

theorem evacPlayRefused_kept (h : KeptByCalls P) (s : State) (hs : P s) :
    P (evacPlayRefused s) := by
  simp only [evacPlayRefused]
  repeat' first | with_reducible assumption | with_reducible apply issueEvacPlay_kept h.toKeptByLinks
                | with_reducible apply post_kept h.posted | with_reducible apply h.clc | exact Nat.le_refl _
                | exact List.length_filter_le _ _ | exact List.length_erase_le | exact Nat.zero_le _
                | simp [*] | split

theorem evacAck_kept (h : KeptByCalls P) (ack : Option (LoopCmd × Bool)) (s : State) (hs : P s) :
    P (evacAck ack s) := by
  simp only [evacAck]
  repeat' first | with_reducible assumption | with_reducible apply evacPlayRefused_kept h
                | with_reducible apply recut_kept h | with_reducible apply h.clc | exact Nat.le_refl _
                | exact List.length_filter_le _ _ | exact List.length_erase_le | exact Nat.zero_le _
                | simp [*] | split

theorem evacCut_kept (h : KeptByCalls P) (s : State) (hs : P s) :
    P (evacCut s) := by
  simp only [evacCut]
  repeat' first | with_reducible assumption | with_reducible apply grantPage_kept h
                | with_reducible apply issueEvacPlay_kept h.toKeptByLinks | with_reducible apply h.clc
                | exact Nat.le_refl _ | exact List.length_filter_le _ _ | exact List.length_erase_le
                | exact Nat.zero_le _ | simp [*] | split

theorem evacReply_kept (h : KeptByCalls P) (r : UnitReply) (ack : Option (LoopCmd × Bool)) (s : State) (hs : P s) :
    P (evacReply r ack s) := by
  simp only [evacReply]
  repeat' first | with_reducible assumption | with_reducible apply evacAck_kept h
                | with_reducible apply evacCut_kept h | split

theorem announcerReply_kept (h : KeptByOwners P) (r : UnitReply) (ack : Option (LoopCmd × Bool)) (s : State) (hs : P s) :
    P (announcerReply r ack s) := by
  simp only [announcerReply]
  repeat' first | with_reducible assumption | with_reducible apply announcerRegained_kept h.toKeptByCalls
                | with_reducible apply playingReply_kept h
                | with_reducible apply evacReply_kept h.toKeptByCalls | with_reducible apply h.clc
                | exact Nat.le_refl _ | exact List.length_filter_le _ _ | exact List.length_erase_le
                | exact Nat.zero_le _ | simp [*] | split

theorem announcerLost_kept (h : KeptByCalls P) (a : Nat) (s : State) (hs : P s) :
    P (announcerLost a s) := by
  simp only [announcerLost]
  repeat' first | with_reducible assumption | with_reducible apply post_kept h.posted
                | with_reducible apply h.clc | exact Nat.le_refl _


theorem requestRose_kept (h : KeptByOwners P) (cls : PageClass) (s : State) (hs : P s) :
    P (requestRose cls s) := by
  simp only [requestRose]
  repeat' first | with_reducible assumption | with_reducible apply select_kept h.toKeptByCalls
                | with_reducible apply cutCall_kept h.toKeptByCalls | with_reducible apply afterPage_kept h
                | with_reducible apply endPage_kept h.toKeptByCalls
                | with_reducible apply fireInEvacuation_kept h.toKeptByCalls | split

theorem setRequests_kept (h : KeptByCalls P) (rs : List Request) (s : State) (hs : P s) :
    P (setRequests rs s) := by
  simp only [setRequests]
  repeat' first | with_reducible assumption | with_reducible apply h.clc | exact Nat.le_refl _



theorem requestShown_kept (h : KeptByOwners P) (a : Nat) (cls : PageClass) (zones : FohSet) (s : State) (hs : P s) :
    P (requestShown a cls zones s) := by
  simp only [requestShown]
  repeat' first | with_reducible assumption | with_reducible apply requestRose_kept h
                | with_reducible apply setRequests_kept h.toKeptByCalls | split

theorem requestGone_kept (h : KeptByOwners P) (a : Nat) (s : State) (hs : P s) :
    P (requestGone a s) := by
  simp only [requestGone]
  repeat' first | with_reducible assumption | with_reducible apply endPage_kept h.toKeptByCalls
                | with_reducible apply setRequests_kept h.toKeptByCalls
                | with_reducible apply afterPage_kept h | split

theorem owedRevoke_kept (h : KeptByCalls P) (a : Nat) (s : State) (hs : P s) :
    P (owedRevoke a s) := by
  simp only [owedRevoke]
  repeat' first | with_reducible assumption | with_reducible apply issue_kept h.toKeptByLinks
                | with_reducible apply h.clc | exact Nat.le_refl _ | exact List.length_filter_le _ _
                | exact List.length_erase_le | exact Nat.zero_le _ | simp [*] | split

theorem pagingReply_kept (h : KeptByOwners P) (a : Nat) (cls : Option PageClass) (zones : FohSet) (s : State) (hs : P s) :
    P (pagingReply a cls zones s) := by
  simp only [pagingReply]
  repeat' first | with_reducible assumption | with_reducible apply owedRevoke_kept h.toKeptByCalls
                | with_reducible apply requestShown_kept h | with_reducible apply requestGone_kept h
                | with_reducible apply h.clc | exact Nat.le_refl _ | exact List.length_filter_le _ _
                | exact List.length_erase_le | exact Nat.zero_le _ | simp [*] | split

theorem pagingLost_kept (h : KeptByOwners P) (a : Nat) (s : State) (hs : P s) :
    P (pagingLost a s) := by
  simp only [pagingLost]
  repeat' first | with_reducible assumption | with_reducible apply requestGone_kept h

theorem getCallsCmd_kept (_h : KeptByLinks P) (p : List Byte) (s : State) (hs : P s) :
    P (getCallsCmd p s).state := by
  simp only [getCallsCmd]
  repeat' first | with_reducible assumption | split

theorem actionAnswer_kept (h : KeptByBlocks P) (a : RawAction) (s : State) (hs : P s) :
    P (actionAnswer a s).state := by
  simp only [actionAnswer]
  repeat' first | with_reducible assumption | with_reducible apply suppressAt_kept h.toKeptByStage
                | with_reducible apply houseFadeArgs_kept h.toKeptByStage.toKeptByOwners.toKeptBySignal.toKeptByOutput
                | with_reducible apply callAt_kept h.toKeptByStage.toKeptByOwners.toKeptByCalls
                | with_reducible apply setPhaseAt_kept h
                | with_reducible apply curtainMoveAt_kept h.toKeptByStage.toKeptByOwners | split


theorem reportAction_kept (h : KeptByLinks P) (cue position : Nat) (r : Result) (s : State) (hs : P s) :
    P (reportAction cue position r s) := by
  simp only [reportAction]
  repeat' first | with_reducible assumption | with_reducible apply post_kept h.posted | split

theorem runActions_kept (h : KeptByBlocks P) (cue : Nat) (report : Bool) (position : Nat) (l : List RawAction)
    (s : State) (hs : P s) : P (runActions cue report position l s).1 := by
  induction l generalizing position s with
  | nil => simpa only [runActions] using hs
  | cons a rest ih =>
    simp only [runActions]
    apply ih
    split
    · exact reportAction_kept h.toKeptByCurtains.toKeptByLinks _ _ _ _ (actionAnswer_kept h _ _ hs)
    · exact actionAnswer_kept h _ _ hs

theorem lookUp_kept (h : KeptByBlocks P) (x : Nat) (s : State) (hs : P s) :
    P (lookUp x s) := by
  simp only [lookUp]
  repeat' first | with_reducible assumption | with_reducible apply post_kept h.posted
                | with_reducible apply runActions_kept h | split

theorem countFrame_kept (h : KeptByBlocks P) (x : Nat) (s : State) (hs : P s) :
    P (countFrame x s) := by
  simp only [countFrame]
  repeat' first | with_reducible assumption | with_reducible apply lookUp_kept h
                | with_reducible apply h.crg | split

theorem frameReported_kept (h : KeptByBlocks P) (k : Nat) (s : State) (hs : P s) :
    P (frameReported k s) := by
  simp only [frameReported]
  repeat' first | with_reducible assumption | with_reducible apply countFrame_kept h
                | with_reducible apply breakPair_kept h.toKeptByStage.toKeptByOwners.toKeptBySignal | split


theorem discardReported_kept (h : KeptBySignal P) (s : State) (hs : P s) :
    P (discardReported s) := by
  simp only [discardReported]
  repeat' first | with_reducible assumption | with_reducible apply breakPair_kept h | split

theorem goCueAt_kept (h : KeptByBlocks P) (x : Nat) (s : State) (hs : P s) :
    P (goCueAt x s).state := by
  simp only [goCueAt]
  repeat' first | with_reducible assumption | with_reducible apply runActions_kept h
                | with_reducible apply post_kept h.posted | split

theorem goCueCmd_kept (h : KeptByBlocks P) (p : List Byte) (s : State) (hs : P s) :
    P (goCueCmd p s).state := by
  simp only [goCueCmd]
  repeat' first | with_reducible assumption | with_reducible apply goCueAt_kept h | split

theorem modStation_kept (h : KeptByLinks P) (a : Nat) (f : Station → Station) (s : State) (hs : P s) :
    P (modStation a f s) := by
  simp only [modStation]
  repeat' first | with_reducible assumption | with_reducible apply h.lpc

theorem startPoll_kept (h : KeptByLinks P) (s : State) (hs : P s) :
    P (startPoll s) := by
  simp only [startPoll]
  repeat' first | with_reducible assumption | with_reducible apply h.lpc | split

theorem endTransaction_kept (h : KeptByLinks P) (s : State) (hs : P s) :
    P (endTransaction s) := by
  simp only [endTransaction]
  repeat' first | with_reducible assumption | with_reducible apply h.lpc

theorem deliver_kept (h : KeptByStage P) (st : Station) (content : List Byte) (ack : Option (LoopCmd × Bool)) (s : State) (hs : P s) :
    P (deliver st content ack s) := by
  simp only [deliver]
  repeat' first | with_reducible assumption | with_reducible apply zoneReply_kept h
                | with_reducible apply driveReply_kept h.toKeptByOwners
                | with_reducible apply announcerReply_kept h.toKeptByOwners
                | with_reducible apply pagingReply_kept h.toKeptByOwners | split

theorem postAnswers_kept (h : KeptByLinks P) (st : Station) (s : State) (hs : P s) :
    P (postAnswers st s) := by
  simp only [postAnswers]
  repeat' first | with_reducible assumption | with_reducible apply post_kept h.posted | split

theorem goodReply_kept (h : KeptByStage P) (st : Station) (t : Transaction) (r : ReplyFields) (s : State) (hs : P s) :
    P (goodReply st t r s) := by
  simp only [goodReply]
  repeat' first | with_reducible assumption | with_reducible apply deliver_kept h
                | with_reducible apply postAnswers_kept h.toKeptByOwners.toKeptByCurtains.toKeptByLinks
                | with_reducible apply modStation_kept h.toKeptByOwners.toKeptByCurtains.toKeptByLinks


theorem tellLoss_kept (h : KeptByOwners P) (st : Station) (s : State) (hs : P s) :
    P (tellLoss st s) := by
  simp only [tellLoss]
  repeat' first | with_reducible assumption | with_reducible apply zoneUnitLost_kept h
                | with_reducible apply driveUnitLost_kept h
                | with_reducible apply announcerLost_kept h.toKeptByCalls
                | with_reducible apply pagingLost_kept h | split

theorem miss_kept (h : KeptByOwners P) (st : Station) (s : State) (hs : P s) :
    P (miss st s) := by
  simp only [miss]
  repeat' first | with_reducible assumption
                | with_reducible apply modStation_kept h.toKeptByCurtains.toKeptByLinks
                | with_reducible apply tellLoss_kept h | with_reducible apply post_kept h.posted | split


theorem concludeWith_kept (h : KeptByStage P) (st : Station) (t : Transaction) (f : LoopFaults) (b : List Byte) (s : State) (hs : P s) :
    P (concludeWith st t f b s) := by
  simp only [concludeWith]
  repeat' first | with_reducible assumption | with_reducible apply miss_kept h.toKeptByOwners
                | with_reducible apply goodReply_kept h | with_reducible apply h.sticky | split

theorem conclude_kept (h : KeptByStage P) (forced : Bool) (bs : List LoopByte) (s : State) (hs : P s) :
    P (conclude forced bs s) := by
  simp only [conclude]
  repeat' first | with_reducible assumption
                | with_reducible apply endTransaction_kept h.toKeptByOwners.toKeptByCurtains.toKeptByLinks
                | with_reducible apply concludeWith_kept h | split

theorem windowCloses_kept (h : KeptByStage P) (s : State) (hs : P s) :
    P (windowCloses s) := by
  simp only [windowCloses]
  repeat' first | with_reducible assumption | with_reducible apply conclude_kept h | split

theorem hear_kept (h : KeptByLinks P) (t : Transaction) (running : Bool) (bs : List LoopByte) (s : State) (hs : P s) :
    P (hear t running bs s) := by
  simp only [hear]
  repeat' first | with_reducible assumption | with_reducible apply h.lpc

theorem noteBytes_kept (h : KeptByLinks P) (bs : List LoopByte) (s : State) (hs : P s) :
    P (noteBytes bs s) := by
  simp only [noteBytes]
  repeat' first | with_reducible assumption | with_reducible apply h.lpc

theorem takeReply_kept (h : KeptByStage P) (t : Transaction) (running : Bool) (bs : List LoopByte) (s : State)
    (hs : P s) : P (takeReply t running bs s) := by
  simp only [takeReply]
  repeat' first | with_reducible assumption | with_reducible apply conclude_kept h
                | with_reducible apply hear_kept h.toKeptByOwners.toKeptByCurtains.toKeptByLinks | split

theorem bytesCome_kept (h : KeptByStage P) (running : Bool) (bs : List LoopByte) (s : State) (hs : P s) :
    P (bytesCome running bs s) := by
  simp only [bytesCome]
  repeat' first | with_reducible assumption | with_reducible apply takeReply_kept h
                | with_reducible apply noteBytes_kept h.toKeptByOwners.toKeptByCurtains.toKeptByLinks | split

theorem replyHeard_kept (h : KeptByStage P) (bs : List LoopByte) (s : State) (hs : P s) :
    P (replyHeard bs s) := bytesCome_kept h false bs s hs

theorem replyForcedOver_kept (h : KeptByStage P) (bs : List LoopByte) (s : State) (hs : P s) :
    P (replyForcedOver bs s) := bytesCome_kept h true bs s hs

theorem loopRestart_kept (h : KeptByLinks P) (s : State) (hs : P s) :
    P (loopRestart s) := by
  simp only [loopRestart]
  repeat' first | with_reducible assumption | with_reducible apply h.lpc

theorem linkRestart_kept (h : KeptByBlocks P) (s : State) (hs : P s) :
    P (linkRestart s) := by
  simp only [linkRestart]
  repeat' first | with_reducible assumption | with_reducible apply h.evq | with_reducible apply h.cmi
                | exact Nat.le_refl _


theorem streamRestart_kept (h : KeptBySignal P) (s : State) (hs : P s) :
    P (streamRestart s) := by
  simp only [streamRestart]
  repeat' first | with_reducible assumption | with_reducible apply breakPair_kept h
                | with_reducible apply h.srx

theorem zonesRestart_kept (h : KeptByStage P) (s : State) (hs : P s) :
    P (zonesRestart s) := by
  simp only [zonesRestart]
  repeat' first | with_reducible assumption | with_reducible apply closeAllWindows_kept h
                | with_reducible apply h.zmn

theorem warmRestart_kept (h : KeptByBlocks P) (cause : Nat) (s : State) (hs : P s) :
    P (warmRestart cause s) := by
  simp only [warmRestart]
  repeat' first | with_reducible assumption | with_reducible apply zonesRestart_kept h.toKeptByStage
                | with_reducible apply fblRestart_kept h.toKeptByStage.toKeptByOwners.toKeptBySignal.toKeptByOutput
                | with_reducible apply callsRestart_kept h.toKeptByStage.toKeptByOwners.toKeptByCalls
                | with_reducible apply curtainsRestart_kept h.toKeptByStage.toKeptByOwners.toKeptByCurtains
                | with_reducible apply storeRestart_kept h.toKeptByStage.toKeptByOwners.toKeptByTables
                | with_reducible apply streamRestart_kept h.toKeptByStage.toKeptByOwners.toKeptBySignal
                | with_reducible apply loopRestart_kept h.toKeptByStage.toKeptByOwners.toKeptByCurtains.toKeptByLinks
                | with_reducible apply post_kept h.posted | with_reducible apply linkRestart_kept h
                | with_reducible apply h.eval

theorem restartPulse_kept (h : KeptByBlocks P) (s : State) (hs : P s) :
    P (restartPulse s) := by
  simp only [restartPulse]
  repeat' first | with_reducible assumption | with_reducible apply warmRestart_kept h
                | with_reducible apply h.armed | split

theorem readEventCmd_kept (h : KeptByBlocks P) (p : List Byte) (s : State) (hs : P s) :
    P (readEventCmd p s).state := by
  simp only [readEventCmd]
  repeat' first | with_reducible assumption | with_reducible apply h.evq | exact Nat.le_refl _
                | exact List.length_filter_le _ _ | exact List.length_erase_le | exact Nat.zero_le _
                | simp [*] | split

theorem ackAttentionCmd_kept (h : KeptByBlocks P) (p : List Byte) (s : State) (hs : P s) :
    P (ackAttentionCmd p s).state := by
  simp only [ackAttentionCmd]
  repeat' first | with_reducible assumption | with_reducible apply h.evq | exact Nat.le_refl _
                | exact List.length_filter_le _ _ | exact List.length_erase_le | exact Nat.zero_le _
                | simp [*] | split

theorem setMaskCmd_kept (h : KeptByBlocks P) (p : List Byte) (s : State) (hs : P s) :
    P (setMaskCmd p s).state := by
  simp only [setMaskCmd]
  repeat' first | with_reducible assumption | with_reducible apply h.evq | with_reducible apply h.eval
                | exact Nat.le_refl _ | exact List.length_filter_le _ _ | exact List.length_erase_le
                | exact Nat.zero_le _ | simp [*] | split

theorem gapExpire_kept (h : KeptByBlocks P) (s : State) (hs : P s) :
    P (gapExpire s) := by
  simp only [gapExpire]
  repeat' first | with_reducible assumption | with_reducible apply h.evq | with_reducible apply h.eval
                | exact Nat.le_refl _ | exact List.length_filter_le _ _ | exact List.length_erase_le
                | exact Nat.zero_le _ | simp [*] | split

theorem getStatusCmd_kept (_h : KeptByLinks P) (p : List Byte) (s : State) (hs : P s) :
    P (getStatusCmd p s).state := by
  simp only [getStatusCmd]
  repeat' first | with_reducible assumption | split

theorem getIdentityCmd_kept (_h : KeptByLinks P) (p : List Byte) (s : State) (hs : P s) :
    P (getIdentityCmd p s).state := by
  simp only [getIdentityCmd]
  repeat' first | with_reducible assumption | split

theorem restartCmd_kept (h : KeptByBlocks P) (p : List Byte) (s : State) (hs : P s) :
    P (restartCmd p s).state := by
  simp only [restartCmd]
  repeat' first | with_reducible assumption | with_reducible apply h.cmi | split

theorem unknownCmd_kept (_h : KeptByLinks P) (_p : List Byte) (s : State) (hs : P s) :
    P (unknownCmd _p s).state := by
  simp only [unknownCmd]
  repeat' first | with_reducible assumption

theorem buildReply_kept (h : KeptByBlocks P) (code : Nat) (a : Answer) (hs : P a.state) :
    P (buildReply code a) :=
  h.fresh (h.cmi hs)

theorem refuseKey_kept (h : KeptByLinks P) (code : Nat) (s : State) (hs : P s) :
    P (refuseKey code s).state := by
  simp only [refuseKey]
  repeat' first | with_reducible assumption | with_reducible apply post_kept h.posted

theorem takeCommand_kept (h : KeptByBlocks P) (code : Nat) (key : Bool) (owner : List Byte → State → Answer)
    (p : List Byte) (s : State) (ho : P (owner p s).state) (hs : P s) :
    P (takeCommand code key owner p s) := by
  simp only [takeCommand]
  repeat' split
  · exact hs
  · exact h.sticky hs
  · exact buildReply_kept h _ _ (refuseKey_kept h.toKeptByCurtains.toKeptByLinks _ _ hs)
  · exact buildReply_kept h _ _ ho

theorem replyEnds_kept (h : KeptByBlocks P) (s : State) (hs : P s) :
    P (replyEnds s) := by
  simp only [replyEnds]
  repeat' first | with_reducible assumption | with_reducible apply warmRestart_kept h
                | with_reducible apply h.cmi | split

theorem takeSetPhase_kept (h : KeptByBlocks P) (p : List Byte) (s : State) (hs : P s) :
    P (takeSetPhase p s) := by
  simp only [takeSetPhase]
  repeat' first | with_reducible assumption | with_reducible apply takeCommand_kept h
                | with_reducible apply setPhaseCmd_kept h

theorem takeGetShow_kept (h : KeptByBlocks P) (p : List Byte) (s : State) (hs : P s) :
    P (takeGetShow p s) := by
  simp only [takeGetShow]
  repeat' first | with_reducible assumption | with_reducible apply takeCommand_kept h
                | with_reducible apply getShowCmd_kept h.toKeptByStage.toKeptByOwners.toKeptByCurtains.toKeptByLinks


theorem takeHouseFade_kept (h : KeptByBlocks P) (p : List Byte) (s : State) (hs : P s) :
    P (takeHouseFade p s) := by
  simp only [takeHouseFade]
  repeat' first | with_reducible assumption | with_reducible apply takeCommand_kept h
                | with_reducible apply houseFadeCmd_kept h.toKeptByStage.toKeptByOwners.toKeptBySignal.toKeptByOutput


theorem takeHouseConsole_kept (h : KeptByBlocks P) (p : List Byte) (s : State) (hs : P s) :
    P (takeHouseConsole p s) := by
  simp only [takeHouseConsole]
  repeat' first | with_reducible assumption | with_reducible apply takeCommand_kept h
                | with_reducible apply houseConsoleCmd_kept h.toKeptByStage.toKeptByOwners.toKeptBySignal.toKeptByOutput


theorem takeHouseMaster_kept (h : KeptByBlocks P) (p : List Byte) (s : State) (hs : P s) :
    P (takeHouseMaster p s) := by
  simp only [takeHouseMaster]
  repeat' first | with_reducible assumption | with_reducible apply takeCommand_kept h
                | with_reducible apply houseMasterCmd_kept h.toKeptByStage.toKeptByOwners.toKeptBySignal.toKeptByOutput


theorem takeGetHouse_kept (h : KeptByBlocks P) (p : List Byte) (s : State) (hs : P s) :
    P (takeGetHouse p s) := by
  simp only [takeGetHouse]
  repeat' first | with_reducible assumption | with_reducible apply takeCommand_kept h
                | with_reducible apply getHouseCmd_kept h.toKeptByStage.toKeptByOwners.toKeptByCurtains.toKeptByLinks


theorem takeGoCue_kept (h : KeptByBlocks P) (p : List Byte) (s : State) (hs : P s) :
    P (takeGoCue p s) := by
  simp only [takeGoCue]
  repeat' first | with_reducible assumption | with_reducible apply takeCommand_kept h
                | with_reducible apply goCueCmd_kept h

theorem takeSuppress_kept (h : KeptByBlocks P) (p : List Byte) (s : State) (hs : P s) :
    P (takeSuppress p s) := by
  simp only [takeSuppress]
  repeat' first | with_reducible assumption | with_reducible apply takeCommand_kept h
                | with_reducible apply suppressCmd_kept h.toKeptByStage

theorem takeGetZones_kept (h : KeptByBlocks P) (p : List Byte) (s : State) (hs : P s) :
    P (takeGetZones p s) := by
  simp only [takeGetZones]
  repeat' first | with_reducible assumption | with_reducible apply takeCommand_kept h
                | with_reducible apply getZonesCmd_kept h.toKeptByStage.toKeptByOwners.toKeptByCurtains.toKeptByLinks


theorem takeAlarmAck_kept (h : KeptByBlocks P) (p : List Byte) (s : State) (hs : P s) :
    P (takeAlarmAck p s) := by
  simp only [takeAlarmAck]
  repeat' first | with_reducible assumption | with_reducible apply takeCommand_kept h
                | with_reducible apply alarmAckCmd_kept h.toKeptByStage

theorem takeAlarmFalse_kept (h : KeptByBlocks P) (p : List Byte) (s : State) (hs : P s) :
    P (takeAlarmFalse p s) := by
  simp only [takeAlarmFalse]
  repeat' first | with_reducible assumption | with_reducible apply takeCommand_kept h
                | with_reducible apply alarmFalseCmd_kept h.toKeptByStage

theorem takeAlarmReset_kept (h : KeptByBlocks P) (p : List Byte) (s : State) (hs : P s) :
    P (takeAlarmReset p s) := by
  simp only [takeAlarmReset]
  repeat' first | with_reducible assumption | with_reducible apply takeCommand_kept h
                | with_reducible apply alarmResetCmd_kept h

theorem takeGetAlarm_kept (h : KeptByBlocks P) (p : List Byte) (s : State) (hs : P s) :
    P (takeGetAlarm p s) := by
  simp only [takeGetAlarm]
  repeat' first | with_reducible assumption | with_reducible apply takeCommand_kept h
                | with_reducible apply getAlarmCmd_kept h.toKeptByStage.toKeptByOwners.toKeptByCurtains.toKeptByLinks


theorem takeCurtainMove_kept (h : KeptByBlocks P) (p : List Byte) (s : State) (hs : P s) :
    P (takeCurtainMove p s) := by
  simp only [takeCurtainMove]
  repeat' first | with_reducible assumption | with_reducible apply takeCommand_kept h
                | with_reducible apply curtainMoveCmd_kept h.toKeptByStage.toKeptByOwners


theorem takeDemonstrate_kept (h : KeptByBlocks P) (p : List Byte) (s : State) (hs : P s) :
    P (takeDemonstrate p s) := by
  simp only [takeDemonstrate]
  repeat' first | with_reducible assumption | with_reducible apply takeCommand_kept h
                | with_reducible apply demonstrateCmd_kept h.toKeptByStage.toKeptByOwners


theorem takeClearLatch_kept (h : KeptByBlocks P) (p : List Byte) (s : State) (hs : P s) :
    P (takeClearLatch p s) := by
  simp only [takeClearLatch]
  repeat' first | with_reducible assumption | with_reducible apply takeCommand_kept h
                | with_reducible apply clearLatchCmd_kept h.toKeptByStage.toKeptByOwners.toKeptByCurtains


theorem takeGetCurtains_kept (h : KeptByBlocks P) (p : List Byte) (s : State) (hs : P s) :
    P (takeGetCurtains p s) := by
  simp only [takeGetCurtains]
  repeat' first | with_reducible assumption | with_reducible apply takeCommand_kept h
                | with_reducible apply getCurtainsCmd_kept h.toKeptByStage.toKeptByOwners.toKeptByCurtains.toKeptByLinks


theorem takeCall_kept (h : KeptByBlocks P) (p : List Byte) (s : State) (hs : P s) :
    P (takeCall p s) := by
  simp only [takeCall]
  repeat' first | with_reducible assumption | with_reducible apply takeCommand_kept h
                | with_reducible apply callCmd_kept h.toKeptByStage.toKeptByOwners.toKeptByCalls


theorem takeCancelCalls_kept (h : KeptByBlocks P) (p : List Byte) (s : State) (hs : P s) :
    P (takeCancelCalls p s) := by
  simp only [takeCancelCalls]
  repeat' first | with_reducible assumption | with_reducible apply takeCommand_kept h
                | with_reducible apply cancelCallsCmd_kept h.toKeptByStage.toKeptByOwners


theorem takeGetCalls_kept (h : KeptByBlocks P) (p : List Byte) (s : State) (hs : P s) :
    P (takeGetCalls p s) := by
  simp only [takeGetCalls]
  repeat' first | with_reducible assumption | with_reducible apply takeCommand_kept h
                | with_reducible apply getCallsCmd_kept h.toKeptByStage.toKeptByOwners.toKeptByCurtains.toKeptByLinks


theorem takeReadEvent_kept (h : KeptByBlocks P) (p : List Byte) (s : State) (hs : P s) :
    P (takeReadEvent p s) := by
  simp only [takeReadEvent]
  repeat' first | with_reducible assumption | with_reducible apply takeCommand_kept h
                | with_reducible apply readEventCmd_kept h

theorem takeAckAttention_kept (h : KeptByBlocks P) (p : List Byte) (s : State) (hs : P s) :
    P (takeAckAttention p s) := by
  simp only [takeAckAttention]
  repeat' first | with_reducible assumption | with_reducible apply takeCommand_kept h
                | with_reducible apply ackAttentionCmd_kept h

theorem takeSetAttentionMask_kept (h : KeptByBlocks P) (p : List Byte) (s : State) (hs : P s) :
    P (takeSetAttentionMask p s) := by
  simp only [takeSetAttentionMask]
  repeat' first | with_reducible assumption | with_reducible apply takeCommand_kept h
                | with_reducible apply setMaskCmd_kept h

theorem takeGetStatus_kept (h : KeptByBlocks P) (p : List Byte) (s : State) (hs : P s) :
    P (takeGetStatus p s) := by
  simp only [takeGetStatus]
  repeat' first | with_reducible assumption | with_reducible apply takeCommand_kept h
                | with_reducible apply getStatusCmd_kept h.toKeptByStage.toKeptByOwners.toKeptByCurtains.toKeptByLinks


theorem takeGetIdentity_kept (h : KeptByBlocks P) (p : List Byte) (s : State) (hs : P s) :
    P (takeGetIdentity p s) := by
  simp only [takeGetIdentity]
  repeat' first | with_reducible assumption | with_reducible apply takeCommand_kept h
                | with_reducible apply getIdentityCmd_kept h.toKeptByStage.toKeptByOwners.toKeptByCurtains.toKeptByLinks


theorem takeRestart_kept (h : KeptByBlocks P) (p : List Byte) (s : State) (hs : P s) :
    P (takeRestart p s) := by
  simp only [takeRestart]
  repeat' first | with_reducible assumption | with_reducible apply takeCommand_kept h
                | with_reducible apply restartCmd_kept h

theorem takeStageOpen_kept (h : KeptByBlocks P) (p : List Byte) (s : State) (hs : P s) :
    P (takeStageOpen p s) := by
  simp only [takeStageOpen]
  repeat' first | with_reducible assumption | with_reducible apply takeCommand_kept h
                | with_reducible apply stageOpenCmd_kept h.toKeptByStage.toKeptByOwners.toKeptByTables


theorem takeStageWrite_kept (h : KeptByBlocks P) (p : List Byte) (s : State) (hs : P s) :
    P (takeStageWrite p s) := by
  simp only [takeStageWrite]
  repeat' first | with_reducible assumption | with_reducible apply takeCommand_kept h
                | with_reducible apply stageWriteCmd_kept h.toKeptByStage.toKeptByOwners.toKeptByTables


theorem takeStageQueue_kept (h : KeptByBlocks P) (p : List Byte) (s : State) (hs : P s) :
    P (takeStageQueue p s) := by
  simp only [takeStageQueue]
  repeat' first | with_reducible assumption | with_reducible apply takeCommand_kept h
                | with_reducible apply stageQueueCmd_kept h.toKeptByStage.toKeptByOwners.toKeptByTables


theorem takeCommit_kept (h : KeptByBlocks P) (p : List Byte) (s : State) (hs : P s) :
    P (takeCommit p s) := by
  simp only [takeCommit]
  repeat' first | with_reducible assumption | with_reducible apply takeCommand_kept h
                | with_reducible apply commitCmd_kept h.toKeptByStage.toKeptByOwners

theorem takeAbortCommit_kept (h : KeptByBlocks P) (p : List Byte) (s : State) (hs : P s) :
    P (takeAbortCommit p s) := by
  simp only [takeAbortCommit]
  repeat' first | with_reducible assumption | with_reducible apply takeCommand_kept h
                | with_reducible apply abortCommitCmd_kept h.toKeptByStage.toKeptByOwners.toKeptByTables


theorem takeGetCommit_kept (h : KeptByBlocks P) (p : List Byte) (s : State) (hs : P s) :
    P (takeGetCommit p s) := by
  simp only [takeGetCommit]
  repeat' first | with_reducible assumption | with_reducible apply takeCommand_kept h
                | with_reducible apply getCommitCmd_kept h.toKeptByStage.toKeptByOwners.toKeptByCurtains.toKeptByLinks


theorem takeReadActive_kept (h : KeptByBlocks P) (p : List Byte) (s : State) (hs : P s) :
    P (takeReadActive p s) := by
  simp only [takeReadActive]
  repeat' first | with_reducible assumption | with_reducible apply takeCommand_kept h
                | with_reducible apply readActiveCmd_kept h.toKeptByStage.toKeptByOwners.toKeptByCurtains.toKeptByLinks


theorem takeSetAuthority_kept (h : KeptByBlocks P) (p : List Byte) (s : State) (hs : P s) :
    P (takeSetAuthority p s) := by
  simp only [takeSetAuthority]
  repeat' first | with_reducible assumption | with_reducible apply takeCommand_kept h
                | with_reducible apply setAuthorityCmd_kept h


theorem takeLockAuthority_kept (h : KeptByBlocks P) (p : List Byte) (s : State) (hs : P s) :
    P (takeLockAuthority p s) := by
  simp only [takeLockAuthority]
  repeat' first | with_reducible assumption | with_reducible apply takeCommand_kept h
                | with_reducible apply lockAuthorityCmd_kept h

theorem takeGetAuthority_kept (h : KeptByBlocks P) (p : List Byte) (s : State) (hs : P s) :
    P (takeGetAuthority p s) := by
  simp only [takeGetAuthority]
  repeat' first | with_reducible assumption | with_reducible apply takeCommand_kept h
                | with_reducible apply getAuthorityCmd_kept h.toKeptByStage.toKeptByOwners.toKeptByCurtains.toKeptByLinks


theorem takeUnknown_kept (h : KeptByBlocks P) (code : Nat) (p : List Byte) (s : State) (hs : P s) :
    P (takeUnknown code p s) := by
  simp only [takeUnknown]
  repeat' first | with_reducible assumption | with_reducible apply takeCommand_kept h
                | with_reducible apply unknownCmd_kept h.toKeptByStage.toKeptByOwners.toKeptByCurtains.toKeptByLinks


theorem takeInstr_kept (h : KeptByBlocks P) (i : Instr) (s : State) (hs : P s) :
    P (takeInstr i s) := by
  simp only [takeInstr]
  repeat' first | with_reducible assumption | with_reducible apply takeSetPhase_kept h
                | with_reducible apply takeGetShow_kept h | with_reducible apply takeHouseFade_kept h
                | with_reducible apply takeHouseConsole_kept h | with_reducible apply takeHouseMaster_kept h
                | with_reducible apply takeGetHouse_kept h | with_reducible apply takeGoCue_kept h
                | with_reducible apply takeSuppress_kept h | with_reducible apply takeGetZones_kept h
                | with_reducible apply takeAlarmAck_kept h | with_reducible apply takeAlarmFalse_kept h
                | with_reducible apply takeAlarmReset_kept h | with_reducible apply takeGetAlarm_kept h
                | with_reducible apply takeCurtainMove_kept h | with_reducible apply takeDemonstrate_kept h
                | with_reducible apply takeClearLatch_kept h | with_reducible apply takeGetCurtains_kept h
                | with_reducible apply takeCall_kept h | with_reducible apply takeCancelCalls_kept h
                | with_reducible apply takeGetCalls_kept h | with_reducible apply takeReadEvent_kept h
                | with_reducible apply takeAckAttention_kept h
                | with_reducible apply takeSetAttentionMask_kept h
                | with_reducible apply takeGetStatus_kept h | with_reducible apply takeGetIdentity_kept h
                | with_reducible apply takeRestart_kept h | with_reducible apply takeStageOpen_kept h
                | with_reducible apply takeStageWrite_kept h | with_reducible apply takeStageQueue_kept h
                | with_reducible apply takeCommit_kept h | with_reducible apply takeAbortCommit_kept h
                | with_reducible apply takeGetCommit_kept h | with_reducible apply takeReadActive_kept h
                | with_reducible apply takeSetAuthority_kept h
                | with_reducible apply takeLockAuthority_kept h
                | with_reducible apply takeGetAuthority_kept h | with_reducible apply takeUnknown_kept h
                | split

theorem recordFrame_kept (h : KeptBySignal P) (kind : FrameKind) (rest : List RxByte) (short long : Bool) (s : State) (hs : P s) :
    P (recordFrame kind rest short long s) := by
  simp only [recordFrame]
  repeat' first | with_reducible assumption | with_reducible apply h.srx

theorem framingFrame_kept (h : KeptByOwners P) (start : RxByte) (rest : List RxByte) (s : State) (hs : P s) :
    P (framingFrame start rest s) := by
  simp only [framingFrame]
  repeat' first | with_reducible assumption | with_reducible apply recordFrame_kept h.toKeptBySignal
                | with_reducible apply discardReported_kept h.toKeptBySignal | with_reducible apply h.sticky
                | split

theorem streamGood_kept (h : KeptBySignal P) (s : State) (hs : P s) :
    P (streamGood s) := by
  simp only [streamGood]
  repeat' first | with_reducible assumption | with_reducible apply fblStart_kept h.toKeptByOutput
                | with_reducible apply post_kept h.posted | with_reducible apply h.srx | split

theorem takeLevels_kept (h : KeptByBlocks P) (c : LengthCheck) (rest : List RxByte) (s : State) (hs : P s) :
    P (takeLevels c rest s) := by
  simp only [takeLevels]
  repeat' first | with_reducible assumption | with_reducible apply frameReported_kept h
                | with_reducible apply streamGood_kept h.toKeptByStage.toKeptByOwners.toKeptBySignal
                | with_reducible apply recordFrame_kept h.toKeptByStage.toKeptByOwners.toKeptBySignal
                | with_reducible apply h.srx

theorem wakeBreak_kept (h : KeptBySignal P) (s : State) (hs : P s) :
    P (wakeBreak s) := by
  simp only [wakeBreak]
  repeat' first | with_reducible assumption | with_reducible apply post_kept h.posted
                | with_reducible apply h.srx | split

theorem wakeDiscard_kept (h : KeptBySignal P) (c : LengthCheck) (rest : List RxByte) (s : State) (hs : P s) :
    P (wakeDiscard c rest s) := by
  simp only [wakeDiscard]
  repeat' first | with_reducible assumption | with_reducible apply discardReported_kept h
                | with_reducible apply recordFrame_kept h | with_reducible apply h.srx

theorem goodFrame_kept (h : KeptByBlocks P) (c : LengthCheck) (rest : List RxByte) (s : State) (hs : P s) :
    P (goodFrame c rest s) := by
  simp only [goodFrame]
  repeat' first | with_reducible assumption
                | with_reducible apply wakeBreak_kept h.toKeptByStage.toKeptByOwners.toKeptBySignal
                | with_reducible apply wakeDiscard_kept h.toKeptByStage.toKeptByOwners.toKeptBySignal
                | with_reducible apply takeLevels_kept h | split

theorem setLength_kept (h : KeptByOwners P) (short long : Bool) (s : State) (hs : P s) :
    P (setLength short long s) := by
  simp only [setLength]
  repeat' first | with_reducible assumption | with_reducible apply h.sticky

theorem levelFrame_kept (h : KeptByBlocks P) (rest : List RxByte) (s : State) (hs : P s) :
    P (levelFrame rest s) := by
  simp only [levelFrame]
  repeat' first | with_reducible assumption
                | with_reducible apply discardReported_kept h.toKeptByStage.toKeptByOwners.toKeptBySignal
                | with_reducible apply setLength_kept h.toKeptByStage.toKeptByOwners
                | with_reducible apply recordFrame_kept h.toKeptByStage.toKeptByOwners.toKeptBySignal
                | with_reducible apply goodFrame_kept h | split

theorem receiveControl_kept (h : KeptByBlocks P) (b : List Byte) (s : State) (hs : P s) :
    P (receiveControl b s) := by
  simp only [receiveControl]
  repeat' first | with_reducible assumption | with_reducible apply takeInstr_kept h
                | with_reducible apply h.sticky | split

theorem controlFrame_kept (h : KeptByBlocks P) (start : RxByte) (rest : List RxByte) (s : State) (hs : P s) :
    P (controlFrame start rest s) := by
  simp only [controlFrame]
  repeat' first | with_reducible assumption | with_reducible apply receiveControl_kept h
                | with_reducible apply recordFrame_kept h.toKeptByStage.toKeptByOwners.toKeptBySignal


theorem otherFrame_kept (h : KeptByOwners P) (start : RxByte) (rest : List RxByte) (s : State) (hs : P s) :
    P (otherFrame start rest s) := by
  simp only [otherFrame]
  repeat' first | with_reducible assumption
                | with_reducible apply holdOther_kept h.toKeptBySignal.toKeptByOutput
                | with_reducible apply setLength_kept h
                | with_reducible apply recordFrame_kept h.toKeptBySignal

theorem judgeFrame_kept (h : KeptByBlocks P) (start : RxByte) (rest : List RxByte) (s : State) (hs : P s) :
    P (judgeFrame start rest s) := by
  simp only [judgeFrame]
  repeat' first | with_reducible assumption
                | with_reducible apply framingFrame_kept h.toKeptByStage.toKeptByOwners
                | with_reducible apply levelFrame_kept h | with_reducible apply controlFrame_kept h
                | with_reducible apply otherFrame_kept h.toKeptByStage.toKeptByOwners | split

/-- What the end of a frame can do: nothing, only end the receiving, or have the bytes received judged, and that
only while no reply is sent. -/
theorem frameEnds_cases (frame : List RxByte) (s : State) :
    frameEnds frame s = s ∨ frameEnds frame s = s.setSrx { s.srx with receiving := false } ∨
      ∃ start rest, s.cmi.reply = none ∧ frame = start :: rest ∧
        frameEnds frame s = judgeFrame start rest (s.setSrx { s.srx with receiving := false }) := by
  unfold frameEnds receivedBytes
  split
  · exact .inl rfl
  · cases hr : s.cmi.reply with
    | some r => exact .inr (.inl (by simp))
    | none => cases frame with
      | nil => exact .inr (.inl (by simp))
      | cons start rest => exact .inr (.inr ⟨start, rest, rfl, rfl, by simp⟩)

theorem frameEnds_kept (h : KeptByBlocks P) (frame : List RxByte) (s : State) (hs : P s) :
    P (frameEnds frame s) := by
  simp only [frameEnds]
  repeat' first | with_reducible assumption | with_reducible apply judgeFrame_kept h
                | with_reducible apply h.srx | split

theorem abandonReply_kept (h : KeptByBlocks P) (s : State) (hs : P s) :
    P (abandonReply s) := by
  simp only [abandonReply]
  repeat' first | with_reducible assumption | with_reducible apply warmRestart_kept h
                | with_reducible apply h.cmi | with_reducible apply h.sticky | split

theorem breakArrives_kept (h : KeptByBlocks P) (ended : List RxByte) (s : State) (hs : P s) :
    P (breakArrives ended s) := by
  simp only [breakArrives]
  repeat' first | with_reducible assumption
                | with_reducible apply wakeBreak_kept h.toKeptByStage.toKeptByOwners.toKeptBySignal
                | with_reducible apply abandonReply_kept h | with_reducible apply frameEnds_kept h
                | with_reducible apply h.srx | split

theorem running_kept (f : State → State) (s : State) (hf : P (f s)) (hs : P s) : P (running f s) := by
  simp only [running]
  split
  · exact hs
  · exact hf

/-- Every command keeps what the blocks keep, but for the two edges of RESET and a change of the key. -/
theorem exec_kept (h : KeptByBlocks P) (c : Instr) (s t : State) (he : exec c s = .next t)
    (hassert : c = .resetAssertion → P (resetAssert s))
    (hrelease : ∀ n, c = .resetRelease n → P (resetRelease n s))
    (hkey : ∀ b, c = .authorityKeyChange b → P (keyChange b s))
    (hs : P s) : P t := by
  have ht := h.toKeptByStage
  have ho := ht.toKeptByOwners
  cases c
  case resetAssertion => cases he; exact hassert rfl
  case resetRelease n => cases he; exact hrelease n rfl
  case authorityKeyChange b => cases he; exact hkey b rfl
  case restartPulse => cases he; exact restartPulse_kept h _ hs
  case restartLineReturnHigh => cases he; exact h.armed hs
  case inputBreak => cases he; exact breakArrives_kept h _ _ hs
  case inputFrameEnd => cases he; exact frameEnds_kept h _ _ hs
  case replyEnd => cases he; exact running_kept _ _ (replyEnds_kept h _ hs) hs
  case streamHoldExpiry => cases he; exact running_kept _ _ (holdExpire_kept ho.toKeptBySignal _ hs) hs
  case darkIdleExpiry => cases he; exact running_kept _ _ (idleExpire_kept ho.toKeptBySignal _ hs) hs
  case outputIntervalExpiry =>
    cases he; exact running_kept _ _ (ite_kept (intervalExpire_kept ho.toKeptBySignal.toKeptByOutput _ hs) hs) hs
  case handoverExpiry => cases he; exact running_kept _ _ (handoverExpire_kept ho.toKeptBySignal.toKeptByOutput _ _ hs) hs
  case windowEndExpiry => cases he; exact running_kept _ _ (windowExpire_kept ht _ _ hs) hs
  case offsetTimerExpiry => cases he; exact running_kept _ _ (offsetExpire_kept ht _ _ hs) hs
  case ackTimerExpiry => cases he; exact running_kept _ _ (ackExpire_kept ht _ hs) hs
  case investigationTimerExpiry => cases he; exact running_kept _ _ (invExpire_kept ht _ hs) hs
  case stallTimerExpiry => cases he; exact running_kept _ _ (stallExpire_kept ho _ _ hs) hs
  case descentExpiry => cases he; exact running_kept _ _ (descentExpire_kept ho.toKeptByCurtains _ _ hs) hs
  case dwellExpiry => cases he; exact running_kept _ _ (dwellExpire_kept ho _ hs) hs
  case loweringExpiry => cases he; exact running_kept _ _ (loweringExpire_kept ho _ hs) hs
  case callExpiry => cases he; exact running_kept _ _ (callExpire_kept ho.toKeptByCalls _ _ _ hs) hs
  case scheduledCallDue => cases he; exact running_kept _ _ (scheduleExpire_kept ho.toKeptByCalls _ _ hs) hs
  case callOverrunExpiry => cases he; exact running_kept _ _ (overrunExpire_kept ho _ hs) hs
  case pageLimitExpiry => cases he; exact running_kept _ _ (pageLimitExpire_kept ho _ hs) hs
  case pollStart => cases he; exact running_kept _ _ (startPoll_kept ho.toKeptByCurtains.toKeptByLinks _ hs) hs
  case replyWindowExpiry => cases he; exact running_kept _ _ (windowCloses_kept ht _ hs) hs
  case loopReply => cases he; exact running_kept _ _ (replyHeard_kept ht _ _ hs) hs
  case loopReplyForcedOver => cases he; exact running_kept _ _ (replyForcedOver_kept ht _ _ hs) hs
  case attentionGapExpiry => cases he; exact running_kept _ _ (gapExpire_kept h _ hs) hs
  case setPhase => cases he; exact takeInstr_kept h (.setPhase _) _ hs
  case getShow => cases he; exact takeInstr_kept h (.getShow _) _ hs
  case houseFade => cases he; exact takeInstr_kept h (.houseFade _) _ hs
  case houseConsole => cases he; exact takeInstr_kept h (.houseConsole _) _ hs
  case houseMaster => cases he; exact takeInstr_kept h (.houseMaster _) _ hs
  case getHouse => cases he; exact takeInstr_kept h (.getHouse _) _ hs
  case goCue => cases he; exact takeInstr_kept h (.goCue _) _ hs
  case suppress => cases he; exact takeInstr_kept h (.suppress _) _ hs
  case getZones => cases he; exact takeInstr_kept h (.getZones _) _ hs
  case alarmAck => cases he; exact takeInstr_kept h (.alarmAck _) _ hs
  case alarmFalse => cases he; exact takeInstr_kept h (.alarmFalse _) _ hs
  case alarmReset => cases he; exact takeInstr_kept h (.alarmReset _) _ hs
  case getAlarm => cases he; exact takeInstr_kept h (.getAlarm _) _ hs
  case curtainMove => cases he; exact takeInstr_kept h (.curtainMove _) _ hs
  case demonstrate => cases he; exact takeInstr_kept h (.demonstrate _) _ hs
  case clearLatch => cases he; exact takeInstr_kept h (.clearLatch _) _ hs
  case getCurtains => cases he; exact takeInstr_kept h (.getCurtains _) _ hs
  case call => cases he; exact takeInstr_kept h (.call _) _ hs
  case cancelCalls => cases he; exact takeInstr_kept h (.cancelCalls _) _ hs
  case getCalls => cases he; exact takeInstr_kept h (.getCalls _) _ hs
  case readEvent => cases he; exact takeInstr_kept h (.readEvent _) _ hs
  case ackAttention => cases he; exact takeInstr_kept h (.ackAttention _) _ hs
  case setAttentionMask => cases he; exact takeInstr_kept h (.setAttentionMask _) _ hs
  case getStatus => cases he; exact takeInstr_kept h (.getStatus _) _ hs
  case getIdentity => cases he; exact takeInstr_kept h (.getIdentity _) _ hs
  case restart => cases he; exact takeInstr_kept h (.restart _) _ hs
  case stageOpen => cases he; exact takeInstr_kept h (.stageOpen _) _ hs
  case stageWrite => cases he; exact takeInstr_kept h (.stageWrite _) _ hs
  case stageQueue => cases he; exact takeInstr_kept h (.stageQueue _) _ hs
  case commit => cases he; exact takeInstr_kept h (.commit _) _ hs
  case abortCommit => cases he; exact takeInstr_kept h (.abortCommit _) _ hs
  case getCommit => cases he; exact takeInstr_kept h (.getCommit _) _ hs
  case readActive => cases he; exact takeInstr_kept h (.readActive _) _ hs
  case setAuthority => cases he; exact takeInstr_kept h (.setAuthority _) _ hs
  case lockAuthority => cases he; exact takeInstr_kept h (.lockAuthority _) _ hs
  case getAuthority => cases he; exact takeInstr_kept h (.getAuthority _) _ hs
  case unknownCommand => cases he; exact takeInstr_kept h (.unknownCommand _ _) _ hs

end Sys2Proof.Machine
end

