-- ==== Sys2Proof/Laws/Loop.lean ====
section
/-! SUPPORT. What the operations of a field loop transaction can do (R168, R171). -/

namespace Sys2Proof.Machine

/-- A byte as it is sent has no parity error (R168). -/
@[simp] theorem sentByte_parity (mark : Bool) (v : Byte) : parityError (sentByte mark v) = false := by
  simp [parityError, sentByte]

/-- A frame has one byte more than what follows its address (R169). -/
@[simp] theorem loopFrame_length (a : Nat) (rest : List Byte) : (loopFrame a rest).length = rest.length + 1 := by
  simp [loopFrame]

/-- The end of the reply window is taken only when it is due (R171). -/
theorem windowCloses_early (s : State) (h : silentDue s = false) : windowCloses s = s := by
  simp [windowCloses, h]

/-- A reply is judged when it is over, and is heard on until then (R171). -/
theorem takeReply_cases (t : Transaction) (running : Bool) (bs : List LoopByte) (s : State) :
    (t.over running bs ≤ s.time ∧
        takeReply t running bs s = conclude (t.forced running bs) (t.counted running bs) s) ∨
      (s.time < t.over running bs ∧ takeReply t running bs s = hear t running bs s) := by
  by_cases h : t.over running bs ≤ s.time
  · exact .inl ⟨h, if_pos h⟩
  · exact .inr ⟨Nat.lt_of_not_le h, if_neg h⟩

/-- A reply is over at 9 ms after the opening of the window at the latest (R171). -/
theorem over_le_forcedEnd (t : Transaction) (running : Bool) (bs : List LoopByte) :
    t.over running bs ≤ t.forcedEnd := by
  unfold Transaction.over
  split <;> omega

/-- A reply over before 9 ms is not forced over (R171). -/
theorem forced_iff (t : Transaction) (running : Bool) (bs : List LoopByte) :
    t.forced running bs = true ↔ t.over running bs = t.forcedEnd := by
  unfold Transaction.forced Transaction.over
  cases replyStops running bs <;> simp

/-- Bytes on the pair keep it from being quiet, and are a reply's when one has begun or begins with them (R171). -/
theorem bytesCome_cases (running : Bool) (bs : List LoopByte) (s : State) :
    (bytesCome running bs s = noteBytes bs s ∧ ∀ t, s.lpc.tx = some t → t.begins s.time bs = false) ∨
      ∃ t, s.lpc.tx = some t ∧ t.begins s.time bs = true ∧
        bytesCome running bs s =
          takeReply t (t.known s.time running bs).1 (t.known s.time running bs).2 (noteBytes bs s) := by
  unfold bytesCome
  split
  · next h => exact .inl ⟨rfl, by simp [h]⟩
  · next t h =>
    split
    · next hb => exact .inr ⟨t, h, hb, rfl⟩
    · next hb => exact .inl ⟨rfl, by simpa [h] using hb⟩

/-- The part's own command at the end of a reply brings no new byte (R171). -/
theorem known_taken (t : Transaction) (now : Nat) (running : Bool) (bs : List LoopByte)
    (h : t.heard = some (running, bs)) (he : t.over running bs ≤ now) :
    t.known now (t.forced running bs) (t.taken running bs) = (running, bs) := by
  simp [Transaction.known, h, he]

/-- A poll is started only with no transaction and a line that need not first be quiet (R171, R181, R182). -/
theorem startPoll_cases (s : State) :
    startPoll s = s ∨ ∃ st, s.lpc.tx = none ∧ lineBusy s = false ∧ stationAt s s.lpc.position = some st ∧
      startPoll s =
        s.setLpc { s.lpc with tx := some ⟨st.address, pollKind st, s.time, none⟩, quietOwed := false } := by
  unfold startPoll
  split
  · exact .inl rfl
  · next h =>
    split
    · exact .inl rfl
    · next st hst =>
      simp only [Bool.or_eq_true, not_or, Bool.not_eq_true, Option.isSome_eq_false_iff] at h
      exact .inr ⟨st, by simpa using h.1, h.2, hst, rfl⟩

/-- Bytes on the pair touch no record and no transaction. -/
@[simp] theorem noteBytes_stations (bs : List LoopByte) (s : State) :
    (noteBytes bs s).lpc.stations = s.lpc.stations := rfl
@[simp] theorem noteBytes_tx (bs : List LoopByte) (s : State) : (noteBytes bs s).lpc.tx = s.lpc.tx := rfl
@[simp] theorem noteBytes_time (bs : List LoopByte) (s : State) : (noteBytes bs s).time = s.time := rfl

/-- Bytes of one instant keep their order. -/
theorem mergeBytes_together (n : Nat) (known new : List LoopByte) (hk : ∀ x ∈ known, x.later = n)
    (hn : ∀ x ∈ new, x.later = n) : mergeBytes known new = known ++ new := by
  have place : ∀ (b : LoopByte) (l : List LoopByte), b.later = n → (∀ x ∈ l, x.later = n) →
      placeByte b l = l ++ [b] := by
    intro b l hb
    induction l with
    | nil => intro _; rfl
    | cons x l ih =>
      intro hl
      simp [placeByte, hb, hl x (by simp), ih fun y hy => hl y (by simp [hy])]
  induction new generalizing known with
  | nil => simp [mergeBytes]
  | cons b new ih =>
    have hb := hn b (by simp)
    have key := ih (known ++ [b])
      (by intro x hx; rcases List.mem_append.1 hx with h | h <;> simp_all) fun x hx => hn x (by simp [hx])
    simpa [mergeBytes, place b known hb hk] using key

/-- Bytes of one instant with the mark bit in the first alone are one reply, whole (R168, R171). -/
theorem replyRun_whole (running : Bool) (b : LoopByte) (rest : List LoopByte)
    (h : ∀ x ∈ rest, x.mark = false ∧ x.later = b.later) : replyRun running (b :: rest) = b :: rest := by
  have quiet : ∀ l : List LoopByte, (∀ x ∈ l, x.later = b.later) → beforeQuiet b.later l = l := by
    intro l
    induction l with
    | nil => intro _; rfl
    | cons x l ih =>
      intro hl
      have hx := hl x (by simp)
      simp [beforeQuiet, hx, ih fun y hy => hl y (by simp [hy])]
  have marks : rest.takeWhile (fun x => !x.mark) = rest :=
    List.takeWhile_eq_self_iff.2 fun x hx => by simp [(h x hx).1]
  simp [replyRun, replyBytes, marks, quiet rest fun x hx => (h x hx).2]

/-- A reply whose bytes are all known and whole stops when the last of them has come (R171). -/
theorem replyStops_whole (bs : List LoopByte) (h : replyRun false bs = bs) :
    replyStops false bs = some (lastsFor bs) := by
  simp [replyStops, h]

/-- Hearing a reply touches the transaction alone. -/
@[simp] theorem hear_stations (t : Transaction) (running : Bool) (bs : List LoopByte) (s : State) :
    (hear t running bs s).lpc.stations = s.lpc.stations := rfl
@[simp] theorem hear_position (t : Transaction) (running : Bool) (bs : List LoopByte) (s : State) :
    (hear t running bs s).lpc.position = s.lpc.position := rfl

end Sys2Proof.Machine
end

