-- ==== Sys2Proof/Laws/Validate.lean ====
section
/-! SUPPORT. What validation can answer (R199): none just when every condition holds, and else the first that fails. -/

namespace Sys2Proof.Machine

theorem firstFailing_eq_none (cs : List Check) : firstFailing cs = none ↔ ∀ c ∈ cs, c.holds = true := by
  simp [firstFailing]

theorem firstFailing_eq_some (cs : List Check) (r : Nat) : firstFailing cs = some r ↔
    ∃ met c rest, cs = met ++ c :: rest ∧ (∀ m ∈ met, m.holds = true) ∧ c.holds = false ∧ c.reason = r := by
  simp only [firstFailing, Option.map_eq_some_iff, List.find?_eq_some_iff_append]
  constructor
  · rintro ⟨c, ⟨hc, met, rest, rfl, hm⟩, rfl⟩
    exact ⟨met, c, rest, rfl, by simpa using hm, by simpa using hc, rfl⟩
  · rintro ⟨met, c, rest, rfl, hm, hc, rfl⟩
    exact ⟨c, ⟨by simp [hc], met, rest, rfl, by simpa using hm⟩, rfl⟩

/-- A table passes just when its header is not missing and each entry meets its conditions. -/
theorem validateTable_eq_none (t : PerTable Bank) (i : TableId) : validateTable t i = none ↔
    headerMissing i (t.get i) = false ∧ ∀ e ∈ t.get i, firstFailing (checkEntry i t e) = none := by
  cases h : headerMissing i (t.get i) <;> simp [validateTable, h]

/-- What a table with its header reports is the first failing condition of the first entry that fails. -/
theorem validateTable_eq_some (t : PerTable Bank) (i : TableId) (f : Failure) (h : headerMissing i (t.get i) = false) :
    validateTable t i = some f ↔ ∃ l e r, t.get i = l ++ e :: r ∧
      (∃ n, firstFailing (checkEntry i t e) = some n ∧ f = ⟨i.code, e.index, n⟩) ∧
      ∀ x ∈ l, firstFailing (checkEntry i t x) = none := by
  simp [validateTable, h, List.findSome?_eq_some_iff, eq_comm (a := f)]

theorem validate_eq_none (t : PerTable Bank) : validate t = none ↔ ∀ i, validateTable t i = none := by
  simp only [validate, List.findSome?_eq_none_iff]
  exact ⟨fun h i => h i (by cases i <;> decide), fun h i _ => h i⟩

/-- What validation reports is the failure of the first table that fails. -/
theorem validate_eq_some (t : PerTable Bank) (f : Failure) : validate t = some f ↔
    ∃ i, validateTable t i = some f ∧ ∀ j, j.code < i.code → validateTable t j = none := by
  have hall : ∀ j, j ∈ TableId.all := by rintro (_ | _) <;> decide
  have hp : TableId.all.Pairwise fun a b => a.code < b.code := by decide
  simp only [validate, List.findSome?_eq_some_iff]
  constructor
  · rintro ⟨l, i, r, h, hf, hn⟩
    rw [h] at hall hp
    refine ⟨i, hf, fun j hj => hn j ?_⟩
    rcases List.mem_append.1 (hall j) with hl | hr
    · exact hl
    · rcases List.mem_cons.1 hr with rfl | hr
      · exact absurd hj (lt_irrefl _)
      · exact absurd hj (lt_asymm ((List.pairwise_cons.1 (List.pairwise_append.1 hp).2.1).1 j hr))
  · rintro ⟨i, hf, hn⟩
    obtain ⟨l, r, h⟩ := List.append_of_mem (hall i)
    rw [h] at hp
    exact ⟨l, i, r, h, hf, fun j hj => hn j ((List.pairwise_append.1 hp).2.2 j hj i (by simp))⟩

end Sys2Proof.Machine
end

