-- ==== Sys2Proof/Tests/Slice0.lean ====
section
/-! SUPPORT. The model's own tests: the ill-formed terms that the check refuses, worked examples of the spec,
and, for every obligation with hypotheses, a concrete state and operands that meet them, clause by clause. -/

namespace Sys2Proof.Tests

open Sys2Proof Sys2Proof.Machine

/-! ### WellFormed refuses -/

theorem test_straps_over_255_refused : (Instr.resetRelease 256).wellFormed = false := by decide
theorem test_frame_without_bytes_refused : (Instr.inputFrameEnd []).wellFormed = false := by decide
theorem test_known_code_as_unknown_refused : (Instr.unknownCommand 0x10 []).wellFormed = false := by decide
theorem test_code_over_a_byte_refused : (Instr.unknownCommand 256 []).wellFormed = false := by decide
theorem test_long_payload_refused : (Instr.stageWrite (List.replicate 201 0)).wellFormed = false := by decide +kernel
theorem test_circuit_zero_refused : (Instr.handoverExpiry 0).wellFormed = false := by decide
theorem test_circuit_49_refused : (Instr.handoverExpiry 49).wellFormed = false := by decide
theorem test_zone_65_refused : (Instr.windowEndExpiry 65).wellFormed = false := by decide
theorem test_group_7_refused : (Instr.offsetTimerExpiry 7).wellFormed = false := by decide
theorem test_curtain_5_refused : (Instr.stallTimerExpiry 5).wellFormed = false := by decide
theorem test_descent_0_refused : (Instr.descentExpiry 0).wellFormed = false := by decide
theorem test_message_33_refused : (Instr.callExpiry 33 1).wellFormed = false := by decide
theorem test_priority_5_refused : (Instr.callExpiry 1 5).wellFormed = false := by decide
theorem test_source_6_refused : (Instr.scheduledCallDue 6).wellFormed = false := by decide
theorem test_reply_without_bytes_refused : (Instr.loopReply []).wellFormed = false := by decide
theorem test_later_mark_refused :
    (Instr.loopReplyForcedOver [sentByte true 3, sentByte true 1]).wellFormed = false := by decide

/-! ### Helpers -/

/-- The next state that a command answers. -/
def after (i : Instr) (s : State) : State :=
  match exec i s with
  | .next t => t
  | .fault _ | .refused _ => s

/-- The result in the reply in progress. -/
def resultOf (s : State) : Option Result := s.cmi.reply.map (·.result)

/-- The events in the queue, oldest first, with their arguments. -/
def eventsOf (s : State) : List (Event × Option Nat) := s.evq.queue.map fun r => (r.event, r.arg)

/-- The part in operation at unit address 5, at a time of 100 s, with the key on. -/
def ready : State :=
  { State.reset with
    resetHeld := false
    unit := some 5
    time := 100000
    keyOn := true }

/-! ### Worked examples of the spec -/

/-- Circuit 7 of 3.9. -/
def circuit7 : Circuit :=
  { number := 7, group := 2, slot := 88, floor := 40, ceiling := 230, source := .console none, lastSent := 141 }

/-- The house of 3.9: HOUSE OPEN, group 2 at 180, the console holds slot 88 at 200. -/
def house39 : State :=
  { ready with
    phc := { phase := .houseOpen }
    srx := { table := (List.replicate 512 0).set 87 200, state := .ok }
    hlu :=
      { circuits := [circuit7]
        groups := (List.range 8).map fun i => ⟨i + 1, if i = 1 then 180 else 255, if i = 1 then 50 else 0⟩ } }

/-- The fade of 3.9. -/
def faded39 : State := after (.houseFade [1, 2, 20, 0, 80]) house39

/-- 3.9: the level at 100 000, and the record that HOUSE FADE makes. -/
theorem test_house_fade_of_3_9 :
    circuitLevel house39 circuit7 100000 = 141 ∧ resultOf faded39 = some .done ∧
      faded39.hlu.circuits = [{ circuit7 with source := .preset ⟨200, 20, 100000, 8000⟩ }] := by decide

/-- 3.9: the levels at the later builds, and under the override. -/
theorem test_levels_of_3_9 :
    (faded39.hlu.circuits.map fun c => [103000, 108000, 109975].map (circuitLevel faded39 c)) = [[93, 40, 40]] ∧
      ([110000, 110500, 111000, 112000].map
        (circuitLevel house39 { circuit7 with override := some ⟨40, 110000, 2000⟩ })) = [40, 94, 148, 255] := by
  decide

/-- Zone 12 of 5.7. -/
def zone12 : Zone :=
  { number := 12, kind := .smoke, unit := 3, input := 4, present := .investigate, absent := .evacuate, group := 0,
    condition := .normal }

/-- The act of 5.7. -/
def act57 : State :=
  { ready with
    phc := { phase := .act, act := 1 }
    zmn := { zones := [zone12] }
    tbs :=
      { auth :=
          { maxWindow := (List.replicate 64 0).set 11 120
            budget := (List.replicate 64 0).set 11 300
            locked := true } } }

/-- 5.7: a first window, and its extension. -/
theorem test_windows_of_5_7 :
    let s1 := after (.suppress [1, 12, 0, 90]) act57
    let s2 := after (.suppress [1, 12, 0, 100]) (s1.setTime 150000)
    resultOf s1 = some .done ∧ s1.zmn.zones.map (·.window) = [some ⟨100000, 190000⟩] ∧
      resultOf s2 = some .clamped ∧ s2.zmn.zones.map (·.window) = [some ⟨100000, 220000⟩] ∧
      eventsOf s2 = [(.suppressionOpened, some 90), (.suppressionOpened, some 70)] := by decide +kernel

/-- The window of 5.7 that holds a deferred fire. -/
def fire57 : State :=
  (act57.setTime 1080200).setZmn
    { zones := [{ zone12 with condition := .fire, deferred := true, window := some ⟨1000400, 1120400⟩ }]
      used := (List.replicate 64 0).set 11 120 }

/-- 5.7: the close with a deferred fire. -/
theorem test_close_of_5_7 :
    let t := after (.suppress [1, 12, 0, 0]) fire57
    resultOf t = some .done ∧ t.zmn.used.getD 11 0 = 200 ∧ t.asc.stage = .investigate ∧
      t.zmn.zones = [{ zone12 with condition := .fire, latch := true }] ∧
      (eventsOf t).filter (fun e => e.1 = .zoneFire ∨ e.1 = .suppressionClosed) =
        [(.zoneFire, some 1), (.suppressionClosed, some 80)] := by decide

/-- The console of 4.7 sends two frames with the same number: it is recognised at the second. -/
theorem test_recognition_of_4_7 :
    let f (x : Nat) (s : State) := countFrame x s
    let s2 := f 300 (f 300 ready)
    let s3 := f 300 (f 65535 (f 65535 s2))
    s2.crg = ⟨some 300, some 300⟩ ∧ (f 65535 s2).crg = ⟨some 65535, none⟩ ∧ s3.crg = ⟨some 300, none⟩ ∧
      eventsOf s3 = [(.cueUnknown, none)] := by decide

/-! ### Witnesses: the queue, the lines and the restarts -/

theorem witness_StepTakesFrontCommand :
    (ready.setPending [.restartPulse, .pollStart]).pending = .restartPulse :: [.pollStart] := by decide

/-- Held in reset; something due (the first poll); nothing due. -/
theorem witness_StepWithNothingWaiting :
    (State.reset.pending = [] ∧ State.reset.resetHeld = true) ∧
      (let s := ready.setEvq { gap := some 100000 }
       s.pending = [] ∧ s.resetHeld = false ∧ dueCommands s = [.attentionGapExpiry]) ∧
      (ready.pending = [] ∧ ready.resetHeld = false ∧ dueCommands ready = []) := by decide

theorem witness_ResetRestoresAndStartsThePart :
    (State.reset.resetHeld = true ∧ State.reset.evq = {} ∧
       (after (.resetRelease 255) State.reset).unit = none ∧ (after (.resetRelease 0) State.reset).unit = none ∧
       (after (.resetRelease 254) State.reset).unit = some 254 ∧
       (after (.resetRelease 1) State.reset).unit = some 1) ∧
    ((ready.setRestartArmed false).restartArmed = false ∧ State.reset.resetHeld = true ∧
       State.reset.restartArmed = true) := by
  decide +kernel

theorem witness_WarmRestartKeepsTheHouseSafe :
    (Running house39 ∧ house39.restartArmed = true ∧ ∀ r ∈ house39.zmn.zones, r.window = none) ∧
    (Ready ready ∧ ready.keyOn = true ∧
      (let s := after (.restart []) ready
       Ready s ∧ s.keyOn = true ∧ (s.cmi.reply.map (·.shown)) = some none ∧ s.cmi.restartOwed = true)) := by decide

/-- A part that runs with everything that a warm restart ends: a PENDING commit, a raising demonstration, a page. -/
def busyPart : State :=
  { ready with
    srx := { state := .ok, valid := 24 }
    ctc :=
      { curtains := [{ number := 1, unit := 30, proscenium := true, demoFlag := true, state := .raising,
                       ownership := .explicit, position := 500, latch := none,
                       motion := some ⟨true, 99000, 99500⟩, outstanding := some .raise }]
        demo := { state := .raising, loweringTime := some 8000 } }
    clc := { channel := .paging, holder := some (50, .manager), showing := [50] }
    lpc := { stations := [{ index := 1, address := 30, kind := .curtainUnit, state := .present, opened := true }] }
    tbs := { commit := { current := .pending } } }

theorem witness_WarmRestartReachesEveryOwner :
    (Running busyPart ∧ busyPart.restartArmed = true ∧ (∀ r ∈ busyPart.zmn.zones, r.window = none) ∧
      busyPart.srx.state = .ok ∧ busyPart.tbs.commit.current = .pending ∧
      (demoCurtain busyPart).isSome = true ∧ (busyPart.ctc.curtains.map (·.number)).Nodup ∧
      (busyPart.ctc.curtains.map (·.unit)).Nodup ∧ busyPart.clc.holder = some (50, .manager)) ∧
    (let t := after .restartPulse busyPart
     eventsOf t = [(.restarted, some 1), (.commitAborted, none), (.demonstrationAbandoned, some 3),
        (.pageRevoked, some 4)] ∧
      t.ctc.curtains.map (fun c => (c.ownership, c.outstanding)) = [(.implicit, some .stop)] ∧
      t.clc.revokeOwed = [50] ∧ t.clc.owing = [50] ∧ t.fbl.running = true) ∧
    (Running ready ∧ ready.restartArmed = true ∧ ready.srx.state = .noStream ∧
      (after .restartPulse ready).fbl.running = false) := by
  decide +kernel

/-- A reply in progress that shows no flags, and one of a GET STATUS. -/
def replying : State := after (.getShow []) ready
def statusShown : State := ready.setCmi { ready.cmi with
  sticky := { framing := true }
  discards := 3
  reply := some ⟨0x53, .done, 0, [], some ({ framing := true }, 2), 100000⟩ }

theorem witness_CommandsAreCheckedBeforeTheirOwner :
    ((controlCode (.alarmAck [])).isSome = true ∧ ¬ Ready State.reset ∧ ¬ Ready (ready.setUnit none)) ∧
    (Ready ready ∧ (ready.setKeyOn false).keyOn = false ∧ (List.replicate 200 (0 : Byte)).length ≤ 200) := by
  decide +kernel

theorem witness_RepliesShowTheFlagsAndClearThem :
    (Running replying ∧ replying.cmi.restartOwed = false ∧ (replying.cmi.reply.map (·.shown)) = some none) ∧
      (Running statusShown ∧ statusShown.cmi.restartOwed = false ∧
        (statusShown.cmi.reply.map (·.shown)) = some (some ({ framing := true }, 2))) ∧
      (after .replyEnd statusShown).cmi.discards = 1 ∧ (after .replyEnd statusShown).cmi.sticky = {} := by decide

/-! ### Events and ATTENTION -/

/-- A record of a level. -/
def rec (level : Nat) : EventRecord := ⟨0, level, .started, 0, none⟩

theorem witness_EventsArePostedAndAttentionFollows :
    ((List.replicate 31 (rec 1)).length < 32 ∧ 32 ≤ (List.replicate 32 (rec 1)).length ∧
       (rec 3).level ≤ 3 ∧ 4 ≤ (rec 4).level ∧
       (List.replicate 31 (rec 4) ++ [rec 3] : List EventRecord) = List.replicate 31 (rec 4) ++ rec 3 :: [] ∧
       (∀ y ∈ List.replicate 31 (rec 4), 4 ≤ y.level) ∧ 32 ≤ (List.replicate 31 (rec 4) ++ [rec 3]).length ∧
       (∀ y ∈ List.replicate 31 (rec 5) ++ [rec 4], 4 ≤ y.level) ∧ (rec 4).level < (rec 5).level ∧
       (∀ y ∈ List.replicate 31 (rec 5), (rec 5).level ≤ y.level) ∧
       (∀ y ∈ List.replicate 32 (rec 4), 4 ≤ y.level ∧ (rec 4).level ≤ y.level)) ∧
    ((let q := (placeEvent ready.evq.queue ⟨ready.time / 1000, Event.started.level, .started, 0, none⟩).1
      ready.evq.armed = true ∧ ready.evq.gap = none ∧ ∃ r ∈ q, ready.evq.mask < r.level ∨ r.level = 7) ∧
       (let s := ready.setEvq { gap := some 100100 }
        let q := (placeEvent s.evq.queue ⟨s.time / 1000, Event.started.level, .started, 0, none⟩).1
        ¬ (s.evq.armed = true ∧ s.evq.gap = none ∧ ∃ r ∈ q, s.evq.mask < r.level ∨ r.level = 7))) ∧
    (Ready ready ∧
      (let s := ready.setEvq { gap := some 100001 }
       Ready s ∧ s.evq.gap = some 100001 ∧ s.time < 100001) ∧
      (let s := ready.setEvq { gap := some 100000, queue := [rec 1] }
       Ready s ∧ 100000 ≤ s.time ∧ s.evq.armed = true ∧ ∃ r ∈ s.evq.queue, s.evq.mask < r.level ∨ r.level = 7) ∧
      (let s := ready.setEvq { gap := some 100000, queue := [rec 1], mask := 1 }
       Ready s ∧ 100000 ≤ s.time ∧ ∀ r ∈ s.evq.queue, r.level ≤ s.evq.mask ∧ r.level ≠ 7) ∧
      (6 : Byte).toNat ≤ 6 ∧ 7 ≤ (7 : Byte).toNat) ∧
    (EventsBounded ready ∧ ready.pending = [] ∧ (dueCommands ready).isEmpty = true ∧
      EventsBounded (ready.setEvq { queue := List.replicate 32 (rec 4) })) := by
  decide +kernel

theorem witness_ReadEventTakesTheOldest :
    Ready ready ∧ ready.evq.queue = [] ∧
      (let s := ready.setEvq { queue := [rec 1, rec 2] }
       Ready s ∧ s.evq.queue = rec 1 :: [rec 2]) := by decide

/-! ### The phases -/

theorem witness_SetPhaseTakesOrRefuses :
    ((Ready ready ∧ ready.asc.stage = .normal ∧ Phase.ofCode (1 : Byte).toNat = some .preshow ∧
       (ready.phc.phase, Phase.preshow) ≠ (.dark, .dark)) ∧
       (Phase.ofCode (5 : Byte).toNat = some .houseClear ∧ ready.phc.phase = .dark) ∧
       (house39.phc.act < 9 ∧ house39.tbs.auth.demoRule ≠ .enforce ∧ Ready house39 ∧
         house39.asc.stage = .normal ∧ Phase.ofCode (3 : Byte).toNat = some .act ∧
         house39.phc.phase = .houseOpen)) ∧
    (Ready ready ∧ Phase.ofCode (6 : Byte).toNat = none ∧
       (ready.setAsc { stage := .investigate }).asc.stage ≠ .normal ∧ (5 : Byte).toNat ≤ 5 ∧
       (ready.asc.stage = .normal ∧ ready.phc.phase = .dark) ∧
       (ready.setPhc { phase := .interval, act := 9 }).phc.act = 9 ∧
       (let s := house39.setTbs { auth := { demoRule := .enforce } }
        Ready s ∧ s.asc.stage = .normal ∧ s.phc.phase = .houseOpen ∧ s.phc.act = 0 ∧
         s.ctc.demo.state ≠ .passed ∧ s.tbs.auth.demoRule = .enforce)) := by
  decide +kernel

/-- The last act of 5.7, with a schedule: bells 20, 10, 5 and 2 minutes before the end, beginners 5 minutes before. -/
def scheduled : State :=
  act57.setTbs { act57.tbs with
    active :=
      ⟨[], [], [], [], [], [⟨1, [1, 2, 3, 232, 0, 3, 2, 0, 60]⟩],
        [⟨1, [20, 4, 20, 1, 10, 1, 5, 1, 2, 1, 1, 5, 1, 0, 6, 0, 0, 0, 0, 0, 100]⟩], []⟩ }

theorem witness_PhaseChangesReachTheHouse :
    (let r := { zone12 with window := some ⟨99000, 190000⟩ }
     let s := act57.setZmn { zones := [r] }
     Ready s ∧ s.asc.stage = .normal ∧ Phase.ofCode (4 : Byte).toNat = some .interval ∧ s.phc.phase = .act ∧
      s.tbs.commit.current ≠ .pending ∧ (s.zmn.zones.map (·.number)).Nodup ∧
      (after (.setPhase [4, 20]) s).zmn.zones.map (·.window) = [none]) ∧
    (Ready act57 ∧ scheduleEntry? act57.tbs.active.schedule = none ∧ ∀ r ∈ act57.zmn.zones, r.window = none) ∧
    (Ready house39 ∧ house39.phc.act < 9 ∧ house39.phc.act = 0 ∧ house39.ctc.demo.state ≠ .passed ∧
      house39.tbs.auth.demoRule = .warn ∧
      eventsOf (after (.setPhase [3, 0]) house39) = [(.phaseEntered, some 3), (.demonstrationMissed, none)]) ∧
    (Ready ready ∧ ready.phc.phase = .dark ∧ Phase.ofCode (1 : Byte).toNat = some .preshow ∧
      ready.ctc.demo.state ∉ [DemoState.lowering, .dwell, .raising]) ∧
    (Ready scheduled ∧ (scheduleEntry? scheduled.tbs.active.schedule).isSome = true ∧
      scheduled.phc.phase = .act ∧ (∀ r ∈ scheduled.zmn.zones, r.window = none) ∧
      (after (.setPhase [4, 12]) scheduled).clc.sched.map (fun e => (e.source, e.due)) =
        [(2, 220000), (3, 520000), (5, 520000), (4, 700000)]) ∧
    (let t := after (.setPhase [4, 20]) scheduled
     t.clc.queue = [⟨1, 3, .show, .schedule, 100000, some 160000⟩] ∧
      t.clc.sched.map (·.source) = [2, 3, 5, 4] ∧ t.time = 100000) := by
  decide +kernel

/-- A house in PRESHOW whose one circuit, with a walk floor of 40, stands at 0 on slot 1, and whose last level frame
began at this instant. -/
def preshow : State :=
  { ready with
    phc := { phase := .preshow }
    srx := { state := .ok }
    fbl := { running := true, expiry := some 100020, frame := some ⟨false, 100000, List.replicate 24 0, false⟩ }
    hlu := { circuits := [{ circuit7 with number := 1, group := 1, source := .preset ⟨0, 0, 0, 0⟩ }] }
    tbs := { ready.tbs with active := ⟨[⟨0, [0, 24, 3, 0, 0]⟩, ⟨1, [1, 1, 0]⟩], [⟨1, [1, 0, 1, 40, 230]⟩], [], [], [], [],
      [], []⟩ } }

/-- R45: the frame is cut at HOUSE OPEN, and the fresh one has the walk floor. -/
theorem witness_PhaseChangesReachTheHouse_houseOpen :
    Ready preshow ∧ preshow.asc.stage = .normal ∧ Phase.ofCode (2 : Byte).toNat = some .houseOpen ∧
      preshow.tbs.commit.current ≠ .pending ∧ sendingLevel preshow = true ∧ preshow.fbl.running = true ∧
      frameSlots preshow = 24 ∧ slotMapEmpty preshow.tbs.active.slot = false ∧
      slotClass preshow.tbs.active.slot 1 = .house 1 ∧ (findCircuit preshow.hlu 1).map (·.override) = some none ∧
      (buildLevels preshow)[0]? = some 0 ∧
      (let t := after (.setPhase [2, 0]) preshow
       t.fbl.frame = some ⟨false, 100000, 40 :: List.replicate 23 0, true⟩ ∧ t.fbl.expiry = some 100025 ∧
        t.hlu.circuits.map (·.lastSent) = [40]) := by
  decide +kernel

/-! ### The stream and the output -/

theorem witness_BreakOnTheStream :
    ((Running ready ∧ ready.srx.receiving = false ∧ ready.cmi.reply = none ∧ ready.srx.state ≠ .quiet) ∧
       (let s := ready.setSrx { state := .quiet }
        Running s ∧ s.srx.receiving = false ∧ s.cmi.reply = none ∧ s.srx.state = .quiet ∧
         s.srx.wakePending = false) ∧
       (Running replying ∧ replying.srx.receiving = false ∧ replying.cmi.reply.isSome = true ∧
         replying.cmi.restartOwed = false ∧ replying.srx.state ≠ .quiet) ∧
       (let s := after (.restart []) ready
        Running s ∧ s.srx.receiving = false ∧ s.cmi.reply.isSome = true ∧ s.cmi.restartOwed = true)) ∧
    (let s := replying.setSrx { state := .quiet }
     Running s ∧ s.cmi.reply.isSome = true ∧ s.cmi.restartOwed = false ∧ s.srx.state = .quiet ∧
      s.srx.wakePending = false) ∧
    (let s := ready.setSrx { state := .ok, receiving := true }
     let t := after (.inputFrameEnd [⟨0, false⟩, ⟨9, false⟩]) s
     s.srx.receiving = true ∧ t.resetHeld = false ∧
      t.srx.receiving = false ∧ t.srx.table[0]? = some 9) := by
  decide +kernel

/-- A frame is being received, in OK or LOST. -/
def receiving (x : StreamState) : State := ready.setSrx { state := x, receiving := true }

/-- A Slot Map of 24 slots whose last two are the cue pair. -/
def cueMap : Bank := [⟨0, [0, 24, 3, 0, 0]⟩, ⟨23, [0, 0, 1]⟩, ⟨24, [0, 0, 2]⟩]

theorem witness_GoodLevelFrameIsTaken :
    ((Running (receiving .ok) ∧ (receiving .ok).srx.receiving = true ∧ (receiving .ok).srx.state = .ok ∧
       (receiving .ok).cmi.reply = none ∧ cuePair (receiving .ok).tbs.active.slot = none) ∧
       (Running (receiving .lost) ∧ (receiving .lost).srx.state = .lost) ∧
       1 ≤ [(9 : Byte)].length ∧
       (let t := after (.inputFrameEnd (levelBytes (List.replicate 513 9))) (receiving .ok)
        t.srx.table.length = 512 ∧ t.srx.valid = 512 ∧ t.srx.lastFrame = ⟨.level, 512, false, true⟩ ∧
         t.cmi.sticky.long = true)) ∧
    (Running (receiving .noStream) ∧ (receiving .noStream).srx.state = .noStream ∧
      (receiving .noStream).fbl.running = false) ∧
    (let s := ready.setSrx { state := .quiet, wakePending := true, receiving := true }
     Running s ∧ s.srx.state = .quiet ∧ s.srx.wakePending = true ∧ s.srx.discardOwed = false ∧
      s.fbl.running = false) ∧
    (let s := ready.setSrx { state := .quiet, wakePending := true, discardOwed := true, receiving := true }
     Running s ∧ s.srx.state = .quiet ∧ s.srx.wakePending = true ∧ s.srx.discardOwed = true) ∧
    (let s := (receiving .ok).setTbs { active := ⟨cueMap, [], [], [], [], [], [], []⟩ }
     Running s ∧ cuePair s.tbs.active.slot = some (23, 24) ∧ s.srx.state = .ok ∧
      (expectedLength? s.tbs.active.slot).getD 512 = 24 ∧ 24 ≤ min 24 24 ∧ 23 < 24) := by
  decide +kernel

/-- R62, R63: what a frame of 24 slots at 9 does to the pair of a state that receives it. -/
theorem witness_GoodLevelFrameIsTaken_pair :
    (let paired (x : Stream) : State := ((ready.setSrx { x with receiving := true }).setTbs
        { active := ⟨cueMap, [], [], [], [], [], [], []⟩ }).setCrg ⟨some 7, none⟩
     let crgAfter (n : Nat) (x : Stream) : Option Nat × StreamState :=
       ((after (.inputFrameEnd (levelBytes (List.replicate n 9))) (paired x)).crg.previous,
        (after (.inputFrameEnd (levelBytes (List.replicate n 9))) (paired x)).srx.state)
     Running (paired {}) ∧
      crgAfter 24 { state := .lost } = (some 2313, .ok) ∧ crgAfter 23 { state := .lost } = (none, .ok) ∧
      crgAfter 24 { state := .noStream } = (some 2313, .ok) ∧
      crgAfter 24 { state := .quiet, wakePending := true } = (some 2313, .ok) ∧
      crgAfter 24 { state := .quiet, wakePending := true, discardOwed := true } = (none, .quiet) ∧
      crgAfter 24 { state := .quiet } = (none, .quiet)) ∧
    eventsOf (after (.inputFrameEnd (levelBytes [9])) (receiving .quiet)) = [(.streamAwake, some 0)] ∧
    (after (.inputFrameEnd (levelBytes [9])) (receiving .quiet)).srx.wakePending = true := by
  decide +kernel

/-- No byte comes while a reply is being sent: GET SHOW between the break and the frame's end (R17). -/
theorem test_no_bytes_during_a_reply :
    let s := after (.getShow []) (receiving .ok)
    let t := after (.inputFrameEnd (levelBytes [9])) s
    t.srx.table = s.srx.table ∧ t.srx.lastFrame = s.srx.lastFrame ∧ t.srx.receiving = false := by decide +kernel

theorem witness_ControlAndOtherFramesAreSorted :
    (let s := after (.getShow []) (receiving .ok)
     Running s ∧ s.srx.receiving = true ∧ s.cmi.reply.isSome = true) ∧ (receiving .ok).cmi.reply = none ∧
    (let s := ((receiving .ok).setTbs { active := ⟨cueMap, [], [], [], [], [], [], []⟩ }).setCrg ⟨some 7, some 7⟩
     let t := after (.inputFrameEnd (levelBytes [])) s
     (cuePair s.tbs.active.slot).isSome = true ∧ t.srx.lastFrame = ⟨.discarded, 0, true, false⟩ ∧
      t.cmi.sticky.short = true ∧ t.crg = { s.crg with previous := none } ∧ t.srx.table = s.srx.table ∧
      (after (.inputFrameEnd (levelBytes [])) ((receiving .ok).setCrg ⟨some 7, some 7⟩)).crg = ⟨some 7, some 7⟩) ∧
    ((∃ b ∈ [(⟨0, false⟩ : RxByte), ⟨1, true⟩], b.framing = true) ∧ (cuePair cueMap).isSome = true ∧
      (⟨0, true⟩ : RxByte).framing = true) ∧
    (Ready (receiving .ok) ∧ (receiving .ok).srx.receiving = true ∧ (receiving .ok).unit = some 5 ∧ 5 ≤ 254 ∧
       controlCode (.houseMaster [2, 180]) = some (0x22, [2, 180]) ∧
       (Instr.houseMaster [2, 180]).wellFormed = true ∧
       (after (.inputFrameEnd ((controlFrameBytes 5 0x22 [2, 180]).map fun b => { value := b }))
         (receiving .ok)).hlu.groups[1]? = some ⟨2, 180, 0⟩) ∧
    (Running (receiving .ok) ∧ (receiving .ok).unit = some (([0x6B, 5] : List Byte).getD 1 0).toNat ∧
      2 ≤ ([0x6B, 5] : List Byte).length ∧ ([0x6B, 5] : List Byte).length < 6) ∧
    (([0x6B, 5, 0x11, 0, 0, 0] : List Byte).length ≤ 513 ∧ (([0x6B, 5, 0x11, 0, 0, 0] : List Byte).getD 1 0).toNat = 5 ∧
      (0 : Nat) ≠ ((([0x6B, 5, 0x11, 0, 0, 0] : List Byte).take 4).map BitVec.toNat).sum % 65536) ∧
    ((7 : Byte) ≠ 0 ∧ (7 : Byte) ≠ 0x6B ∧ (([6] : List Byte).head?.map BitVec.toNat) ≠ some 5 ∧
      (receiving .ok).fbl.running = false ∧
      ((receiving .ok).setFbl { running := true }).fbl.running = true ∧ 512 < (List.replicate 513 (1 : Byte)).length) := by
  decide +kernel

theorem witness_StreamAndOutputTimersRunOut :
    (let s := ready.setSrx { state := .ok, lastGood := 97000 }
     Running s ∧ s.srx.state = .ok ∧ s.srx.lastGood + holdTime s.tbs.active.slot ≤ s.time) ∧
      (let s := ready.setSrx { state := .ok, lastGood := 97001 }
       s.time < s.srx.lastGood + holdTime s.tbs.active.slot) ∧
      (let s := (ready.setTime 600000).setSrx { state := .lost }
       Running s ∧ s.srx.state = .lost ∧ s.phc.phase = .dark ∧ s.asc.stage = .normal ∧
        idleTime s.tbs.active.slot ≠ 0 ∧ s.srx.idleRef + idleTime s.tbs.active.slot ≤ s.time) ∧
      (let s := (ready.setTime 599999).setSrx { state := .ok }
       Running s ∧ s.time < s.srx.idleRef + idleTime s.tbs.active.slot) ∧
      (let s := ready.setFbl { running := true, expiry := some 100000, holding := some [1, 2] }
     Running s ∧ s.fbl.running = true ∧ s.fbl.expiry = some 100000 ∧ 100000 ≤ s.time ∧
      s.fbl.holding = some [1, 2] ∧ s.fbl.lastOther = false) ∧
      (let s := (ready.setFbl { running := true, expiry := some 100000 }).setSrx { valid := 24 }
       s.fbl.holding = none ∧ frameSlots s ≠ 0) := by decide +kernel

/-- A Slot Map of 24 slots: EFFECT with curtain 1, WORK, ZERO, EFFECT without a curtain, HOUSE 7,
and the rest PASS. -/
def slotMap : Bank :=
  [⟨0, [0, 24, 3, 0, 0]⟩, ⟨1, [3, 1, 0]⟩, ⟨2, [4, 0, 0]⟩, ⟨3, [2, 0, 0]⟩, ⟨4, [3, 0, 0]⟩, ⟨5, [1, 7, 0]⟩]

/-- A curtain that stands RAISED, unlatched. -/
def curtain1 : Curtain :=
  { number := 1, unit := 30, proscenium := true, demoFlag := true, state := .raised, position := 1000, latch := none }

/-- The part with that Slot Map and a curtain record, in a stage. -/
def mapped (x : Stage) (c : Curtain) : State :=
  { ready with
    asc := { stage := x }
    ctc := { curtains := [c] }
    tbs := { active := ⟨slotMap, [], [], [], [], [], [], []⟩ } }

theorem witness_EffectAndWorkSlotsUnderAlarm :
    ((let s := mapped .investigate curtain1
      slotMapEmpty s.tbs.active.slot = false ∧ 1 ≤ 24 ∧ 24 ≤ (expectedLength? s.tbs.active.slot).getD 0 ∧
       slotClass s.tbs.active.slot 1 = .effect (some 1) ∧ s.asc.stage ≠ .normal ∧
       slotClass s.tbs.active.slot 4 = .effect none) ∧
       (let s := mapped .normal { curtain1 with state := .lowering }
        (s.ctc.curtains.find? fun c => c.number == 1) = some { curtain1 with state := .lowering } ∧
         CurtainState.lowering ≠ .raised) ∧
       slotClass slotMap 2 = .work ∧ (mapped .evacuate curtain1).asc.stage = .evacuate ∧
       (mapped .normal curtain1).asc.stage ≠ .evacuate ∧ slotClass slotMap 3 = .zero ∧
       slotClass slotMap 24 = .pass) ∧
    (let s := mapped .normal curtain1
     s.asc.stage = .normal ∧ (s.ctc.curtains.find? fun c => c.number == 1) = some curtain1 ∧
      curtain1.state = .raised) ∧
    (let s := (mapped .normal curtain1).setHlu house39.hlu
     slotClass s.tbs.active.slot 5 = .house 7 ∧ (s.hlu.circuits.find? fun c => c.number == 7) = some circuit7) := by
  decide +kernel

/-! ### The house lights -/

theorem witness_HouseFadeStartsFromThePresentBase :
    (Ready house39 ∧ house39.asc.stage ≠ .evacuate ∧ 1 ≤ (2 : Byte).toNat ∧ (2 : Byte).toNat ≤ 8 ∧
      (∃ c ∈ house39.hlu.circuits, inScope 1 2 c = true)) ∧
      ((1 ≤ (7 : Byte).toNat ∧ (7 : Byte).toNat ≤ 48) ∧ ∃ c ∈ house39.hlu.circuits, inScope 2 7 c = true) ∧
      resultOf (after (.houseFade [2, 7, 20, 0x17, 0x71]) house39) = some .clamped ∧
      resultOf (after (.houseFade [2, 7, 20, 0x17, 0x70]) house39) = some .done ∧
      (after (.houseFade [2, 7, 20, 255, 255]) house39).hlu.circuits =
        [{ circuit7 with source := .preset ⟨200, 20, 100000, 5000⟩ }] := by decide

theorem witness_HouseConsoleAndMaster :
    (Ready house39 ∧ house39.asc.stage ≠ .evacuate ∧ 1 ≤ (2 : Byte).toNat ∧ (2 : Byte).toNat ≤ 8 ∧
       ∃ c ∈ house39.hlu.circuits, c.group = (2 : Byte).toNat) ∧
    (let s := house39.setAsc { stage := .evacuate }
     Ready s ∧ s.asc.stage = .evacuate ∧ (∃ c ∈ s.hlu.circuits, c.number = (7 : Byte).toNat) ∧
      resultOf (after (.houseConsole [2, 0, 5]) s) = some .refusedState ∧
      resultOf (after (.houseFade [2, 7, 1, 0, 5]) s) = some .refusedState) ∧
    ((∀ c ∈ house39.hlu.circuits, c.group ≠ (3 : Byte).toNat) ∧ (3 : Byte) ≠ 1 ∧ (3 : Byte) ≠ 2 ∧
      8 < (9 : Byte).toNat ∧ 48 < (49 : Byte).toNat ∧
      resultOf (after (.houseFade [1, 3, 20, 0, 80]) house39) = some .badArgument ∧
      ([1, 2] : List Byte).length ≠ 5) := by
  decide +kernel

theorem witness_HouseLevelIsFormedInStages :
    (let s := house39.setHlu { circuits := [{ circuit7 with source := .console (some ⟨10, 99000, 1000⟩) }] }
     Running s ∧ (∀ c ∈ s.hlu.circuits, c.number = 7 → (match c.source with
       | .console (some h) => h.start + h.duration ≤ s.time
       | .console none | .preset _ => true) = true) ∧
       (after (.handoverExpiry 7) s).hlu.circuits = [circuit7]) ∧
    ((⟨3, 9, 5, 0⟩ : Fade).duration = 0 ∧ (5 ≤ 105 ∧ 5 + 100 ≤ 105) ∧ (5 ≤ 5 ∧ 5 < 5 + 100) ∧
       fadeLevel ⟨200, 20, 100000, 8000⟩ 103000 = 132 ∧ fadeLevel ⟨20, 200, 0, 8000⟩ 3000 = 88 ∧
       fadeLevel ⟨3, 9, 5, 100⟩ 0 = 3 ∧ fadeLevel ⟨9, 3, 5, 100⟩ 105 = 3) ∧
    (circuit7.override = none ∧ house39.phc.phase = .houseOpen ∧ ready.phc.phase = .dark ∧
      circuit7.source = .console none ∧ 1 ≤ circuit7.slot ∧
      baseLevel house39.srx.table { circuit7 with source := .console (some ⟨10, 99000, 2000⟩) } 100000 = 105 ∧
      ({ circuit7 with override := some ⟨40, 110000, 2000⟩ } : Circuit).override = some ⟨40, 110000, 2000⟩) := by
  decide +kernel

/-! ### Cues -/

/-- Cue 300, for HOUSE OPEN: group 2 to 20 in 80 tenths; and a CALL of a message that is not there. -/
def cued (s : State) : State :=
  s.setTbs { s.tbs with
    active := { s.tbs.active with cue := [⟨1, [1, 44, 4, 2, 2, 4, 2, 20, 0, 80, 3, 4, 9, 0, 0, 0]⟩] } }

theorem witness_HeldNumberIsRecognisedOnce :
    (1 ≤ 1 ∧ 65534 ≤ 65534 ∧ ready.crg.previous ≠ some 1 ∧ ready.crg.last ≠ some 1 ∧
       findCue ready.tbs.active.cue 1 = none ∧ findCue ready.tbs.active.cue 65534 = none) ∧
    ((cued ready).crg.previous ≠ some 300 ∧ (cued ready).crg.last ≠ some 300 ∧
      ((findCue (cued ready).tbs.active.cue 300).map fun c => c.filter.testBit ready.phc.phase.code) = some false) ∧
    ((ready.setCrg ⟨some 300, some 300⟩).crg = ⟨some 300, some 300⟩) ∧
    (((findCue (cued house39).tbs.active.cue 300).map fun c => c.filter.testBit house39.phc.phase.code) =
        some true ∧
      eventsOf (countFrame 300 (countFrame 300 (cued house39))) =
        [(.cueRun, some 0), (.cueActionRefused, some (2 * 256 + 7))]) := by
  decide +kernel

theorem witness_GoCueRunsTheEntry :
    Ready (cued house39) ∧ (1 : Byte).toNat * 256 + (44 : Byte).toNat = 300 ∧
      ((findCue (cued house39).tbs.active.cue 300).map fun c => c.filter.testBit house39.phc.phase.code) =
        some true ∧
      ((findCue (cued ready).tbs.active.cue 300).map fun c => c.filter.testBit ready.phc.phase.code) =
        some false ∧
      findCue (cued ready).tbs.active.cue 299 = none ∧
      ((after (.goCue [1, 44]) (cued house39)).cmi.reply.map fun r => (r.result, r.payload)) =
        some (.badArgument, [1, 44, 2, 0, 7]) ∧
      ([1] : List Byte).length ≠ 2 ∧ ([12] : List Byte).length ≤ 197 := by decide

/-! ### Zones and suppression windows -/

theorem witness_SuppressOpensAndExtendsWindows :
    ((Ready act57 ∧ 1 ≤ (12 : Byte).toNat ∧ (12 : Byte).toNat ≤ 64 ∧ findZone act57 12 = some zone12 ∧
       zone12.window = none ∧ act57.tbs.auth.locked = true ∧ act57.phc.phase = .act ∧
       act57.asc.stage = .normal ∧ zone12.kind = .smoke) ∧
       (zone12.condition ≠ .fire ∧ zone12.latch = false ∧ 0 < maxWindowOf act57 12 ∧
         usedOf act57 12 < budgetOf act57 12 ∧ 1 ≤ (0 : Byte).toNat * 256 + (1 : Byte).toNat)) ∧
    (let r := { zone12 with window := some ⟨100000, 190000⟩ }
     let s := (act57.setZmn { zones := [r] }).setTime 150000
     Ready s ∧ findZone s 12 = some r ∧ r.window = some ⟨100000, 190000⟩ ∧
      190000 < min (150000 + 100 * 1000) (min (100000 + 120 * 1000) (100000 + 300 * 1000)) ∧
      min (150000 + 40 * 1000) (min (100000 + 120 * 1000) (100000 + 300 * 1000)) ≤ 190000) ∧
    (Ready act57 ∧ [(12 : Byte)].Nodup ∧ ∀ z ∈ [(12 : Byte)], 1 ≤ z.toNat ∧ z.toNat ≤ 64 ∧
      (findZone act57 z.toNat).isSome = true) ∧
    (let s := act57.setZmn { zones := [zone12, { zone12 with number := 13, kind := .heat }] }
     let t := after (.suppress [2, 13, 12, 0, 90]) s
     resultOf t = some .partly ∧ ([13, 12] : List Byte).Nodup ∧
      ∀ z ∈ ([13, 12] : List Byte), (findZone s z.toNat).isSome = true) ∧
    ((12 : Byte) ∈ ([12] : List Byte) ∧ ([12] : List Byte).length + ([] : List Byte).length ≤ 7 ∧
      resultOf (after (.suppress [2, 12, 12, 0, 90]) act57) = some .done) := by
  decide +kernel

/-- A zone of the act of 5.7, in another condition. -/
def withZone (r : Zone) : State := act57.setZmn { act57.zmn with zones := [r] }

theorem witness_SuppressRefusesByTheFirstCheck :
    (Ready ready ∧ findZone ready 12 = none) ∧
      (let s := (withZone zone12).setTbs {}
       findZone s 12 = some zone12 ∧ s.tbs.auth.locked = false) ∧
      (let s := act57.setPhc {}
       s.tbs.auth.locked = true ∧ s.phc.phase ≠ .act) ∧
      (act57.setAsc { stage := .investigate }).asc.stage ≠ .normal ∧
      ZoneKind.heat = .heat ∧
      (let s := act57.setTbs { auth := { act57.tbs.auth with maxWindow := List.replicate 64 0 } }
       s.tbs.auth.locked = true ∧ maxWindowOf s 12 = 0) ∧
      findZone (withZone { zone12 with latch := true }) 12 = some { zone12 with latch := true } ∧
      (let s := act57.setZmn { zones := [zone12], used := List.replicate 64 300 }
       findZone s 12 = some zone12 ∧ budgetOf s 12 ≤ usedOf s 12) ∧
      (8 < (List.replicate 9 (12 : Byte)).length ∧ (List.replicate 9 (12 : Byte)).length ≤ 197 ∧
        64 < (65 : Byte).toNat ∧ ([12, 0] : List Byte).length ≠ (1 : Byte).toNat + 2) := by
  decide +kernel

theorem witness_WindowsKeepTheBudgetAndAreCharged :
    ((zone12.window = none ∧ usedOf act57 12 ≤ budgetOf act57 12 ∧ act57.time ≤ 190000 ∧
      190000 ≤ act57.time + grantedLength act57 zone12 90) ∧
      (let s := act57.setTime 150000
       let r := { zone12 with window := some ⟨100000, 190000⟩ }
       r.window = some ⟨100000, 190000⟩ ∧ usedOf s 12 ≤ budgetOf s 12 ∧ 100000 ≤ 220000 ∧
        220000 ≤ candidateEnd s r ⟨100000, 190000⟩ 100)) ∧
    (((let r := { zone12 with window := some ⟨0, 100000⟩ }
      Running (withZone r) ∧ findZone (withZone r) 12 = some r ∧ 100000 ≤ (withZone r).time ∧
       r.condition ≠ .fire ∧ ¬ (r.condition = .lost ∧ r.deferred = true)) ∧
       (let r := { zone12 with window := some ⟨0, 100000⟩, condition := .lost, deferred := true }
        findZone (withZone r) 12 = some r ∧ r.condition = .lost ∧ r.deferred = true)) ∧
    (let r := { zone12 with window := some ⟨0, 100001⟩ }
     Ready (withZone r) ∧ findZone (withZone r) 12 = some r ∧ (withZone r).time < 100001 ∧ 1 ≤ (12 : Byte).toNat ∧
      (12 : Byte).toNat ≤ 64)) := by
  decide +kernel

/-- The zone unit of zone 12. -/
def unit3 : Station := { index := 1, address := 3, kind := .zoneUnit, state := .present, opened := true }

/-- A zone record, found at its unit and input. -/
def carried (r : Zone) : Bool :=
  (withZone r).zmn.zones.find? (fun x => x.unit == unit3.address && x.input == 4) = some r

theorem witness_ZoneReportsAreTaken :
    unit3.kind = .zoneUnit ∧ carried zone12 ∧ (∀ r ∈ (withZone zone12).zmn.zones, r.unit = 3 → r.input ≠ 5) ∧
      (zone12.deferred = false ∧ zone12.window = none ∧ zone12.latch = false ∧ zone12.condition ≠ .lost) ∧
      (let r := { zone12 with window := some ⟨99000, 190000⟩, deferred := true }
       carried r ∧ r.window.isSome = true ∧ r.deferred = true) ∧
      (let r := { zone12 with window := some ⟨99000, 190000⟩ }
       carried r ∧ r.deferred = false) ∧
      (let r := { zone12 with latch := true, condition := .lost }
       carried r ∧ r.latch = true ∧ r.condition = .lost) ∧
      eventsOf (inputReport 3 4 9 (withZone zone12)) = [(.zoneFault, some 1)] := by decide

/-! ### The alarm stages -/

/-- Zone 12 in INVESTIGATE, in a step, with an expiry at this instant; group 1 has an offset of 30 s and group 2
one of 200 s. -/
def investigating (x : InvStep) : State :=
  { ready with
    zmn := { zones := [{ zone12 with latch := true }] }
    hlu := house39.hlu
    asc :=
      { stage := .investigate
        invStep := some x
        zone := some 12
        group := some 0
        ackExpiry := if x = .awaitingAck then some 100000 else none
        invExpiry := if x = .investigating then some 100000 else none }
    tbs := { active := ⟨[], [], [], [⟨66, [0, 2, 0, 30]⟩, ⟨67, [0, 4, 0, 200]⟩], [], [], [], []⟩ } }

/-- The state after the acknowledge expiry: a staged evacuation. -/
def evacuating : State := after .ackTimerExpiry (investigating .awaitingAck)

theorem witness_AlarmTimersRunOut :
    (let s := investigating .awaitingAck
     Running s ∧ s.asc.stage = .investigate ∧ s.asc.invStep = some .awaitingAck ∧
      s.asc.ackExpiry = some 100000 ∧ 100000 ≤ s.time) ∧
      (let s := investigating .investigating
       Running s ∧ s.asc.invStep = some .investigating ∧ s.asc.invExpiry = some 100000) ∧
      (evacuating.asc.groups =
        [.evacuating 100000 .entry, .pending 130000, .pending 220000] ++
          List.replicate 4 (.evacuating 100000 .entry)) ∧
      (Running evacuating ∧ evacuating.asc.groups[1]? = some (.pending 130000) ∧ evacuating.time < 130000) ∧
      130000 ≤ (evacuating.setTime 130000).time := by decide

theorem witness_AlarmCommandsAckDismissAndReset :
    ((let s := investigating .awaitingAck
     Ready s ∧ s.asc.stage = .investigate ∧ s.asc.invStep = some .awaitingAck ∧ s.asc.zone = some 12) ∧
      (investigating .investigating).asc.invStep = some .investigating ∧ ready.asc.stage = .normal ∧
      (mapped .evacuate curtain1).asc.stage = .evacuate) ∧
    (let s := investigating .investigating
     Ready s ∧ s.keyOn = true ∧ s.asc.zone = some 12 ∧ s.tbs.commit.current ≠ .pending ∧
      s.asc.stage = .investigate ∧ findZone s 12 = some { zone12 with latch := true } ∧
      ∀ r ∈ s.zmn.zones, r.condition ≠ .fire) ∧
      (let s := (investigating .investigating).setZmn { zones := [{ zone12 with condition := .fire }] }
       findZone s 12 = some { zone12 with condition := .fire } ∧ ∃ r ∈ s.zmn.zones, r.condition = .fire) ∧
      (Ready evacuating ∧ evacuating.keyOn = true ∧ evacuating.asc.zone = some 12 ∧
        evacuating.tbs.commit.current ≠ .pending ∧ evacuating.asc.stage = .evacuate ∧
        (∀ r ∈ evacuating.zmn.zones, r.condition ≠ .fire) ∧ evacuating.clc.channel = .evacuation) ∧
      (evacuating.setClc { channel := .paging, holder := some (50, .fire) }).clc.channel = .paging ∧
      (ready.asc.stage ≠ .investigate ∧ ready.asc.stage ≠ .evacuate ∧ ready.asc.zone = none) := by decide

theorem witness_FireIsTakenByTheStage :
    ((ready.asc.stage = .normal ∧ (⟨12, 1, .investigate⟩ : Fire).route = .investigate ∧
       ∀ r ∈ ready.zmn.zones, r.window = none) ∧
       ((investigating .awaitingAck).asc.stage = .investigate ∧ (⟨12, 1, .evacuate⟩ : Fire).route ≠ .general) ∧
       (let s := takeFire ⟨12, 1, .general⟩ (investigating .awaitingAck)
        s.asc.stage = .evacuate ∧ s.asc.general = true) ∧
       (evacuating.asc.stage = .evacuate ∧ evacuating.asc.groups[1]? = some (.pending 130000) ∧
         evacuating.asc.groups[6]? = some (.evacuating 100000 .entry))) ∧
    ((⟨12, 1, .evacuate⟩ : Fire).route = .evacuate ∧ (⟨12, 0, .general⟩ : Fire).route = .general ∧
      ready.asc.stage = .normal) ∧
    (evacuating.asc.stage = .evacuate ∧ evacuating.asc.general = false ∧ evacuating.asc.groups.length = 7 ∧
      (takeFire ⟨12, 0, .general⟩ evacuating).asc.groups[1]? = some (.evacuating 100000 .general)) := by
  decide +kernel

/-- The part as a fire of zone 12 finds it in NORMAL: the stream OK, and a raising demonstration of curtain 1. -/
def beforeFire (x : DemoState) (c : Curtain) : State :=
  { ready with
    srx := { state := .ok }
    zmn := { zones := [zone12] }
    hlu := house39.hlu
    ctc := { curtains := [c], demo := { state := x } } }

/-- A curtain that is being raised by the demonstration. -/
def rising : Curtain :=
  { number := 1, unit := 30, proscenium := true, demoFlag := true, state := .raising, ownership := .explicit,
    position := 500, latch := none, motion := some ⟨true, 99000, 99500⟩, outstanding := some .raise }

theorem witness_EntryToInvestigateAlertsAndStopsRaising :
    (let f : Fire := ⟨12, 0, .investigate⟩
     let s := beforeFire .raising rising
     s.asc.stage = .normal ∧ f.route = .investigate ∧ (∀ r ∈ s.zmn.zones, r.window = none) ∧ s.srx.state = .ok ∧
      s.ctc.demo.state ≠ .dwell ∧ demoCurtain s = some rising ∧
      s.ctc.demo.state ∈ [DemoState.lowering, .raising] ∧ (s.ctc.curtains.map (·.number)).Nodup ∧
      rising.holdWaiting = false ∧ sendingLevel s = false ∧
      ((scheduleEntry? s.tbs.active.schedule).all fun e => e.staffMessage == 0) = true ∧
      s.clc.channel ≠ .playing ∧
      eventsOf (takeFire f s) = [(.alarmInvestigate, some 0), (.demonstrationAbandoned, some 1)] ∧
      (takeFire f s).ctc.curtains.map (fun c => (c.state, c.outstanding)) = [(.stopped, some .stop)]) ∧
    (let s := (beforeFire .notDone rising).setTbs { active :=
        ⟨[], [], [], [], [], [⟨1, [1, 2, 3, 232, 0, 3, 2, 0, 60]⟩],
          [⟨1, [20, 0, 0, 0, 0, 0, 0, 0, 0, 0, 0, 0, 0, 0, 0, 1, 0, 6, 0, 0, 100]⟩], []⟩ }
     ((scheduleEntry? s.tbs.active.schedule).map fun e => (e.staffMessage, e.staffZones)) = some (1, 6) ∧
      (findMessage s.tbs.active.message 1).isSome = true ∧ s.clc.queue.length < 16 ∧ s.clc.queue = [] ∧
      (takeFire ⟨12, 0, .investigate⟩ s).clc.queue = [⟨1, 6, .alarm, .detection, 100000, some 160000⟩]) ∧
    (let s := (beforeFire .notDone rising).setClc
        { channel := .playing, current := some ⟨1, 3, .show, .command, 90000, none⟩ }
     s.clc.cut = none ∧ (takeFire ⟨12, 0, .investigate⟩ s).clc.cut = some .alarm) ∧
    (let s := (beforeFire .notDone rising).setFbl
        { running := true, frame := some ⟨false, 100000, List.replicate 24 0, false⟩ }
     sendingLevel (s.setSrx { state := .ok, valid := 24 }) = true ∧ s.fbl.running = true ∧
      frameSlots (s.setSrx { state := .ok, valid := 24 }) ≠ 0) := by
  decide +kernel

/-- The same in QUIET, in DWELL with a hold waiting, and with the drive unit's record. -/
theorem witness_EntryToInvestigateAlertsAndStopsRaising_asleep :
    (let s := (beforeFire .notDone rising).setSrx { state := .quiet, valid := 24 }
     let t := takeFire ⟨12, 0, .investigate⟩ s
     s.srx.state = .quiet ∧ s.fbl.running = false ∧ frameSlots s ≠ 0 ∧ t.srx.state = .lost ∧ t.fbl.running = true ∧
      eventsOf t = [(.alarmInvestigate, some 0), (.streamLost, some 3)]) ∧
    (let c := { rising with state := .lowered, motion := some ⟨false, 99000, 99500⟩, outstanding := none,
                            holdWaiting := true, lastHold := true }
     let s := beforeFire .dwell c
     s.ctc.demo.state = .dwell ∧ demoCurtain s = some c ∧ (s.ctc.curtains.map (·.number)).Nodup ∧
      (takeFire ⟨12, 0, .investigate⟩ s).ctc.curtains.map (fun c => (c.state, c.ownership, c.outstanding)) =
        [(.lowered, .implicit, some .yield)]) ∧
    (let s := (beforeFire .raising rising).setLpc { stations :=
        [{ index := 1, address := 30, kind := .curtainUnit, state := .present, opened := true }] }
     (s.ctc.curtains.map (·.unit)).Nodup ∧ rising.motion.map (·.up) = some true ∧ rising.release ≠ .sent ∧
      (takeFire ⟨12, 0, .investigate⟩ s).lpc.stations.map (fun x => x.pending.map (·.1)) =
        [some (.drive .stop)]) := by
  decide +kernel

theorem witness_EntryToEvacuateReachesTheHouse :
    (let s := beforeFire .raising rising
     let t := takeFire ⟨12, 0, .general⟩ s
     s.asc.stage = .normal ∧ (⟨12, 0, .general⟩ : Fire).route = .general ∧
      (⟨12, 0, .evacuate⟩ : Fire).route = .evacuate ∧ (∀ r ∈ s.zmn.zones, r.window = none) ∧
      s.srx.state = .ok ∧ s.ctc.demo.state ≠ .dwell ∧ demoCurtain s = some rising ∧
      (s.ctc.curtains.map (·.number)).Nodup ∧ (s.ctc.curtains.map (·.unit)).Nodup ∧
      rising.holdWaiting = false ∧ rising.state ≠ .lowered ∧ rising.release = .none ∧ s.clc.channel = .idle ∧
      (eventsOf t).length = 9 ∧ t.ctc.curtains.map (fun c => (c.state, c.latch)) = [(.emergency, some .fire)]) ∧
    (let s := (investigating .awaitingAck).setSrx { state := .lost }
     Running s ∧ s.asc.stage = .investigate ∧ s.asc.zone = some 12 ∧ s.asc.invStep = some .awaitingAck ∧
      s.asc.ackExpiry = some 100000 ∧ 100000 ≤ s.time ∧ (∀ r ∈ s.zmn.zones, r.window = none) ∧
      s.srx.state = .lost ∧ s.ctc.demo.state ≠ .dwell) ∧
    (let s := (investigating .investigating).setSrx { state := .ok }
     Running s ∧ s.asc.invStep = some .investigating ∧ s.asc.invExpiry = some 100000) ∧
    (let s := (beforeFire .notDone rising).setClc
        { channel := .paging, holder := some (50, .manager), announcer := .present }
     s.clc.channel = .paging ∧ s.clc.holder = some (50, .manager) ∧
      (takeFire ⟨12, 0, .evacuate⟩ s).clc.channel = .evacuation) ∧
    (let s := ((beforeFire .notDone rising).setClc { announcer := .present }).setTbs { active :=
        ⟨[], [], [], [⟨65, [0, 1, 0, 0]⟩], [], [⟨1, [1, 2, 3, 232, 0, 3, 2, 0, 60]⟩],
          [⟨1, [20, 0, 0, 0, 0, 0, 0, 0, 0, 0, 0, 0, 0, 0, 0, 1, 0, 6, 1, 0, 100]⟩], []⟩ }
     ((scheduleEntry? s.tbs.active.schedule).map (·.evacMessage)) = some 1 ∧
      (takeFire ⟨12, 0, .evacuate⟩ s).clc.evacZones ≠ 0 ∧ s.clc.announcer = .present) := by
  decide +kernel

/-- The same in NO STREAM, and in a demonstration whose curtain has a release TAKEN. -/
theorem witness_EntryToEvacuateReachesTheHouse_asleep :
    (let s := (beforeFire .notDone rising).setSrx { state := .noStream, valid := 24 }
     let t := takeFire ⟨12, 0, .general⟩ s
     s.srx.state = .noStream ∧ s.fbl.running = false ∧ t.srx.state = .lost ∧ t.fbl.running = true ∧
      (.streamLost, some 0) ∈ eventsOf t) ∧
    (let c := { rising with state := .lowering, motion := some ⟨false, 99000, 99500⟩, outstanding := none,
                            release := .taken }
     let s := beforeFire .lowering c
     c.release ≠ .none ∧ demoCurtain s = some c ∧
      (takeFire ⟨12, 0, .evacuate⟩ s).ctc.curtains.map (fun c => (c.ownership, c.motion, c.release)) =
        [(.implicit, none, .taken)]) := by
  decide +kernel

/-- The act of 5.7 with two windows open, the first over a fire. -/
def openWindows : State :=
  (act57.setTime 150000).setZmn
    { zones := [{ zone12 with condition := .fire, deferred := true, window := some ⟨100000, 190000⟩ },
        { zone12 with number := 13, input := 5, window := some ⟨110500, 190000⟩ }]
      used := List.replicate 64 0 }

theorem witness_OpenWindowsAreClosedAndTheirFiresTaken :
    ((openWindows.zmn.zones.map (·.number)).Nodup ∧
      (∀ r ∈ openWindows.zmn.zones, 1 ≤ r.number ∧ r.number ≤ openWindows.zmn.used.length) ∧
      openWindows.asc.stage = .normal ∧ Running openWindows ∧ openWindows.restartArmed = true) ∧
    (let t := takeFire ⟨20, 2, .investigate⟩ openWindows
     t.asc.stage = .evacuate ∧ t.asc.zone = some 20 ∧ t.zmn.zones.map (·.window) = [none, none] ∧
      (t.zmn.used.getD 11 0, t.zmn.used.getD 12 0) = (50, 40)) ∧
    (after .restartPulse openWindows).asc.stage = .investigate := by
  decide +kernel

/-! ### The curtains -/

/-- The part with one curtain record. -/
def curtained (c : Curtain) : State := mapped .normal c

theorem witness_CurtainMoveIsTakenOrRefused :
    ((Ready (curtained curtain1) ∧ 1 ≤ (1 : Byte).toNat ∧ (1 : Byte).toNat ≤ 4 ∧
       findCurtain (curtained curtain1) 1 = some curtain1 ∧ curtain1.ownership ≠ .pendant ∧
       curtain1.outstanding ≠ some .yield ∧ demoRunsOn (curtained curtain1) 1 = false ∧
       curtain1.state ≠ .unknown ∧ curtain1.state ≠ .emergency ∧ curtain1.release ≠ .sent) ∧
       (let c := { curtain1 with state := .lowered }
        findCurtain (curtained c) 1 = some c ∧ c.motion.map (·.up) ≠ some true ∧ c.latch = none ∧
         c.state ≠ .raised ∧ c.motion = none) ∧
       (let c := { curtain1 with state := .lowering, motion := some ⟨false, 99000, 99500⟩ }
        findCurtain (curtained c) 1 = some c ∧ c.state ≠ .lowered ∧ c.motion.map (·.up) = some false ∧
         c.motion.isSome = true ∧ c.holdWaiting = false) ∧
       (let c := { curtain1 with state := .raising, motion := some ⟨true, 99000, 99500⟩ }
        findCurtain (curtained c) 1 = some c ∧ c.motion.map (·.up) = some true)) ∧
    ((0 : Byte).toNat < 1 ∧ 4 < (5 : Byte).toNat ∧ findCurtain (curtained curtain1) 2 = none ∧
       3 < (4 : Byte).toNat ∧
       (let c := { curtain1 with latch := some .fire }
        Ready (curtained c) ∧ findCurtain (curtained c) 1 = some c ∧ c.latch.isSome = true)) := by
  decide +kernel

theorem witness_StallDescentLimitAndClearLatch :
    ((let c := { curtain1 with motion := some ⟨false, 97000, 97001⟩ }
     Running (curtained c) ∧ findCurtain (curtained c) 1 = some c ∧ (curtained c).time < 97001 + 3000) ∧
      (let c := { curtain1 with motion := some ⟨false, 97000, 97000⟩ }
       97000 + 3000 ≤ (curtained c).time ∧ demoRunsOn (curtained c) 1 = false ∧ c.release ≠ .sent ∧
        c.holdWaiting = false) ∧
      (let c := { curtain1 with descent := some ⟨70000, 100001, false⟩ }
       findCurtain (curtained c) 1 = some c ∧ (curtained c).time < 100001) ∧
      (let c := { curtain1 with descent := some ⟨70000, 100000, false⟩ }
       findCurtain (curtained c) 1 = some c ∧ 100000 ≤ (curtained c).time)) ∧
    ((ready.setKeyOn false).keyOn = false ∧ findCurtain ready 1 = none ∧
      (let c := { curtain1 with state := .unknown }
       findCurtain (curtained c) 1 = some c ∧ c.state = .unknown) ∧
      ((curtained curtain1).keyOn = true ∧ curtain1.latch = none) ∧
      (let c := { curtain1 with latch := some .start }
       Ready (curtained c) ∧ (curtained c).keyOn = true ∧ findCurtain (curtained c) 1 = some c ∧
        (curtained c).asc.stage = .normal ∧ c.state ≠ .unknown ∧ c.state ≠ .emergency)) := by
  decide +kernel

/-- The demonstration in a state, in HOUSE OPEN. -/
def demoIn (x : DemoState) (c : Curtain) : State :=
  { curtained c with
    phc := { phase := .houseOpen }
    ctc := { curtains := [c], demo := { state := x, dwellExpiry := some 100000, loweringExpiry := some 100000 } } }

/-- The drive unit of curtain 1, and the contents of a reply at 500: a motion and the indications. -/
def drive30 : Station :=
  { index := 1, address := 30, kind := .curtainUnit, state := .present, opened := true, lastTag := 7 }
def showing (motion flags : Byte) : List Byte := [1, 244, motion, flags]

/-- The curtain record is the one of the unit, and no commit is pending. -/
def driven (c : Curtain) : Bool :=
  let s := curtained c
  (s.ctc.curtains.find? (fun y => y.unit == drive30.address) = some c) && (c.unit == drive30.address) &&
    (s.ctc.curtains.all fun y => !(y.number == c.number || y.unit == drive30.address) || y == c) &&
    (s.tbs.commit.current != .pending) && !demoRunsOn s c.number

/-- The record for a witness: the given state, ownership and command outstanding. -/
def curtainIn (x : CurtainState) (o : Ownership) (out : Option DriveCmd) : Curtain :=
  { curtain1 with state := x, ownership := o, outstanding := out }

/-- The record of curtain 1 in a lowering and in a raising segment that began 3 s ago. -/
def lowering1 : Curtain :=
  { curtainIn .lowering .explicit (some .lower) with motion := some ⟨false, 97000, 97000⟩ }
def raising1 : Curtain :=
  { curtainIn .raising .explicit (some .raise) with motion := some ⟨true, 97000, 97000⟩ }

/-- A YIELD REFUSED that answers no outstanding command is ignored: the hold request is still met by YIELD (R123,
R131); the one that answers the outstanding YIELD is issued again only at the next reply. -/
theorem test_stray_refusal_is_ignored :
    let t := deliver drive30 (showing 0 8) (some (.drive .yield, false)) (curtained (curtainIn .stopped .implicit none))
    let u := deliver drive30 (showing 0 8) (some (.drive .yield, false))
      (curtained (curtainIn .stopped .implicit (some .yield)))
    t.ctc.curtains.map (·.outstanding) = [some .yield] ∧ u.ctc.curtains.map (·.outstanding) = [none] := by
  decide +kernel

theorem witness_CurtainFollowsItsReplies :
    curtain1.outstanding ≠ some .yield ∧
    drive30.kind = .curtainUnit ∧
      (driven curtain1 ∧ driven (curtainIn .stopped .implicit none) ∧ driven (curtainIn .fault .implicit none)) ∧
      (let r := driveReplyOf (showing 0 0)
       r.released = false ∧ r.motion ≠ .falling ∧ r.hold = false ∧ r.upper = false ∧ r.lower = false ∧
        r.obstruction = false ∧ curtain1.release = .none ∧ curtain1.motion = none) ∧
      (driveReplyOf (showing 2 0)).motion = .down ∧ (driveReplyOf (showing 0 8)).hold = true ∧
      (driveReplyOf (showing 1 1)).upper = true ∧ (driveReplyOf (showing 2 2)).lower = true ∧
      (driveReplyOf (showing 2 4)).obstruction = true ∧
      (let c := { curtainIn .lowering .explicit (some .lower) with motion := some ⟨false, 99000, 99500⟩ }
       driven c ∧ c.state ∈ [CurtainState.raising, .lowering] ∧ c.holdWaiting = false ∧ c.release = .none ∧
        c.outstanding = some .lower) ∧
      (let c := { curtainIn .raising .explicit none with motion := some ⟨true, 99000, 99500⟩ }
       driven c ∧ c.state ∈ [CurtainState.raising, .lowering]) ∧
      (let c := { curtainIn .lowering .explicit none with motion := some ⟨false, 99000, 99500⟩ }
       let s := { demoIn .lowering c with ctc := { curtains := [c], demo := ⟨.lowering, some 99000, none, none, none, none⟩ } }
       demoRunsOn s 1 = true ∧ s.ctc.demo.loweringStart = some 99000 ∧ s.ctc.demo.state = .lowering) ∧
      (let c := { curtainIn .raising .explicit none with motion := some ⟨true, 99000, 99500⟩ }
       demoRunsOn (demoIn .raising c) 1 = true ∧ (demoIn .raising c).ctc.demo.state = .raising) := by decide +kernel

theorem witness_PendantTakesAndReturnsTheDrive :
    (driven (curtainIn .stopped .implicit (some .yield)) ∧ driven (curtainIn .raised .pendant none) ∧
      driven (curtainIn .raised .pendant (some .resume)) ∧ driven (curtainIn .raised .pendant (some .yield))) ∧
      (let r := driveReplyOf (showing 0 8)
       r.hold = true ∧ r.released = false ∧ r.motion ≠ .falling) ∧
      (let r := driveReplyOf (showing 0 0)
       r.hold = false ∧ r.obstruction = false ∧ r.upper = false ∧ r.lower = false ∧ r.motion = .still) ∧
      (let c := curtainIn .raised .pendant (some .resume)
       c.release = .none ∧ c.motion = none ∧ c.state ∉ [CurtainState.emergency, .unknown, .fault]) := by decide +kernel

/-- RELEASE taken at a LOWERED curtain; a RAISE taken, which ends a release, in a segment that goes on and in one that
ends at its limit. -/
theorem witness_ReleasedAndLostCurtains_taken :
    (let c := { curtainIn .lowered .implicit (some .release) with release := .sent }
     let r := driveReplyOf (showing 0 2)
     driven c ∧ r.hold = false ∧ r.lower = true ∧ r.upper = false) ∧
      (let c := { raising1 with release := .taken }
       driven c ∧ c.outstanding = some .raise ∧ c.ownership = .explicit ∧ c.motion = some ⟨true, 97000, 97000⟩ ∧ c.state = .raising ∧
        c.holdWaiting = false ∧ (driveReplyOf (showing 1 0)).upper = false ∧ (driveReplyOf (showing 1 0)).released = false ∧
        (driveReplyOf (showing 1 0)).motion ≠ .falling ∧ (driveReplyOf (showing 1 1)).upper = true ∧
        (driveReplyOf (showing 1 1)).hold = false ∧
        (deliver drive30 (showing 1 0) (some (.drive .raise, true)) (curtained c)).ctc.curtains.map (·.release) =
          [.none]) := by decide +kernel

/-- A reply of the drive unit at rest leaves a local release, in this state, with this command outstanding and this last
descent time. -/
def releasedBy (flags : Byte) (ack : Option (LoopCmd × Bool)) (c : Curtain) (x : CurtainState)
    (out : Option DriveCmd) (last : Option Nat) : Bool :=
  (deliver drive30 (showing 0 flags) ack (curtained c)).ctc.curtains.any fun y =>
    y.state == x && y.outstanding == out && y.release == .localRelease && y.lastDescent == last

/-- A local release in a plain segment: above the lower limit, at it, at both limits, and with the hold request. -/
theorem witness_ReleasedAndLostCurtains_segment :
    let c : Curtain := { lowering1 with outstanding := none }
    driven c ∧ c.ownership ≠ .pendant ∧ c.release = .none ∧ c.motion.isSome = true ∧
      releasedBy 16 none c .emergency (some .stop) none ∧
      releasedBy 18 none c .lowered (some .stop) (some 0) ∧
      releasedBy 19 none c .fault (some .stop) (some 0) ∧
      releasedBy 24 none c .emergency (some .yield) none := by decide +kernel

/-- A local release with a LOWER outstanding under IMPLICIT, with a RAISE taken in the same reply, at rest, and under
PENDANT. -/
theorem witness_ReleasedAndLostCurtains_localRelease :
    (driven (curtainIn .stopped .implicit (some .lower)) ∧
      releasedBy 16 none (curtainIn .stopped .implicit (some .lower)) .emergency (some .stop) none) ∧
    (driven { raising1 with release := .taken } ∧ raising1.outstanding = some .raise ∧
      releasedBy 16 (some (.drive .raise, true)) { raising1 with release := .taken } .emergency (some .stop) none) ∧
    (driven curtain1 ∧ curtain1.release = .none ∧
      releasedBy 16 none curtain1 .emergency none none) ∧
    (driven (curtainIn .raised .pendant none) ∧ (curtainIn .raised .pendant none).release = .none ∧
      releasedBy 24 none (curtainIn .raised .pendant none) .emergency none none) := by
  decide +kernel

/-- The replies of these: FALLING, released, at the lower limit, with the hold request. -/
theorem witness_ReleasedAndLostCurtains_replies :
    (driveReplyOf (showing 3 0)).motion = .falling ∧ (driveReplyOf (showing 0 16)).released = true ∧
      (driveReplyOf (showing 0 16)).lower = false ∧ (driveReplyOf (showing 0 18)).lower = true ∧
      (driveReplyOf (showing 0 24)).hold = true ∧ (driveReplyOf (showing 0 24)).lower = false := by decide

theorem witness_ReleasedAndLostCurtains :
    (let c := { curtainIn .emergency .implicit (some .release) with release := .sent }
     driven c ∧ c.motion = none ∧ c.releaseRefused = false ∧ (driveReplyOf (showing 3 0)).hold = false ∧
      (driveReplyOf (showing 3 0)).lower = false) ∧
      (let c := { curtainIn .emergency .implicit none with
        release := .taken, descent := some ⟨95000, 125000, false⟩ }
       driven c ∧ c.release ≠ .none ∧ c.descent = some ⟨95000, 125000, false⟩ ∧
        c.release ∈ [ReleaseField.taken, .localRelease] ∧ (driveReplyOf (showing 0 2)).lower = true) ∧
      (driven curtain1 ∧ curtain1.release = .none ∧ (driveReplyOf (showing 0 16)).released = true ∧
        curtain1.ownership ≠ .explicit ∧ curtain1.outstanding ≠ some .lower ∧ curtain1.outstanding ≠ some .raise) ∧
      (let c := { curtainIn .lowering .explicit none with motion := some ⟨false, 99000, 99500⟩ }
       driven c ∧ c.motion.isSome = true ∧ c.ownership = .explicit ∧ c.release ≠ .sent) := by decide +kernel

theorem witness_DemonstrationRuns :
    (let s := demoIn .failed curtain1
     Ready s ∧ demoCurtain s = some curtain1 ∧ findCurtain s curtain1.number = some curtain1 ∧
      curtain1.release ≠ .sent ∧ s.ctc.demo.state ∉ [DemoState.lowering, .dwell, .raising, .passed] ∧
      s.phc.phase = .houseOpen ∧ s.asc.stage = .normal ∧ curtain1.state = .raised ∧ curtain1.latch = none ∧
      curtain1.ownership = .implicit ∧ curtain1.outstanding ≠ some .yield ∧ curtain1.holdWaiting = false) ∧
      (demoIn .passed curtain1).ctc.demo.state ∈ [DemoState.lowering, .dwell, .raising, .passed] ∧
      (let s := demoIn .dwell curtain1
       s.ctc.demo.state = .dwell ∧ s.ctc.demo.dwellExpiry = some 100000 ∧ 100000 ≤ s.time) ∧
      (let s := demoIn .lowering curtain1
       s.ctc.demo.state = .lowering ∧ s.ctc.demo.loweringExpiry = some 100000) ∧
      (Ready ready ∧ (∀ c ∈ ready.ctc.curtains, c.demoFlag = false) ∧ ([1] : List Byte) ≠ [] ∧
        resultOf (after (.demonstrate []) ready) = some .badArgument) := by decide

theorem witness_DemonstrationEndsEarly :
    (let s := demoIn .lowering lowering1
     demoCurtain s = some lowering1 ∧ (∀ y ∈ s.ctc.curtains, y.number = 1 ∨ y.unit = 30 → y = lowering1) ∧
      s.tbs.commit.current ≠ .pending ∧ s.ctc.demo.state ∈ [DemoState.lowering, .dwell, .raising] ∧
      lowering1.ownership = .explicit ∧ lowering1.release = .none ∧ lowering1.holdWaiting = false ∧ Running s ∧
      97000 + 3000 ≤ s.time ∧ lowering1.state ∈ [CurtainState.raising, .lowering, .lowered] ∧
      eventsOf (after (.stallTimerExpiry 1) s) = [(.curtainStalled, some 1000), (.demonstrationFailed, some 3)]) ∧
    (let c := { lowering1 with state := .lowered, outstanding := none }
     let s := demoIn .dwell c
     Running s ∧ s.ctc.demo.state = .dwell ∧ demoCurtain s = some c ∧ after (.stallTimerExpiry 1) s = s) ∧
    (let s := (demoIn .lowering lowering1).setPhc {}
     Ready s ∧ s.phc.phase = .dark ∧ s.asc.stage = .normal ∧
      eventsOf (after (.setPhase [1, 0]) s) = [(.demonstrationAbandoned, some 4), (.phaseEntered, some 1)]) ∧
    (drive30.address = 30 ∧ (driveReplyOf (showing 2 0)).lower = false ∧ (driveReplyOf (showing 2 0)).hold = false ∧
      (deliver drive30 (showing 2 0) (some (.drive .lower, true)) (demoIn .lowering lowering1)).ctc.demo.loweringStart
        = some 100000) ∧
    (driveReplyOf (showing 2 4)).obstruction = true ∧
    ((driveReplyOf (showing 0 0)).motion = .still ∧ raising1.outstanding = some .raise ∧
      (let s := demoIn .raising raising1
       demoCurtain s = some raising1 ∧
        eventsOf (deliver drive30 (showing 0 0) (some (.drive .raise, false)) s) =
          [(.curtainRefused, some 2), (.demonstrationFailed, some 4)])) ∧
    ((driveReplyOf (showing 3 16)).released = true ∧ (driveReplyOf (showing 3 18)).lower = true ∧
      (driveReplyOf (showing 3 18)).upper = false ∧
      eventsOf (deliver drive30 (showing 3 18) none (demoIn .lowering lowering1)) =
        [(.curtainLocalRelease, some 500), (.demonstrationFailed, some 6), (.curtainDown, some 0)]) := by
  decide +kernel

theorem witness_HoldIsTakenWhenASegmentEnds :
    (let c := { curtainIn .stopped .implicit none with holdWaiting := true, lastHold := true }
     findCurtain (curtained c) 1 = some c ∧ c.outstanding ≠ some .yield ∧ c.release ≠ .sent ∧
      (segmentEnded 1 (curtained c)).ctc.curtains.map (·.outstanding) = [some .yield]) ∧
    (let c := { curtainIn .stopped .implicit none with holdWaiting := true }
     findCurtain (curtained c) 1 = some c ∧ c.lastHold = false ∧ curtain1.holdWaiting = false) ∧
    (let c := { lowering1 with holdWaiting := true, lastHold := true }
     let s := curtained c
     findCurtain s 1 = some c ∧ s.tbs.commit.current ≠ .pending ∧ Ready s ∧ demoRunsOn s 1 = false ∧
      97000 + 3000 ≤ s.time ∧ c.outstanding ≠ some .yield ∧ c.state ≠ .unknown ∧ c.release = .none ∧
      (after (.curtainMove [1, 3]) s).ctc.curtains.map (fun c => (c.state, c.outstanding)) =
        [(.stopped, some .yield)]) ∧
    (let c := { lowering1 with holdWaiting := true }
     let s := demoIn .lowering c
     Running s ∧ demoCurtain s = some c ∧ s.ctc.demo.loweringExpiry = some 100000 ∧ 100000 ≤ s.time ∧
      findCurtain s 1 = some c ∧ demoRunsOn s 1 = true) ∧
    (driven lowering1 ∧ (driveReplyOf (showing 2 10)).lower = true ∧ (driveReplyOf (showing 2 10)).hold = true ∧
      (driveReplyOf (showing 2 12)).obstruction = true ∧ (driveReplyOf (showing 2 12)).lower = false ∧
      (driveReplyOf (showing 1 9)).upper = true ∧ demoRunsOn (demoIn .raising raising1) 1 = true) := by
  decide +kernel

/-! ### Calls and the channel -/

/-- A call of message 1, expiring at 200 s. -/
def call1 (p : Priority) : Call := ⟨1, 3, p, .command, 90000, some 200000⟩

/-- The part with message 1 (zones 1 and 2, SHOW, expiry 60 s) and message 2 (no zones), and a call queue. -/
def withCalls (q : List Call) : State :=
  { ready with
    clc := { queue := q, channel := .paging, holder := some (40, .staff), pageLimit := some 100000 }
    tbs :=
      { active :=
          ⟨[], [], [], [], [], [⟨1, [1, 2, 3, 232, 0, 3, 2, 0, 60]⟩, ⟨2, [1, 2, 3, 232, 0, 0, 2, 0, 0]⟩], [], []⟩ } }

/-- A full queue of routine calls of other messages. -/
def fullQueue : List Call := (List.range 16).map fun i => ⟨i + 3, 1, .routine, .command, 90000 + i, none⟩

/-- The part with an announcement unit at 40, a paging station at 50 and the tables above, and a channel; message 1
is the evacuation message. -/
def linked (c : Calls) : State :=
  { withCalls [] with
    clc := c
    lpc :=
      { stations :=
          [{ index := 1, address := 40, kind := .announcer, state := .present, opened := true },
           { index := 2, address := 50, kind := .paging, state := .present, opened := true }] }
    tbs :=
      { active :=
          ⟨[], [], [], [], [], [⟨1, [1, 2, 3, 232, 0, 3, 2, 0, 60]⟩],
            [⟨1, [20, 0, 0, 0, 0, 0, 0, 0, 0, 0, 0, 0, 0, 0, 0, 1, 0, 6, 1, 0, 100]⟩], []⟩ } }

/-- A request of the station at 50. -/
def asking (k : PageClass) (x : RequestState) : Request := ⟨50, k, 7, 90000, x⟩

theorem witness_CallIsPlacedAndTheChannelChooses :
    ((let s := withCalls [call1 .show]
      Ready s ∧ findMessage s.tbs.active.message 1 = some ⟨1, 2, 1000, 3, .show, 60⟩ ∧ (3 : FohSet) ≠ 0 ∧
       s.clc.queue.find? (fun y => y.message == 1 && y.priority == .show) = some (call1 .show)) ∧
       (let s := withCalls fullQueue.dropLast
        (∀ y ∈ s.clc.queue, ¬ (y.message = 1 ∧ y.priority = .show)) ∧ s.clc.queue.length < 16) ∧
       (let s := withCalls fullQueue
        16 ≤ s.clc.queue.length ∧ (s.clc.queue.getLast?.map fun y => y.priority.code) = some 1 ∧
         Priority.routine.code < Priority.show.code ∧ Priority.routine.code ≤ Priority.routine.code)) ∧
    (let s := linked { queue := [call1 .show], announcer := .present }
     s.clc.channel = .idle ∧ announcerAddress s = some 40 ∧
      s.clc.queue.find? (fun c => decide (c.priority ∈ [.staff, .alarm] ∨ s.asc.stage = .normal)) =
        some (call1 .show) ∧ s.clc.requests.find? (fun r => r.state == .waiting) = none) ∧
    (let s := linked { queue := [call1 .staff], announcer := .present, requests := [asking .staff .waiting] }
     s.clc.channel = .idle ∧ s.clc.announcer = .present ∧
      s.clc.requests.find? (fun r => r.state == .waiting) = some (asking .staff .waiting) ∧
      (call1 .staff).priority.code ≤ (asking .staff .waiting).cls.code ∧
      (asking .staff .waiting).cls.code < Priority.alarm.code) ∧
    ((linked { announcer := .lost }).clc.announcer ≠ .present ∧ (linked {}).clc.channel = .idle ∧
      (linked {}).clc.queue = [] ∧ (linked {}).clc.requests = []) ∧
    (findMessage (withCalls []).tbs.active.message 3 = none ∧ 3 < (4 : Byte).toNat ∧
      ((findMessage (withCalls []).tbs.active.message 2).map (·.zones)) = some 0 ∧
      resultOf (after (.call [2, 0, 0, 0]) (withCalls [])) = some .badArgument ∧ ([1] : List Byte).length ≠ 4) := by
  decide +kernel

theorem witness_WaitingCallsLeaveAndJoin :
    (let s := withCalls [call1 .show]
     Ready s ∧ 1 ≤ (1 : Byte).toNat ∧ (3 : Byte).toNat ≤ 3 ∧ s.clc.channel ≠ .playing) ∧
      (let s := (withCalls []).setClc { channel := .playing, current := some (call1 .routine) }
       s.clc.channel = .playing ∧ s.clc.current = some (call1 .routine) ∧ (call1 .routine).priority.code ≤ 1) ∧
      (let s := (withCalls [call1 .show]).setTime 200000
       call1 .show ∈ s.clc.queue ∧ (call1 .show).expiry = some 200000 ∧ 200000 ≤ s.time ∧
        ∀ x ∈ s.clc.queue, x.message = 1 → x.priority = .show → x = call1 .show) ∧
      (∀ x ∈ (withCalls [call1 .show]).clc.queue, x.message = 1 → 100000 < x.expiry.getD 0) ∧
      (let e : Scheduled := ⟨5, 1, 0, .staff, 100000⟩
       let s := (withCalls []).setClc { sched := [e] }
       s.clc.sched.find? (fun x => x.source == 5 && decide (x.due ≤ (s.time : Int))) = some e ∧ e.zones = 0) ∧
      (let e : Scheduled := ⟨1, 1, 3, .staff, 100000⟩
       e.zones ≠ 0 ∧ findMessage (withCalls []).tbs.active.message 1 = some ⟨1, 2, 1000, 3, .show, 60⟩) ∧
      (∀ x ∈ [(⟨1, 1, 3, .staff, 100001⟩ : Scheduled)], x.source = 1 → ((withCalls []).time : Int) < x.due) ∧
      (3 < (4 : Byte).toNat ∧ resultOf (after (.cancelCalls [4]) (withCalls [])) = some .badArgument) := by decide

/-- The placement of a scheduled call: no zones, a merge, room, a displacement at a full queue, and no room. -/
theorem witness_WaitingCallsLeaveAndJoin_placement :
    (let c := call1 .show
     ({ c with zones := 0 }).zones = 0 ∧ c.zones ≠ 0 ∧
      (call1 .show ∈ (withCalls [call1 .show]).clc.queue ∧ (call1 .show).message = c.message ∧
        (call1 .show).priority = c.priority) ∧
      (∀ y ∈ fullQueue, ¬ (y.message = c.message ∧ y.priority = c.priority)) ∧ fullQueue.dropLast.length < 16 ∧
      (16 ≤ fullQueue.length ∧ (fullQueue.getLast?.map fun y => y.priority.code) = some 1 ∧
        Priority.routine.code < c.priority.code ∧ (call1 .routine).priority.code ≤ Priority.routine.code)) ∧
    (let due (p : Priority) (q : List Call) :=
       eventsOf (after (.scheduledCallDue 1)
         ((withCalls q).setClc { (withCalls q).clc with sched := [⟨1, 1, 3, p, 100000⟩] }))
     due .show [call1 .show] = [] ∧ due .show fullQueue.dropLast = [] ∧
      due .show fullQueue = [(.callDisplaced, some 1)] ∧ due .routine fullQueue = [(.callDropped, some 1)]) := by
  decide +kernel

/-- The part in EVACUATE, with the evacuation message due in zones 2 and 3. -/
def evacuated (c : Calls) : State := (linked { c with evacZones := 6 }).setAsc { stage := .evacuate }

/-- A FIRE page of a station past its limit in EVACUATE, with a request list and the unit's report. -/
def firePaged (station : Nat) (rs : List Request) (u : Option (Activity × Nat)) : State :=
  evacuated { channel := .paging, holder := some (station, .fire), pageLimit := some 100000, announcer := .present,
              requests := rs, unitReport := u }

/-- The channel after a page has ended. -/
def paged (s : State) : ChannelState × Option (Nat × PageClass) × Option CutReason :=
  (s.clc.channel, s.clc.holder, s.clc.cut)

/-- A page past its limit in EVACUATE: no other request, a FIRE request that waits with the unit playing, and one with
the unit not playing. -/
theorem witness_ChannelTimersEndCallsAndPages_evacuate :
    (let s := firePaged 51 [] none
     Running s ∧ s.clc.channel = .paging ∧ s.clc.holder = some (51, .fire) ∧ s.clc.pageLimit = some 100000 ∧
      100000 ≤ s.time ∧ s.asc.stage = .evacuate ∧ eventsOf (after .pageLimitExpiry s) = [(.pageRevoked, some 1)] ∧
      paged (after .pageLimitExpiry s) = (.evacuation, none, none)) ∧
    (let s := firePaged 51 [asking .fire .waiting] (some (.playing, 1))
     s.clc.announcer = .present ∧ (s.clc.unitReport.map (·.1)) = some .playing ∧ s.clc.cut = none ∧
      s.clc.requests.find? (fun r => r.state == .waiting) = some (asking .fire .waiting) ∧
      paged (after .pageLimitExpiry s) = (.evacuation, none, some .firePage)) ∧
    (let s := firePaged 51 [asking .fire .waiting] (some (.pageOpen, 0))
     (s.clc.unitReport.map (·.1)) ≠ some .playing ∧
      paged (after .pageLimitExpiry s) = (.paging, some (50, .fire), none) ∧
      eventsOf (after .pageLimitExpiry s) = [(.pageRevoked, some 1), (.pageGranted, some 5)]) := by
  decide +kernel

theorem witness_ChannelTimersEndCallsAndPages :
    (let s := (withCalls []).setClc
      { channel := .playing, current := some (call1 .show), overrun := some 100000 }
     Running s ∧ s.clc.channel = .playing ∧ s.clc.current = some (call1 .show) ∧
      s.clc.overrun = some 100000 ∧ 100000 ≤ s.time) ∧
      (let s := withCalls []
       Running s ∧ s.clc.channel = .paging ∧ s.clc.holder = some (40, .staff) ∧
        s.clc.pageLimit = some 100000 ∧ 100000 ≤ s.time ∧ s.asc.stage ≠ .evacuate) ∧
      ready.time < 100001 := by decide

/-- The evacuation message of those tables has a record. -/
theorem witness_AnnouncerRepliesDriveTheChannel :
    (let s := linked { channel := .playing, current := some (call1 .show), announcer := .present }
     announcerAddress s = some 40 ∧ s.clc.announcer = .present ∧ s.clc.channel = .playing ∧
      s.clc.current = some (call1 .show) ∧ s.clc.cut = none) ∧
      (let s := linked { channel := .playing, current := some (call1 .show), announcer := .present,
                         playTaken := true, cut := some .alarm }
       s.clc.playTaken = true ∧ s.clc.cut = some .alarm) ∧
      (let s := linked { channel := .evacuation, announcer := .present, evacZones := 6, cut := some .firePage,
                         requests := [asking .fire .waiting] }
       ((scheduleEntry? s.tbs.active.schedule).map (·.evacMessage)) = some 1 ∧ s.clc.evacZones ≠ 0 ∧
        s.clc.cut.isSome = true ∧
        s.clc.requests.find? (fun q => q.state == .waiting) = some (asking .fire .waiting) ∧
        (asking .fire .waiting).cls = .fire) ∧
      (let s := linked { channel := .evacuation, announcer := .present, evacZones := 6, cut := some .firePage,
                         cutTaken := true, requests := [asking .staff .waiting] }
       s.clc.cutTaken = true ∧
        s.clc.requests.find? (fun q => q.state == .waiting) = some (asking .staff .waiting) ∧
        (asking .staff .waiting).cls ≠ .fire) ∧
      (let s := linked { channel := .paging, announcer := .lost, holder := some (50, .staff),
                         requests := [asking .staff .granted] }
       s.clc.announcer ≠ .present ∧ s.clc.channel = .paging ∧ s.clc.holder = some (50, .staff) ∧
        s.clc.requests.find? (fun q => q.station == 50) = some (asking .staff .granted)) ∧
      (linked { announcer := .unknown }).clc.channel = .idle ∧
      (linked { channel := .evacuation }).clc.evacZones = 0 := by decide +kernel

/-- The announcement unit at 40. -/
def station40 : Station := { index := 1, address := 40, kind := .announcer, state := .present, opened := true }

/-- The evacuation PLAY of the tables of `linked`. -/
def evacPlay : LoopCmd := .play 1 1 6 true

/-- The announcement unit plays the evacuation message with a cut pending, whose STOP was TAKEN or was not, and a FIRE
request waits. -/
def stopping (taken : Bool) : State :=
  linked { channel := .evacuation, announcer := .present, evacZones := 6, cut := some .firePage, cutTaken := taken,
           requests := [asking .fire .waiting] }

/-- R163: a PLAY taken after the STOP was TAKEN leaves the STOP, and the first ended indication grants, be it in that
reply, in one that refuses the PLAY, or in one that acknowledges nothing; before TAKEN the STOP is issued again. -/
theorem witness_AnnouncerRepliesDriveTheChannel_evacuation :
    paged (deliver station40 [1, 1, 0] (some (evacPlay, true)) (stopping true)) = (.evacuation, none, some .firePage) ∧
    (deliver station40 [1, 1, 0] (some (evacPlay, true)) (stopping true)).clc.cutTaken = true ∧
    (deliver station40 [1, 1, 0] (some (evacPlay, true)) (stopping true)).lpc = (stopping true).lpc ∧
    [none, some (evacPlay, true), some (evacPlay, false), some (.stopPlay true, false)].all (fun ack =>
      paged (deliver station40 [0, 0, 2] ack (stopping true)) == (.paging, some (50, .fire), none)) = true ∧
    paged (deliver station40 [0, 0, 2] (some (evacPlay, true)) (stopping false)) = (.evacuation, none, some .firePage) ∧
    (deliver station40 [0, 0, 2] (some (evacPlay, true)) (stopping false)).lpc.stations.map (·.pending) =
      [some (.stopPlay true, 1), none] ∧
    evacPlay = .play 1 (messageKind (stopping true) 1) 6 true := by
  decide +kernel

/-- R159: an ended indication ends the call in the reply that takes the STOP AT PART END, and in the one that takes the
PLAY, where a pending cut is issued again first. -/
theorem witness_AnnouncerRepliesDriveTheChannel_ended :
    (let s (taken : Bool) (cut : Option CutReason) : State := linked
       { channel := .playing, current := some (call1 .show), announcer := .present, playTaken := taken, cut }
     let events (taken : Bool) (cut : Option CutReason) (ack : LoopCmd) : List Event :=
       (eventsOf (deliver station40 [0, 1, 1] (some (ack, true)) (s taken cut))).map (·.1)
     events true (some .alarm) (.stopPlay true) = [.callCut] ∧ events true none (.stopPlay false) = [.callEnded] ∧
      events false (some .alarm) (.stopPlay true) = [] ∧ events false none (.play 1 1 3 false) = [.callEnded] ∧
      events false (some .alarm) (.play 1 1 3 false) = [.callCut] ∧
      ((deliver station40 [0, 1, 1] (some (.play 1 1 3 false, true)) (s false (some .alarm))).lpc.stations.map
        (·.pending)) = [some (.stopPlay true, 1), none]) := by
  decide +kernel

/-- The paging station at 50. -/
def station50 : Station := { index := 2, address := 50, kind := .paging, state := .present, opened := true }

/-- A second FIRE request, of a station at 51. -/
def second : Request := ⟨51, .fire, 7, 91000, .waiting⟩

/-- A FIRE request in EVACUATION: with the unit not playing or not PRESENT it is granted at once, and with a cut
already pending nothing more happens. -/
theorem witness_PagingRequestsAreTaken_evacuation :
    (let t := deliver station50 [5, 0, 7] none
       (evacuated { channel := .evacuation, announcer := .present, unitReport := some (.idle, 0) })
     paged t = (.paging, some (50, .fire), none)) ∧
    (let t := deliver station50 [5, 0, 7] none
       (evacuated { channel := .evacuation, announcer := .lost, unitReport := some (.playing, 1) })
     paged t = (.paging, some (50, .fire), none) ∧ eventsOf t = [(.pageGranted, some 5)]) ∧
    (let t := deliver station50 [5, 0, 7] none
       (evacuated { channel := .evacuation, announcer := .present, unitReport := some (.playing, 1),
                    cut := some .firePage })
     paged t = (.evacuation, none, some .firePage) ∧ eventsOf t = []) := by
  decide +kernel

/-- A FIRE page of the station at 50 ends in EVACUATE, by a drop and by a loss, and leaves this of the channel. -/
def pageEnds (rs : List Request) (u : Option (Activity × Nat)) (ch : ChannelState) (h : Option (Nat × PageClass))
    (cut : Option CutReason) : Bool :=
  [deliver station50 [0, 0, 0] none (firePaged 50 rs u), tellLoss station50 (firePaged 50 rs u)].all fun t =>
    t.clc.channel == ch && t.clc.holder == h && t.clc.cut == cut

/-- A page ends in EVACUATE by a drop and by a loss: with no other request, with a FIRE request that waits while the
unit plays, and with one while it does not. -/
theorem witness_PagingRequestsAreTaken_pageEnd :
    pageEnds [asking .fire .granted] none .evacuation none none ∧
    pageEnds [asking .fire .granted, second] (some (.playing, 1)) .evacuation none (some .firePage) ∧
    pageEnds [asking .fire .granted, second] none .paging (some (51, .fire)) none ∧
    (firePaged 50 [] none).clc.holder = some (station50.address, .fire) ∧
    eventsOf (tellLoss station50 (firePaged 50 [asking .fire .granted] none)) = [(.pageEnded, some 5)] := by
  decide +kernel

theorem witness_PagingRequestsAreTaken :
    (let s := linked { announcer := .present }
     station50.kind = .paging ∧ announcerAddress s = some 40 ∧ s.clc.channel = .idle ∧
      station50.address ∉ s.clc.revokeOwed ∧ station50.address ∉ s.clc.owing ∧
      (∀ y ∈ s.clc.requests, y.station ≠ station50.address) ∧ ∀ h ∈ s.clc.holder, h.1 ≠ station50.address) ∧
      50 ∈ (linked { announcer := .present, revokeOwed := [51, 50] }).clc.revokeOwed ∧
      50 ∈ (linked { announcer := .present, owing := [50] }).clc.owing ∧
      (let s := linked { channel := .playing, announcer := .present, requests := [asking .staff .waiting] }
       s.clc.requests.find? (fun y => y.station == station50.address) = some (asking .staff .waiting) ∧
        (asking .staff .waiting).state = .waiting ∧ PageClass.staff.code ≤ PageClass.staff.code ∧
        PageClass.staff.code < PageClass.fire.code ∧ s.clc.cut = none ∧ s.clc.channel = .playing) ∧
      (asking .staff .granted).state ≠ .waiting ∧
      (let s := linked { channel := .paging, announcer := .present, holder := some (51, .manager) }
       s.clc.channel = .paging ∧ s.clc.holder = some (51, .manager) ∧ s.asc.stage ≠ .evacuate) ∧
      (let s := linked { channel := .evacuation, announcer := .present, unitReport := some (.playing, 1) }
       s.clc.channel = .evacuation ∧ (s.clc.unitReport.map (·.1)) = some .playing ∧ s.clc.cut = none) ∧
      (let s := (linked { channel := .paging, announcer := .present, holder := some (50, .fire) }).setAsc
        { stage := .evacuate }
       s.clc.holder = some (station50.address, .fire) ∧ s.asc.stage = .evacuate ∧
        ∀ y ∈ s.clc.requests, y.state = .waiting → y.station ≠ station50.address → y.cls ≠ .fire) := by
  decide +kernel

/-! ### The field loop -/

/-- An outstation record at address 30. -/
def station (k : StationKind) (x : StationState) (m : Nat) : Station :=
  { index := 1, address := 30, kind := k, state := x, misses := m, opened := true, pending := some (.drive .lower, 7),
    lastTag := 7 }

/-- A poll of address 30 with its pending command: 5 bytes, 960 us. -/
def pollFrom (start : Nat) : Transaction := ⟨30, .command (.drive .lower) 7, start, none⟩

/-- One outstation, polled with its pending command. -/
def polledFrom (start : Nat) (st : Station) : State :=
  ready.setLpc { stations := [st], position := 1, tx := some (pollFrom start) }
def polled (st : Station) : State := polledFrom 99991 st

/-- The poll of 12.3 on the pair: the address with the mark bit, and even parity in each byte. -/
theorem test_poll_bytes :
    (pollFrom 0).bytes =
      [⟨30, true, true, false, 0⟩, ⟨2, false, true, false, 0⟩, ⟨2, false, true, false, 0⟩,
        ⟨7, false, true, false, 0⟩, ⟨1, false, true, false, 0⟩] := by decide

theorem witness_PollsCarryThePendingCommand :
    (let st := station .curtainUnit .present 0
     let s := ready.setLpc { stations := [st], position := 1 }
     Running s ∧ s.lpc.stations.find? (fun x => x.index == s.lpc.position) = some st ∧ s.lpc.tx = none) ∧
      (polled (station .curtainUnit .present 0)).lpc.tx ≠ none ∧
      (let s := ready.setLpc { quietOwed := true, busyUntil := 100000 }
       s.lpc.quietOwed = true ∧ s.time ≤ s.lpc.busyUntil ∧ s.lpc.tx = none ∧
        (after (.loopReply [{ sentByte true 3 with later := 2 }]) s).lpc.busyUntil = 100002) ∧
      (let s := ready.setLpc { quietOwed := true, busyUntil := 99999, stations := [station .curtainUnit .present 0],
                               position := 1 }
       s.lpc.busyUntil < s.time ∧ (after .pollStart s).lpc.tx.isSome = true) ∧
      (LoopCmd.grant).takenBy .curtainUnit = false ∧
      (LoopCmd.drive .raise).takenBy .curtainUnit = true ∧
      (station .curtainUnit .present 0).pending.map (·.1) ≠ some (.drive .release) ∧
      (station .curtainUnit .present 0).lastTag < 255 ∧
      ({ station .curtainUnit .present 0 with lastTag := 255 } : Station).lastTag = 255 := by decide

/-- The content of a drive unit's reply at 500, moving down. -/
def content : List Byte := [1, 244, 2, 0]

theorem witness_GoodReplyIsDelivered :
    (let st := station .curtainUnit .lost 3
     let s := polledFrom 99995 st
     Running s ∧ s.lpc.tx = some (pollFrom 99995) ∧ s.lpc.stations.find? (fun x => x.address == 30) = some st ∧
      (pollFrom 99995).bytes.length * 192 < (s.time + 1 - 99995) * 1000 ∧
      s.time * 1000 < 99995 * 1000 + (pollFrom 99995).bytes.length * 192 + 6000 ∧
      (pollFrom 99995).heard = none ∧
      99995 * 1000 + (pollFrom 99995).bytes.length * 192 + 6000 ≤ (s.time + 2) * 1000 ∧
      ((after (.loopReply (loopReplyBytes 30 33 ([7] ++ content))) s).lpc.stations.map
        fun x => (x.state, x.misses, x.pending.isSome)) = [(.present, 0, false)]) ∧
    (1 ≤ 30 ∧ 30 ≤ 126 ∧ content.length = contentLength .curtainUnit ∧ contentInRange .curtainUnit content = true) ∧
    (let t : Transaction := ⟨30, .command (.play 1 1 3 true) 7, 100000, none⟩
     (100000 + 1 - t.start) * 1000 ≤ t.bytes.length * 192) ∧
    (let t := pollFrom 99995
     let first : LoopByte := { sentByte true 30 with later := 1 }
     let rest : List LoopByte := [{ sentByte false 33 with later := 2 }]
     (100000 + first.later) * 1000 < t.start * 1000 + t.bytes.length * 192 + 6000 ∧
      (∀ b ∈ rest, b.mark = false) ∧ (∀ p ∈ (first :: rest).zip rest, p.2.later ≤ p.1.later + 1) ∧
      100000 < 100002 ∧ 100002 * 1000 < t.start * 1000 + t.bytes.length * 192 + 10000 ∧
      (∀ b ∈ first :: rest, 100000 + b.later ≤ 100002) ∧ 100000 + 2 = 100002) ∧
    (({ sentByte false 3 with later := 2 } : LoopByte).later = 2 ∧ (sentByte true 3).mark = true) ∧
    (let held := (loopReplyBytes 30 32 content).map fun b => { b with later := 99999 }
     let t : Transaction := { pollFrom 99992 with heard := some (false, held) }
     let s := (polledFrom 99992 (station .curtainUnit .lost 3)).setLpc
       { (polledFrom 99992 (station .curtainUnit .lost 3)).lpc with tx := some t }
     let sent := t.start * 1000 + t.bytes.length * 192
     Running s ∧ t.heard = some (false, held) ∧ sent < (s.time + 1) * 1000 ∧ s.time * 1000 < sent + 9000 ∧
      held.map (fun b => { b with later := 0 }) = loopReplyBytes 30 32 content ∧
      (∀ p ∈ held.zip (held.drop 1), p.1.later ≤ p.2.later ∧ p.2.later ≤ p.1.later + 1) ∧
      (∀ b ∈ held, b.later ≤ s.time ∧ b.later * 1000 < sent + 9000) ∧
      (after (.loopReply [sentByte true 99]) s).lpc.stations.map (·.state) = [.present]) ∧
    (let old : List LoopByte := [{ sentByte true 30 with later := 100002 }]
     let t : Transaction := { pollFrom 99992 with heard := some (false, old) }
     let s := (polledFrom 99992 (station .curtainUnit .lost 3)).setLpc
       { (polledFrom 99992 (station .curtainUnit .lost 3)).lpc with tx := some t }
     let sent := t.start * 1000 + t.bytes.length * 192
     sent < (s.time + 1) * 1000 ∧ s.time + 3 ≤ 100002 + 1 ∧ s.time < 100002 ∧ (s.time + 3) * 1000 ≤ sent + 10000 + 1000 ∧
      ((after (.loopReply [{ sentByte false 32 with later := 3 }]) s).lpc.tx.bind fun x => x.heard.map fun h =>
        h.2.map (·.later)) = some [100002, 100003]) := by
  decide +kernel

/-- A short reply that is held, and then a byte with the mark bit that begins another frame: SHORT (R171, R172). -/
theorem test_marked_frame_after_a_short_reply :
    let held := ((loopReplyBytes 30 32 content).take 2).map fun b => { b with later := 100001 }
    let s := polledFrom 99995 (station .curtainUnit .present 0)
    let u := after (.loopReply (held.map fun b => { b with later := 1 })) s
    (u.lpc.tx.map (·.heard)) = some (some (false, held)) ∧
      (after (.loopReply (loopReplyBytes 30 32 content)) (u.setTime 100001)).cmi.sticky = { loopShort := true } := by
  decide +kernel

/-- A reply still running is forced over at 9 ms; a restart before then waits for that instant and the quiet after
it (R171, R182). -/
theorem test_restart_waits_for_a_running_reply :
    let s := polledFrom 99995 (station .curtainUnit .present 0)
    let u := after (.loopReplyForcedOver [sentByte true 30]) s
    let r := after .restartPulse u
    u.lpc.busyUntil = 100005 ∧ r.lpc.quietOwed = true ∧ r.lpc.busyUntil = 100005 ∧
      (after .pollStart (r.setTime 100005)).lpc.tx = none ∧
      (after .pollStart (r.setTime 100006)).lpc.tx.isSome = true := by decide +kernel

theorem witness_MissedRepliesLoseTheOutstation :
    (let st := station .curtainUnit .lost 3
     let s := polledFrom 99990 st
     Running s ∧ s.lpc.tx = some (pollFrom 99990) ∧ (pollFrom 99990).heard = none ∧
      s.lpc.stations.find? (fun x => x.address == 30) = some st ∧ st.state = .lost ∧
      99990 * 1000 + (pollFrom 99990).bytes.length * 192 + 9000 ≤ s.time * 1000) ∧
    ((station .curtainUnit .present 1).misses < 2 ∧ 2 ≤ (station .curtainUnit .present 2).misses ∧
      (station .curtainUnit .present 1).state ≠ .lost ∧ content.length = contentLength .curtainUnit ∧
      contentInRange .curtainUnit content = true) ∧
    (let sent := 99995 * 1000 + (pollFrom 99995).bytes.length * 192
     100000 * 1000 < sent + 5000 ∧ sent < 100001 * 1000 ∧ 99995 ≤ 100000 ∧ 100000 < 100005 ∧
      100000 * 1000 < sent + 6000 ∧
      sent + 9000 ≤ 100005 * 1000 ∧ 100005 * 1000 < sent + 10000 ∧ ∀ b ∈ [sentByte true 30], b.later = 0) ∧
    (({ pollFrom 99990 with heard := some (true, [sentByte true 30]) } : Transaction).heard.isSome = true ∧
      (let t : Transaction := ⟨30, .command (.play 1 1 3 true) 7, 100000, none⟩
       (100000 + 1) * 1000 ≤ t.start * 1000 + t.bytes.length * 192)) ∧
    (let held := (loopReplyBytes 30 32 content).map fun b => { b with later := 99991 }
     let t : Transaction := { pollFrom 99990 with heard := some (true, held) }
     let s := ready.setLpc { stations := [station .curtainUnit .present 0], position := 1, tx := some t }
     let sent := t.start * 1000 + t.bytes.length * 192
     Running s ∧ sent + 9000 ≤ s.time * 1000 ∧ t.heard = some (true, held) ∧
      held.map (fun b => { b with later := 0 }) = loopReplyBytes 30 (16 * StationKind.curtainUnit.code) content ∧
      (∀ b ∈ held, b.later * 1000 < sent + 10000) ∧
      (after (.loopReplyForcedOver (loopReplyBytes 30 32 content)) s).cmi.sticky = { loopLong := true }) ∧
    (let s := polledFrom 99995 (station .curtainUnit .present 0)
     (∀ b ∈ loopReplyBytes 31 32 content, b.later = 0) ∧ (∀ b ∈ (loopReplyBytes 31 32 content).tail, b.mark = false) ∧
      (31 : Nat) ≠ (pollFrom 99995).address ∧
      ((after (.loopReply (loopReplyBytes 31 32 content)) s).cmi.sticky = { loopAddress := true }) ∧
      ((after (.loopReply (loopReplyBytes 30 32 [3, 233, 2, 0])) s).cmi.sticky = { loopContent := true }) ∧
      (after (.loopReply (loopReplyBytes 30 32 content).dropLast) s).cmi.sticky = { loopShort := true } ∧
      (after (.loopReply (loopReplyBytes 30 32 content ++ [sentByte false 0])) s).cmi.sticky = { loopLong := true } ∧
      (after (.loopReply ((loopReplyBytes 30 32 content).map fun b => { b with parity := !b.parity })) s).cmi.sticky =
        { loopParity := true }) := by
  decide +kernel

/-! ### Tables and the authority record -/

/-- The Poll List's staging bank in a state, with one entry: a drive unit at address 30. -/
def staged (x : BankState) (c : CommitState) : State :=
  ready.setTbs
    { staging := ⟨{}, {}, {}, {}, {}, {}, {}, ⟨x, [⟨1, [30, 2]⟩]⟩⟩
      commit := { current := c } }

theorem witness_StagingBanksOpenFillAndQueue :
    ((Ready (staged .opened .none) ∧ (8 : Byte).toNat = TableId.poll.code ∧
       (staged .opened .none).tbs.staging.get .poll = ⟨.opened, [⟨1, [30, 2]⟩]⟩) ∧
       ((staged .queued .pending).tbs.staging.get .poll).state = .queued ∧
       (staged .queued .pending).tbs.commit.current = .pending ∧
       (TableId.poll.first ≤ 1 ∧ 20 ≤ TableId.poll.lastIndex ∧ entryLength .poll 20 = some 2) ∧
       ((staged .empty .none).tbs.staging.get .poll).state = .empty ∧
       (staged .queued .none).tbs.commit.current ≠ .pending) ∧
    (TableId.poll.first ≤ 19 ∧ 19 + 1 ≤ TableId.poll.lastIndex ∧ entryLength .poll 19 = some ([30, 2] : List Byte).length ∧
      entryLength .poll 20 = some 2 ∧ TableId.poll.lastIndex < 21 ∧ 0 < TableId.poll.first ∧
      ([30, 2, 1] : List Byte).length % 2 ≠ 0) ∧
    ((3 : Byte).toNat = TableId.cue.code ∧
      (ready.setTbs { staging := ⟨{}, {}, ⟨.opened, []⟩, {}, {}, {}, {}, {}⟩ }).tbs.staging.get .cue = ⟨.opened, []⟩ ∧
      ([0, 5] : List Byte).length = (2 : Byte).toNat ∧ ([0, 5] : List Byte).length < (3 : Byte).toNat) ∧
    (resultOf (after (.stageOpen [3, 0]) ready) = some .badArgument ∧ 8 < (9 : Byte).toNat ∧
      ((after (.stageOpen [3, 0]) ready).cmi.reply.map (·.payload)) = some [1, 0, 0]) := by
  decide +kernel

/-- R198: three zone entries up to 64, and writes that pass the last index or the layout. -/
theorem witness_StagingBanksOpenFillAndQueue_many :
    (let z : List Byte := [1, 3, 4, 1, 2, 0]
     let s : State := ready.setTbs { staging := ⟨{}, {}, ⟨.opened, []⟩, ⟨.opened, []⟩, {}, {}, {}, ⟨.opened, []⟩⟩ }
     let write (id lo : Byte) (es : List (List Byte)) : Option Result × List Nat :=
       (resultOf (after (.stageWrite ([id, 0, lo] ++ es.flatten)) s),
        ((after (.stageWrite ([id, 0, lo] ++ es.flatten)) s).tbs.staging.get .zone).bank.map (·.index))
     Ready s ∧ (s.tbs.staging.get .zone).state = .opened ∧ entryLength .zone 62 = some 6 ∧
      entryLength .zone (62 + 3 - 1) = some 6 ∧ 62 + 3 ≤ TableId.zone.lastIndex + 1 ∧ 3 * 6 ≤ 197 ∧
      write 4 62 [z, z, z] = (some .done, [62, 63, 64]) ∧
      write 4 63 [z, z, z] = (some .badArgument, []) ∧ entryLength .zone (63 + 18 / 6 - 1) ≠ some 6 ∧
      write 8 19 [[30, 2], [31, 2], [32, 2]] = (some .badArgument, []) ∧ TableId.poll.lastIndex + 1 < 19 + 6 / 2 ∧
      resultOf (after (.stageWrite ([3, 1, 0] ++ [0, 1, 63, 1, 4, 1, 2] ++ [0, 2, 63, 1, 4, 1, 2])) s) =
        some .badArgument ∧ 257 < 256 + 2) := by
  decide +kernel

theorem witness_CommitMakesTheQueuedBanksActive :
    ((Ready (staged .queued .pending) ∧ (staged .queued .pending).tbs.commit.current = .pending) ∧
       (∀ i ∈ TableId.all, ((staged .opened .none).tbs.staging.get i).state ≠ .queued) ∧
       (let s := staged .queued .none
        s.tbs.commit.current ≠ .pending ∧ (s.tbs.staging.get .poll).state = .queued ∧
         validate (prospective s) = none ∧ safePoint s = true) ∧
       (let s := (staged .queued .none).setPhc { phase := .act }
        validate (prospective s) = none ∧ safePoint s = false) ∧
       (let s := ready.setTbs { staging := ⟨{}, {}, {}, {}, {}, {}, {}, ⟨.queued, [⟨2, [127, 2]⟩]⟩⟩ }
        validate (prospective s) = some ⟨8, 2, 1⟩)) ∧
    (let t : PerTable Bank := ⟨[⟨1, [0, 0, 0]⟩], [], [], [], [], [], [], []⟩
     t.slot ≠ [] ∧ ∀ e ∈ t.slot, e.index ≠ 0) ∧
    ((0 : Byte).toNat * 256 + (23 : Byte).toNat < 24 ∧ 512 < (2 : Byte).toNat * 256 + (1 : Byte).toNat ∧
      1 < 20 ∧ (∀ e ∈ ([⟨20, [1, 1]⟩] : Bank), 5 < e.index) ∧ 1 ≤ (126 : Byte).toNat ∧ (126 : Byte).toNat ≤ 126) ∧
    (let s := (staged .queued .none).setTbs
        { staging := ⟨{}, {}, {}, {}, ⟨.queued, []⟩, {}, {}, {}⟩ }
     safePoint (s.setCtc { curtains := [{ curtain1 with state := .stopped }] }) = false ∧
      safePoint (s.setCtc { curtains := [curtain1] }) = true) ∧
    (let s (offset : Byte) : State := ready.setTbs
        { ready.tbs with staging := ⟨{}, {}, {}, ⟨.queued, [⟨66, [0, 2, 0, offset]⟩]⟩, {}, {}, {}, {}⟩ }
     (s 121).tbs.auth.stagingLimit = 120 ∧ resultOf (after (.commit []) (s 121)) = some .clamped ∧
      resultOf (after (.commit []) (s 120)) = some .done) := by
  decide +kernel

/-- A valid set with a cue pair, a HOUSE and an EFFECT slot, a cue of four actions, a zone, a curtain, a message, a
schedule and a Poll List of a zone unit and a curtain unit. -/
def validSet : PerTable Bank :=
  ⟨[⟨0, [0, 24, 3, 0, 0]⟩, ⟨1, [1, 1, 0]⟩, ⟨2, [3, 1, 0]⟩, ⟨23, [0, 0, 1]⟩, ⟨24, [0, 0, 2]⟩],
    [⟨1, [1, 0, 24, 40, 230]⟩],
    [⟨1, [0, 5, 63, 4, 1, 4, 0, 60, 1, 12, 2, 4, 1, 80, 255, 255, 3, 4, 1, 0, 0, 0, 5, 2, 1, 3]⟩],
    [⟨12, [1, 3, 4, 1, 2, 0]⟩], [⟨1, [30, 1, 1]⟩], [⟨1, [1, 1, 3, 232, 0, 3, 2, 0, 60]⟩],
    [⟨1, [20, 1, 5, 1, 0, 0, 0, 0, 0, 0, 0, 0, 0, 0, 0, 1, 0, 0, 1, 0, 100]⟩], [⟨1, [3, 1]⟩, ⟨2, [30, 2]⟩]⟩

/-- R199: the first failure of sets that break one condition each. -/
theorem witness_ValidationReportsTheFirstFailure :
    validate validSet = none ∧ ¬ HeaderPresent { validSet with slot := [⟨1, [0, 0, 0]⟩] } ∧
    (let t := validSet
     [{ t with slot := t.slot.dropLast },
      { t with slot := t.slot ++ [⟨25, [0, 0, 0]⟩] },
      { t with slot := [⟨0, [0, 24, 3, 0, 0]⟩, ⟨1, [1, 1, 0]⟩, ⟨2, [1, 1, 0]⟩] },
      { t with house := [] },
      { t with curtain := [] },
      { t with house := [⟨1, [1, 0, 25, 40, 230]⟩] },
      { t with cue := t.cue ++ [⟨9, [0, 5, 63, 1, 4, 2, 0, 0]⟩] },
      { t with cue := [⟨1, [0, 5, 0, 1, 4, 2, 0, 0]⟩] },
      { t with zone := [] },
      { t with slot := [], house := [], cue := [] },
      { t with zone := t.zone ++ [⟨13, [2, 3, 4, 1, 2, 0]⟩] },
      { t with curtain := [⟨1, [30, 2, 1]⟩] },
      { t with poll := t.poll.drop 1 },
      { t with message := [⟨1, [1, 1, 0, 99, 0, 3, 2, 0, 60]⟩] },
      { t with schedule := [⟨1, [20, 0, 0, 0, 0, 0, 0, 0, 0, 0, 0, 0, 0, 0, 0, 1, 0, 0, 2, 0, 100]⟩] },
      { t with poll := t.poll ++ [⟨3, [40, 3]⟩, ⟨4, [41, 3]⟩] }].map (fun t => (validate t).map fun x => (x.table, x.index, x.reason)) = [(1, 23, 3), (1, 25, 2), (1, 2, 5), (1, 1, 4), (1, 2, 4), (2, 1, 4), (3, 9, 6), (3, 1, 1), (3, 1, 4), (4, 12, 7), (4, 13, 6), (5, 1, 8), (4, 12, 4), (6, 1, 1), (7, 1, 4), (8, 4, 8)].map some) := by
  decide +kernel

/-- The hypotheses of the failing clause: the Poll List's second announcer is its first entry that fails, by its last
condition. -/
theorem witness_ValidationReportsTheFirstFailure_first :
    (let t : PerTable Bank := ⟨[], [], [], [], [], [], [], [⟨3, [40, 3]⟩, ⟨4, [41, 3]⟩]⟩
     HeaderPresent t ∧ (∀ j : TableId, j.code < TableId.poll.code → TableMet t j) ∧
      (∀ m ∈ conditionsOf t .poll ⟨3, [40, 3]⟩, m.1) ∧
      ∃ met c, conditionsOf t .poll ⟨4, [41, 3]⟩ = met ++ [c] ∧ (∀ m ∈ met, m.1) ∧ ¬ c.1 ∧ c.2 = 8) := by
  refine ⟨by decide, ?_, ?_, [_, _], _, rfl, ?_, ?_, rfl⟩
  · rintro (_ | _) <;> simp [TableId.code, TableMet, PerTable.get]
  all_goals simp [conditionsOf, FirstWith, at1]

/-- A pending commit of two banks: a Zone Table with zone 12 and an offset of 200 s, and a Poll List. -/
def waitingCommit : State :=
  { act57 with
    phc := {}
    clc := { queue := [⟨1, 3, .show, .command, 90000, none⟩], holder := some (50, .manager), channel := .paging }
    tbs :=
      { act57.tbs with
        staging := ⟨{}, {}, {}, ⟨.queued, [⟨12, [1, 3, 4, 1, 2, 0]⟩, ⟨66, [0, 2, 0, 200]⟩]⟩, {}, {}, {},
          ⟨.queued, [⟨1, [3, 1]⟩]⟩⟩
        commit := { current := .pending, tables := [4, 8] } } }

theorem witness_PendingCommitCompletesAtASafePoint :
    (ready.tbs.commit.current ≠ .pending ∧ safePoint (waitingCommit.setPhc { phase := .act }) = false) ∧
    (let s := waitingCommit
     let t := reexamine s
     safePoint s = true ∧ s.tbs.commit.current = .pending ∧ (∀ r ∈ s.zmn.zones, r.window = none) ∧
      (s.tbs.staging.get .zone).state = .queued ∧ (s.tbs.staging.get .poll).state = .queued ∧
      t.tbs.commit = ⟨.passed, .none, [4, 8], none, 100000⟩ ∧ t.zmn.zones.map (·.condition) = [.unknown] ∧
      (groupOffset t.tbs.active.zone 1, s.tbs.auth.stagingLimit) = (120, 120) ∧
      t.lpc.stations.map (·.address) = [3] ∧ t.clc.channel = .idle ∧
      eventsOf t = [(.pageEnded, some 4), (.commitDone, some 1)]) ∧
    (let s := staged .queued .none
     Ready s ∧ s.tbs.commit.current ≠ .pending ∧ (s.tbs.staging.get .poll).state = .queued ∧
      validate (prospective s) = none ∧ safePoint s = true ∧ (∀ r ∈ s.zmn.zones, r.window = none)) ∧
    (let s := (ready.setTbs { staging := ⟨⟨.queued, cueMap⟩, {}, {}, {}, {}, {}, {}, {}⟩, commit := { current := .pending } }).setSrx
        { state := .ok, lastGood := 99000, idleRef := 99000, valid := 40 }
     safePoint s = true ∧ (s.time < s.srx.lastGood + holdTime cueMap) ∧ idleTime cueMap = 0 ∧
      (reexamine s).srx.valid = 24 ∧ (reexamine s).crg = ⟨none, none⟩) := by
  decide +kernel

theorem witness_AuthorityIsSetAndLocked :
    (Ready ready ∧ act57.tbs.auth.locked = true ∧ ready.tbs.auth.locked = false ∧ 1 ≤ (64 : Byte).toNat ∧
       (64 : Byte).toNat ≤ 64 ∧ ready.keyOn = true ∧
       resultOf (after (.setAuthority [1, 0, 120]) ready) = some .done ∧
       resultOf (after (.setAuthority [1, 0, 121]) ready) = some .clamped ∧
       resultOf (after (.setAuthority [7, 64, 2, 0, 1, 0, 1, 0, 1, 0, 1]) ready) = some .badArgument) ∧
    (resultOf (after (.setAuthority [6, 0, 3]) ready) = some .done ∧
      resultOf (after (.setAuthority [6, 0, 0]) ready) = some .badArgument ∧
      resultOf (after (.setAuthority [6, 0, 4]) ready) = some .badArgument ∧
      (after (.setAuthority [6, 0, 3]) ready).tbs.auth.demoRule = .enforce) ∧
    (ready.tbs.auth.maxWindow.length = 64 ∧ ready.tbs.auth.budget.length = 64 ∧
      (16 : Byte).toNat + (List.replicate 49 ((0, 0, 0, 0) : Byte × Byte × Byte × Byte)).length ≤ 65 ∧
      65 < (17 : Byte).toNat + (List.replicate 49 ((0, 0, 0, 0) : Byte × Byte × Byte × Byte)).length) := by
  decide +kernel

/-! ### Reading commands, invariants, encoding -/

theorem witness_ReadingCommandsGiveTheirRecords :
    (Ready ready ∧ ready.unit = some 5 ∧ 33 + 16 ≤ 49 ∧ 49 + 16 ≤ 65 ∧
       (8 : Byte).toNat = TableId.poll.code ∧ TableId.poll.first ≤ 1 ∧ 5 + 16 ≤ TableId.poll.lastIndex + 1) ∧
    (let items : List (List Byte) := [[0], [0]]
     items = ((List.range 2).map fun k =>
        match (ready.tbs.active.get .poll).find? fun e => e.index == 19 + k with
        | some e => 1 :: e.bytes
        | none => [0]) ∧ 2 ≤ 2 ∧ (items.take 2).flatten.length ≤ 499 ∧ 19 + 2 ≤ TableId.poll.lastIndex + 1) := by
  decide +kernel

theorem witness_EveryStepKeepsTheAlarmConsistent :
    AlarmConsistent evacuating ∧ AlarmConsistent (investigating .awaitingAck) ∧
      AlarmConsistent (after .ackTimerExpiry (investigating .awaitingAck)) :=
  ⟨by decide, by decide, by decide⟩

theorem witness_EveryStepKeepsTheChannelForTheAlarm :
    ChannelConsistent evacuating ∧ ChannelConsistent (withCalls fullQueue) :=
  ⟨⟨by decide, fun _ => .inl (by decide), by decide, by decide⟩,
    by decide, fun h => absurd h (by decide), by decide, by decide⟩

/-- A window in the act, and a curtain that is being raised. -/
theorem witness_EveryStepKeepsTheZoneLaws :
    ZonesConsistent (withZone { zone12 with window := some ⟨99000, 190000⟩ }) := by
  have h : ∀ z < 65, usedOf (withZone { zone12 with window := some ⟨99000, 190000⟩ }) z ≤
      budgetOf (withZone { zone12 with window := some ⟨99000, 190000⟩ }) z := by decide +kernel
  refine ⟨by decide, ?_, fun z _ hz => h z (by omega), fun hl => absurd hl (by decide), by decide, by decide⟩
  intro r hr
  obtain rfl : r = { zone12 with window := some ⟨99000, 190000⟩ } := List.mem_singleton.1 hr
  refine ⟨by decide, by decide, by decide, ?_⟩
  rintro w ⟨⟩
  exact ⟨by decide, by decide, by decide, by decide, by decide, by decide, by decide +kernel⟩

theorem witness_EveryStepKeepsTheCurtainLaws :
    CurtainsConsistent (curtained curtain1) ∧ CurtainsConsistent (after (.curtainMove [1, 1]) (curtained curtain1)) ∧
      (after (.curtainMove [1, 1]) (curtained curtain1)).ctc.curtains.map (·.outstanding) = [some .lower] := by
  refine ⟨by decide, by decide +kernel, by decide +kernel⟩

/-- The tables of `validSet` in force, with a commit of the same Poll List waiting; and an authority record locked. -/
theorem witness_EveryStepKeepsTheTableLaws :
    (let s := ready.setTbs
       { active := validSet
         commit := { current := .pending }
         staging := ⟨{}, {}, {}, {}, {}, {}, {}, ⟨.queued, [⟨1, [3, 1]⟩, ⟨2, [30, 2]⟩]⟩⟩ }
     TablesConsistent s ∧ s.tbs.commit.current = .pending ∧ prospective s = validSet) ∧
    ¬ TablesConsistent (ready.setTbs { active := { validSet with curtain := [] } }) ∧
    (let s := act57.setPending [.setAuthority [1, 0, 120]]
     s.tbs.auth.locked = true ∧ s.pending.head? ≠ some .resetAssertion ∧
      (after (.setAuthority [1, 0, 120]) act57).tbs.auth = act57.tbs.auth) := by
  have h : ReferencesExist validSet :=
    ⟨by decide +kernel, by decide +kernel, by decide +kernel, by decide +kernel, by decide +kernel, by decide +kernel⟩
  exact ⟨⟨⟨h, fun _ => h⟩, rfl, rfl⟩, fun h => absurd h.1.1 (by decide +kernel), by decide⟩

/-- The frame of HOUSE MASTER of group 2 to 180 at unit 5 (12.2), written out: its sum is 0x6B + 5 + 0x22 + 2 +
2 + 180 = 330. -/
theorem witness_ControlFramesCarryEveryCommand :
    (Instr.houseMaster [2, 180]).wellFormed = true ∧
      controlCode (.houseMaster [2, 180]) = some (0x22, [2, 180]) ∧ 254 ≤ 254 ∧
      controlFrameBytes 5 0x22 [2, 180] = [0x6B, 5, 0x22, 2, 2, 180, 1, 74] := by decide

end Sys2Proof.Tests
end

section
/-! What the taking of a control-frame command comes to for a part that is ready (R184, R185), and the reading
commands: each answers with the fields of its record and changes nothing but the reply. -/

namespace Sys2Proof.Machine

open Host

/-! ### Taking a command -/

/-- A ready part takes a command that needs no key: the owner answers and the reply is built (R184, R185). -/
theorem takeCommand_ready {code : Nat} {owner : List Byte → State → Answer} {p : List Byte} {s : State}
    (hs : Ready s) (hp : p.length ≤ 200) :
    takeCommand code false owner p s = buildReply code (owner p s) := by
  obtain ⟨held, unit⟩ := hs
  simp [takeCommand, takes, held, unit, Nat.not_lt.mpr hp]

/-- With the key on, a ready part takes a key command too (R184). -/
theorem takeCommand_keyOn {code : Nat} {owner : List Byte → State → Answer} {p : List Byte} {s : State}
    (hs : Ready s) (hk : s.keyOn = true) (hp : p.length ≤ 200) :
    takeCommand code true owner p s = buildReply code (owner p s) := by
  obtain ⟨held, unit⟩ := hs
  simp [takeCommand, takes, held, unit, hk, Nat.not_lt.mpr hp]

/-- The reply of a ready part to a command without key, from its owner's answer. -/
theorem next_takeCommand {code : Nat} {owner : List Byte → State → Answer} {p : List Byte} {s : State} {a : Answer}
    (hs : Ready s) (ha : owner p s = a) (hp : p.length ≤ 200 := by simp) :
    (.next (takeCommand code false owner p s) : Outcome State Fault Refusal) = .next (buildReply code a) := by
  rw [takeCommand_ready hs hp, ha]

/-- The reply of a ready part to a key command with the key on, from its owner's answer. -/
theorem next_takeCommand_keyOn {code : Nat} {owner : List Byte → State → Answer} {p : List Byte} {s : State}
    {a : Answer} (hs : Ready s) (hk : s.keyOn = true) (ha : owner p s = a) (hp : p.length ≤ 200 := by simp) :
    (.next (takeCommand code true owner p s) : Outcome State Fault Refusal) = .next (buildReply code a) := by
  rw [takeCommand_keyOn hs hk hp, ha]

/-! ### The fields of the records -/

theorem readPair_pair (a b : Byte) : readPair [a, b] = some (a.toNat, b.toNat) := rfl

/-- GET HOUSE's items for one circuit number, written out (R52). -/
theorem circuitReport_eq (s : State) (n : Nat) : circuitReport s n =
    match s.hlu.circuits.find? fun c => c.number == n with
    | none => enc1 0
    | some c => enc1 1 ++ enc1 c.group ++ enc1 c.floor ++ enc1 c.ceiling ++
      (match c.source with
        | .console h => enc1 1 ++ enc1 (if h.isSome then 1 else 0)
        | .preset f => enc1 2 ++ enc1 f.target ++ enc1 (if s.time - f.start < f.duration then 1 else 2) ++ enc1 0) ++
      enc1 (if c.override.isSome then 1 else 0) ++ enc1 (baseLevel s.srx.table c s.time) ++
      enc1 (circuitLevel s c s.time) ++ enc1 c.lastSent := by
  unfold circuitReport findCircuit
  cases s.hlu.circuits.find? fun c => c.number == n with
  | none => rfl
  | some c =>
    cases hc : c.source with
    | console h => simp only [hc]; rfl
    | preset f => simp only [hc, encChoice, decide_eq_true_eq]; rfl

/-- GET HOUSE of circuits in range (R52). -/
theorem getHouseCmd_inRange {first count : Byte} {s : State} (h1 : 1 ≤ first.toNat) (h2 : 1 ≤ count.toNat)
    (h3 : count.toNat ≤ 16) (h4 : first.toNat + count.toNat ≤ 49) :
    getHouseCmd [first, count] s = ⟨s, .done, (s.hlu.groups.map fun g => enc1 g.master ++ enc2 g.fade).flatten ++
      ((List.range count.toNat).map fun i => circuitReport s (first.toNat + i)).flatten⟩ := by
  simp only [getHouseCmd, readPair_pair]
  rw [if_pos (by omega)]

/-- GET ZONES of zones in range (R100). -/
theorem getZonesCmd_inRange {first count : Byte} {s : State} (h1 : 1 ≤ first.toNat) (h2 : 1 ≤ count.toNat)
    (h3 : count.toNat ≤ 16) (h4 : first.toNat + count.toNat ≤ 65) :
    getZonesCmd [first, count] s =
      ⟨s, .done, ((List.range count.toNat).map fun i => zoneBytes s (first.toNat + i)).flatten⟩ := by
  simp only [getZonesCmd, readPair_pair]
  rw [if_pos (by omega)]

/-- The remaining time that GET ALARM gives: of the acknowledge timer when it runs, else of the investigation
timer (R117). -/
theorem timerRemaining_eq (s : State) : timerRemaining s =
    (match s.asc.ackExpiry with | some e => some e | none => s.asc.invExpiry).map fun e => e - s.time := by
  unfold timerRemaining
  cases s.asc.ackExpiry <;> rfl

theorem encOpt_map {α β : Type} (fresh site width : Nat) (enc : β → List Byte) (f : α → β) (o : Option α) :
    encOpt fresh site width enc (o.map f) = encOpt fresh site width (fun a => enc (f a)) o := by
  cases o <;> rfl

/-- The sticky flags of GET STATUS, a byte for each (R188). -/
theorem flatten_map_encYes (l : List Bool) :
    (l.map encYes).flatten = l.map fun b => if b then (1 : Byte) else 0 := by
  induction l with
  | nil => rfl
  | cons b l ih => cases b <;> simp [encYes, enc1, ih]

/-! ### READ ACTIVE (R203) -/

theorem readActiveArgs_four (id hi lo count : Byte) :
    readActiveArgs [id, hi, lo, count] = some ⟨id.toNat, hi.toNat * 256 + lo.toNat, count.toNat⟩ := rfl

theorem tableId_ofCode_code (i : TableId) : TableId.ofCode i.code = some i := by cases i <;> rfl

theorem activeItem_eq (b : Bank) (n : Nat) : activeItem b n =
    match b.find? fun e => e.index == n with
    | some e => 1 :: e.bytes
    | none => enc1 0 := by
  unfold activeItem bankFind
  cases b.find? fun e => e.index == n <;> rfl

/-- The items that fit in a room are the first `n`, when those fit and one more does not, or none is left. -/
theorem fitting_eq_take (room : Nat) (items : List (List Byte)) (n : Nat) (hn : n ≤ items.length)
    (hfit : (items.take n).flatten.length ≤ room)
    (hmost : n = items.length ∨ room < (items.take (n + 1)).flatten.length) :
    fitting room items = items.take n := by
  induction items generalizing room n with
  | nil => simp [fitting]
  | cons x rest ih =>
    cases n with
    | zero =>
      have : room < x.length := by simpa using hmost
      simp [fitting, Nat.not_le.mpr this]
    | succ n =>
      simp only [List.take_succ_cons, List.flatten_cons, List.length_append, List.length_cons] at hfit hmost hn
      have hx : x.length ≤ room := by omega
      rw [List.take_succ_cons, fitting, if_pos hx, ih (room - x.length) n (by omega) (by omega) (by omega)]

/-- READ ACTIVE of indices in range gives the most items that fit in 499 bytes (R203). -/
theorem readActiveCmd_inRange {i : TableId} {id hi lo count : Byte} {n : Nat} {s : State} (hid : id.toNat = i.code)
    (hlow : i.first ≤ hi.toNat * 256 + lo.toNat) (h1 : 1 ≤ count.toNat) (h16 : count.toNat ≤ 16)
    (hhigh : hi.toNat * 256 + lo.toNat + count.toNat ≤ i.lastIndex + 1) (items : List (List Byte))
    (hitems : items = (List.range count.toNat).map fun k =>
      activeItem (s.tbs.active.get i) (hi.toNat * 256 + lo.toNat + k))
    (hn : n ≤ count.toNat) (hfit : (items.take n).flatten.length ≤ 499)
    (hmost : n = count.toNat ∨ 499 < (items.take (n + 1)).flatten.length) :
    readActiveCmd [id, hi, lo, count] s = ⟨s, .done, enc1 n ++ (items.take n).flatten⟩ := by
  have hlen : items.length = count.toNat := by simp [hitems]
  simp only [readActiveCmd, readActiveArgs_four, hid, tableId_ofCode_code, readActiveAt]
  rw [if_pos (by omega), ← hitems, fitting_eq_take 499 items n (by omega) hfit (by omega), List.length_take,
    Nat.min_eq_left (by omega)]

/-! ### The reading commands -/

theorem getAlarmCmd_eq (s : State) : getAlarmCmd [] s = ⟨s, .done,
    enc1 s.asc.stage.code ++ encOpt s.fresh 10 1 (fun x : InvStep => enc1 x.code) s.asc.invStep ++
    encOpt s.fresh 11 1 enc1 s.asc.zone ++ encOpt s.fresh 12 1 enc1 s.asc.group ++
    enc1 (if s.asc.general then 1 else 0) ++ enc4 (s.asc.stageStart / 1000) ++
    encOpt s.fresh 13 4 (fun t => enc4 (t / 1000)) s.asc.evacStart ++
    encOpt s.fresh 14 4 (fun e => enc4 (e - s.time))
      (match s.asc.ackExpiry with | some e => some e | none => s.asc.invExpiry) ++
    enc1 (if s.asc.showStop then 1 else 2) ++
    encOpt s.fresh 15 5 (fun x : Nat × Nat => enc1 x.1 ++ enc4 (x.2 / 1000)) s.asc.lastPre ++
    enc1 (s.zmn.zones.filter fun r => r.latch).length ++
    enc1 (s.zmn.zones.filter fun r => decide (r.condition = .fire)).length ++
    ((List.range 7).map (groupBytes s)).flatten⟩ := by
  simp only [getAlarmCmd, timerRemaining_eq, encOpt_map, List.countP_eq_length_filter]
  rfl

theorem getCallsCmd_eq (s : State) : getCallsCmd [] s = ⟨s, .done,
    enc1 s.clc.channel.code ++ enc1 s.clc.announcer.code ++
    encOpt s.fresh 70 1 (fun x : CutReason => enc1 x.code) s.clc.cut ++ encYes s.clc.evacOwed ++
    encOpt s.fresh 71 2 (fun x : Activity × Nat => enc1 x.1.code ++ enc1 x.2) s.clc.unitReport ++
    playingBytes s ++ pagingBytes s ++ encFoh s.clc.evacZones ++
    enc1 s.clc.queue.length ++ (s.clc.queue.map (callBytes s)).flatten ++
    enc1 s.clc.sched.length ++ (s.clc.sched.map (scheduledBytes s)).flatten ++
    enc1 s.clc.requests.length ++ (s.clc.requests.map requestBytes).flatten⟩ := by
  simp [getCallsCmd, encList]

theorem getCommitCmd_eq (s : State) : getCommitCmd [] s = ⟨s, .done,
    enc1 s.tbs.commit.current.code ++ enc1 s.tbs.commit.previous.previousCode ++
    enc1 s.tbs.commit.tables.length ++ (s.tbs.commit.tables.map enc1).flatten ++
    encOpt s.fresh 1 4 failureBytes s.tbs.commit.failure ++ enc4 s.tbs.commit.outcome ++
    (TableId.all.map fun i => stagingReport s i ++ enc2 (s.tbs.active.get i).length).flatten⟩ := by
  simp [getCommitCmd, encList]

theorem getStatusCmd_eq (s : State) : getStatusCmd [] s = ⟨s, .done, statusBytes s⟩ := rfl

/-- Settles O53: each reading command's answer is its record's fields, in order, with the state as it was. -/
theorem readingCommandsGiveTheirRecords : Obligations.ReadingCommandsGiveTheirRecords := by
  intro s kind hs hkind
  have hkind : kind = messageKind s := by
    funext m
    rw [hkind, messageKind]
    cases findMessage s.tbs.active.message m <;> rfl
  subst hkind
  refine ⟨next_takeCommand hs rfl, fun u hu => next_takeCommand hs ?_, fun first count h1 h2 h3 =>
    ⟨fun h => next_takeCommand hs ?_, fun h => next_takeCommand hs (getZonesCmd_inRange h1 h2 h3 h)⟩,
    next_takeCommand hs (getAlarmCmd_eq s), next_takeCommand hs rfl, next_takeCommand hs (getCallsCmd_eq s),
    next_takeCommand hs ?_, next_takeCommand hs (getCommitCmd_eq s), next_takeCommand hs rfl, ?_⟩
  case refine_1 => simp only [getIdentityCmd, hu]; rfl
  case refine_2 =>
    have answer := getHouseCmd_inRange (s := s) h1 h2 h3 h
    simp only [circuitReport_eq] at answer
    exact answer
  case refine_3 =>
    rewrite [getStatusCmd_eq]
    unfold statusBytes
    rewrite [flatten_map_encYes]
    cases s.srx.lastFrame.kind <;> rfl
  case refine_4 =>
    rintro i id hi lo count _ n items hid rfl hlow h1 h16 hhigh hitems hn hfit hmost
    refine next_takeCommand hs (readActiveCmd_inRange hid hlow h1 h16 hhigh items ?_ hn hfit hmost)
    simp only [activeItem_eq]
    exact hitems

end Sys2Proof.Machine
end

section
/-! What an operation of CLC or CTC leaves unchanged; when two states are the same for the announcement channel;
and a commit that does not wait. -/

namespace Sys2Proof.Machine

/-! ### What CLC's and CTC's operations leave -/

/-- `t` differs from `s` at most in the records of CTC, CLC, LPC, EVQ and CMI, among the blocks. -/
structure SameCore (s t : State) : Prop where
  time : t.time = s.time
  phc : t.phc = s.phc
  srx : t.srx = s.srx
  fbl : t.fbl = s.fbl
  hlu : t.hlu = s.hlu
  crg : t.crg = s.crg
  zmn : t.zmn = s.zmn
  asc : t.asc = s.asc
  tbs : t.tbs = s.tbs

theorem SameCore.refl (s : State) : SameCore s s := ⟨rfl, rfl, rfl, rfl, rfl, rfl, rfl, rfl, rfl⟩

theorem SameCore.trans {s t u : State} (h : SameCore s t) (k : SameCore t u) : SameCore s u :=
  ⟨k.time.trans h.time, k.phc.trans h.phc, k.srx.trans h.srx, k.fbl.trans h.fbl, k.hlu.trans h.hlu,
    k.crg.trans h.crg, k.zmn.trans h.zmn, k.asc.trans h.asc, k.tbs.trans h.tbs⟩

theorem sameCore_postRecord (r : EventRecord) (s : State) : SameCore s (postRecord r s) := by
  constructor <;> simp

/-- A placement changes the queue, and posts CALL DISPLACED at most (R151). -/
theorem placeCall_cases (c : Call) (s : State) :
    (∃ q, (placeCall c s).state = setQueue q s) ∨
    ∃ q m p, (placeCall c s).state = setQueue q (post .callDisplaced m p s) := by
  have same : setQueue s.clc.queue s = s := rfl
  unfold placeCall
  split
  · exact .inl ⟨_, rfl⟩
  · split
    · exact .inl ⟨_, rfl⟩
    · split
      · split
        · exact .inr ⟨_, _, _, rfl⟩
        · exact .inl ⟨_, same.symm⟩
      · exact .inl ⟨_, same.symm⟩

theorem sameCore_placeCall (c : Call) (s : State) :
    SameCore s (placeCall c s).state ∧ (placeCall c s).state.ctc = s.ctc := by
  obtain ⟨q, h⟩ | ⟨q, m, p, h⟩ := placeCall_cases c s <;> rw [h] <;>
    exact ⟨by constructor <;> simp [setQueue], by simp [setQueue]⟩

/-- CLC's operations keep the other owners' records. -/
theorem keptByCalls_sameCore (s : State) : KeptByCalls fun t => SameCore s t ∧ t.ctc = s.ctc where
  posted h := ⟨h.1.trans (sameCore_postRecord _ _), by simpa using h.2⟩
  lpc h := ⟨h.1.trans (by constructor <;> rfl), h.2⟩
  clc _ h := ⟨h.1.trans (by constructor <;> rfl), h.2⟩
  place h := ⟨h.1.trans (sameCore_placeCall _ _).1, (sameCore_placeCall _ _).2.trans h.2⟩

/-- CTC's operations keep the other owners' records. -/
theorem keptByCurtains_sameCore (s : State) : KeptByCurtains fun t => SameCore s t ∧ t.clc = s.clc where
  posted h := ⟨h.1.trans (sameCore_postRecord _ _), by simpa using h.2⟩
  lpc h := ⟨h.1.trans (by constructor <;> rfl), h.2⟩
  ctc h := ⟨h.1.trans (by constructor <;> rfl), h.2⟩

/-- No operation of the owners or of the alarm changes the show record. -/
theorem keptByStage_phc (x : ShowRecord) : KeptByStage fun t => t.phc = x where
  posted h := by simpa using h
  lpc h := h
  ctc h := h
  clc _ h := h
  place h := (sameCore_placeCall _ _).1.phc.trans h
  hlu h := h
  fbl h := h
  srx h := h
  crg h := h
  zmn h := h
  tbs _ h := h
  sticky h := h
  fresh h := h
  asc h := h

/-! ### A commit that does not wait -/

/-- TBS does nothing while no commit is pending (R200). -/
theorem reexamine_of_not_pending {s : State} (h : s.tbs.commit.current ≠ .pending) : reexamine s = s := by
  simp [reexamine, commitPending, h]

theorem freed_of_not_pending {s : State} (h : s.tbs.commit.current ≠ .pending) : freed s = select s := by
  rw [freed, reexamine_of_not_pending h]

/-! ### States that are the same for the announcement channel -/

/-- The event queue and the attention record after an evaluation of ATTENTION (R195). -/
def Events.evaluated (q : Events) : Events :=
  if q.armed && q.gap.isNone && q.queue.any (qualifies q.mask) then { q with line := true, armed := false } else q

theorem evaluateAttention_eq (s : State) : evaluateAttention s = s.setEvq s.evq.evaluated := by
  unfold evaluateAttention Events.evaluated
  split <;> rfl

/-- A posting changes EVQ's and CMI's records by what they hold and by the time alone (R192, R193, R195). -/
theorem postAt_eq (level : Nat) (e : Event) (index : Nat) (arg : Option Nat) (s : State) :
    postAt level e index arg s =
      (s.setEvq (Events.evaluated
        { s.evq with queue := (placeEvent s.evq.queue ⟨s.time / 1000, level, e, index, arg⟩).1 })).setCmi
        (countDiscard (placeEvent s.evq.queue ⟨s.time / 1000, level, e, index, arg⟩).2 s.cmi) :=
  evaluateAttention_eq _

/-- The two states have the same event queue and attention record, discards and time. -/
structure SameEvents (s t : State) : Prop where
  evq : s.evq = t.evq
  cmi : s.cmi = t.cmi
  time : s.time = t.time

theorem SameEvents.post {s t : State} (h : SameEvents s t) (e : Event) (index : Nat) (arg : Option Nat) :
    SameEvents (post e index arg s) (post e index arg t) := by
  obtain ⟨hq, hc, ht⟩ := h
  constructor
  · simp only [Machine.post, postAt_eq, State.setCmi_evq, State.setEvq_evq, hq, ht]
  · simp only [Machine.post, postAt_eq, State.setCmi_cmi, hq, hc, ht]
  · simpa using ht

/-- `u` with what CLC's operations read and change taken from `s`. -/
def State.over (s u : State) : State :=
  { u with
    clc := s.clc, lpc := s.lpc, evq := s.evq, cmi := s.cmi, time := s.time, tbs := s.tbs, asc := s.asc }

section
variable (s u : State)
@[simp] theorem State.over_clc : (s.over u).clc = s.clc := rfl
theorem State.over_setClc (x : Calls) : (s.over u).setClc x = (s.setClc x).over u := rfl

theorem post_over (e : Event) (index : Nat) (arg : Option Nat) :
    post e index arg (s.over u) = (post e index arg s).over u := by
  simp only [post, postAt_eq]
  rfl

theorem issue_over (a : Nat) (c : LoopCmd) : issue a c (s.over u) = (issue a c s).over u := rfl

theorem unitIssue_over (c : LoopCmd) : unitIssue c (s.over u) = (unitIssue c s).over u := by
  have ha : announcerAddress (s.over u) = announcerAddress s := rfl
  by_cases h : s.clc.announcer = .present
  · simp only [unitIssue, State.over_clc, h, if_true, ha]
    cases announcerAddress s <;> rfl
  · simp only [unitIssue, State.over_clc, h, if_false]

theorem startCall_over (c : Call) : startCall c (s.over u) = (startCall c s).over u := by
  simp only [startCall, State.over_setClc, State.over_clc, ← post_over, ← unitIssue_over]
  rfl

theorem grantPage_over (r : Request) : grantPage r (s.over u) = (grantPage r s).over u := by
  simp only [grantPage, State.over_setClc, State.over_clc, ← post_over, ← issue_over, ← unitIssue_over]
  rfl

theorem select_over : select (s.over u) = (select s).over u := by
  have hs : startableHead (s.over u) = startableHead s := rfl
  have hw : waitingHead (s.over u) = waitingHead s := rfl
  simp only [select, hs, hw, startCall_over, grantPage_over, State.over_clc]
  split
  · split
    · rfl
    · rfl
    · rfl
    · exact (apply_ite (fun v : State => v.over u) _ _ _).symm
  · rfl

theorem placeCall_over (c : Call) :
    placeCall c (s.over u) = { placeCall c s with state := (placeCall c s).state.over u } := by
  simp only [placeCall, State.over_clc, post_over]
  split
  · rfl
  · split
    · rfl
    · split
      · split
        · rfl
        · rfl
      · rfl

theorem placeAndSelect_over (c : Call) :
    placeAndSelect c (s.over u) = { placeAndSelect c s with state := (placeAndSelect c s).state.over u } := by
  simp only [placeAndSelect, placeCall_over, select_over]
  split
  · rfl
  · rfl

theorem placeOrDrop_over (c : Call) : placeOrDrop c (s.over u) = (placeOrDrop c s).over u := by
  simp only [placeOrDrop, placeAndSelect_over, post_over]
  split
  · rfl
  · split
    · rfl
    · rfl
end

/-- The two states are the same for CLC's operations: its own records, those of LPC, EVQ and CMI, the tables, the
alarm and the time. -/
structure SameChannel (s t : State) : Prop where
  clc : s.clc = t.clc
  lpc : s.lpc = t.lpc
  evq : s.evq = t.evq
  cmi : s.cmi = t.cmi
  time : s.time = t.time
  tbs : s.tbs = t.tbs
  asc : s.asc = t.asc

theorem SameChannel.over_eq {s t : State} (h : SameChannel s t) : t.over s = s := by
  obtain ⟨h1, h2, h3, h4, h5, h6, h7⟩ := h
  simp only [State.over, ← h1, ← h2, ← h3, ← h4, ← h5, ← h6, ← h7]

theorem sameChannel_over (s u : State) : SameChannel (s.over u) s := ⟨rfl, rfl, rfl, rfl, rfl, rfl, rfl⟩

/-- An operation that reads and changes only what CLC's operations read and change takes states that are the same for
it to such states. -/
theorem SameChannel.map {s t : State} (h : SameChannel s t) {f : State → State}
    (hf : ∀ v u : State, f (v.over u) = (f v).over u) : SameChannel (f s) (f t) := by
  rw [← h.over_eq, hf]
  exact sameChannel_over _ _

theorem SameChannel.post {s t : State} (h : SameChannel s t) (e : Event) (index : Nat) (arg : Option Nat) :
    SameChannel (post e index arg s) (post e index arg t) := h.map fun v u => post_over v u e index arg

theorem SameChannel.select {s t : State} (h : SameChannel s t) : SameChannel (select s) (select t) :=
  h.map select_over

theorem SameChannel.unitIssue {s t : State} (h : SameChannel s t) (c : LoopCmd) :
    SameChannel (unitIssue c s) (unitIssue c t) := h.map fun v u => unitIssue_over v u c

theorem SameChannel.placeOrDrop {s t : State} (h : SameChannel s t) (c : Call) :
    SameChannel (placeOrDrop c s) (placeOrDrop c t) := h.map fun v u => placeOrDrop_over v u c

theorem SameChannel.setClc {s t : State} (h : SameChannel s t) (x : Calls) :
    SameChannel (s.setClc x) (t.setClc x) := h.map (f := fun v => v.setClc x) fun v u => State.over_setClc v u x

end Sys2Proof.Machine
end

section
/-! SET PHASE (R2 to R9): the answer to it, and the show record after a transition. -/

namespace Sys2Proof.Machine

/-- The interval length that a SET PHASE gives: none when its byte is 0 (R2, R206). -/
def givenMinutes (b : Byte) : Option Nat := if b.toNat = 0 then none else some b.toNat

theorem setPhaseCmd_two (code minutes : Byte) (s : State) : setPhaseCmd [code, minutes] s =
    let r := setPhaseAt code.toNat (givenMinutes minutes) s
    { r with payload := showBytes r.state } := rfl

/-- SET PHASE at a ready part, by the answer of PHC (R2, R184). -/
theorem exec_setPhase {code minutes : Byte} {s t : State} {r : Result} {p : List Byte} (hs : Ready s)
    (h : setPhaseAt code.toNat (givenMinutes minutes) s = ⟨t, r, p⟩) :
    exec (.setPhase [code, minutes]) s = .next (buildReply 0x10 ⟨t, r, showBytes t⟩) :=
  next_takeCommand hs (by rw [setPhaseCmd_two, h])

/-- The eleven transitions of R3. -/
theorem allowed_iff (p q : Phase) : allowed p q = true ↔ (p, q) ∈ [(Phase.dark, Phase.preshow),
    (.preshow, .houseOpen), (.preshow, .dark), (.houseOpen, .act), (.houseOpen, .dark), (.act, .interval),
    (.act, .houseClear), (.act, .dark), (.interval, .act), (.interval, .dark), (.houseClear, .dark)] := by
  cases p <;> cases q <;> decide

theorem actRefused_eq_false {s : State} (hact : s.phc.act < 9)
    (hdemo : s.phc.act = 0 → s.ctc.demo.state = .passed ∨ s.tbs.auth.demoRule ≠ .enforce) :
    actRefused s = false := by
  have : s.phc.act ≠ 9 := by omega
  simp only [actRefused, notPassed, Bool.or_eq_false_iff, Bool.and_eq_false_iff, beq_eq_false_iff_ne, bne_eq_false_iff_eq]
  refine ⟨this, ?_⟩
  rcases Nat.eq_zero_or_pos s.phc.act with h0 | hpos
  · exact (hdemo h0).elim (fun h => .inl (.inr h)) .inr
  · exact .inl (.inl (by omega))

/-! ### The checks of R2 -/

section
variable {code : Nat} {minutes : Option Nat} {q : Phase} {s : State}

theorem setPhaseAt_badCode (h : Phase.ofCode code = none) : setPhaseAt code minutes s = ⟨s, .badArgument, []⟩ := by
  simp [setPhaseAt, h]

theorem setPhaseAt_underAlarm (hq : Phase.ofCode code = some q) (h : s.asc.stage ≠ .normal) :
    setPhaseAt code minutes s = ⟨s, .refusedState, []⟩ := by
  simp [setPhaseAt, hq, h]

theorem setPhaseAt_darkInDark (hq : Phase.ofCode code = some .dark) (hn : s.asc.stage = .normal)
    (h : s.phc.phase = .dark) : setPhaseAt code minutes s = ⟨s, .done, []⟩ := by
  simp [setPhaseAt, hq, hn, h]

theorem setPhaseAt_notAllowed (hq : Phase.ofCode code = some q) (hn : s.asc.stage = .normal)
    (hd : (s.phc.phase, q) ≠ (.dark, .dark)) (h : allowed s.phc.phase q = false) :
    setPhaseAt code minutes s = ⟨s, .refusedState, []⟩ := by
  have : ¬ (q = .dark ∧ s.phc.phase = .dark) := fun ⟨h1, h2⟩ => hd (by rw [h1, h2])
  simp [setPhaseAt, hq, hn, h, this]

theorem setPhaseAt_actRefused (hq : Phase.ofCode code = some .act) (hn : s.asc.stage = .normal)
    (h : actRefused s = true) : setPhaseAt code minutes s = ⟨s, .refusedState, []⟩ := by
  simp [setPhaseAt, hq, hn, h]

theorem setPhaseAt_taken (hq : Phase.ofCode code = some q) (hn : s.asc.stage = .normal)
    (ha : allowed s.phc.phase q = true) (h : q = .act → actRefused s = false) :
    setPhaseAt code minutes s =
      ⟨transition q minutes s, if minutesClamped q minutes then .clamped else .done, []⟩ := by
  have hd : ¬ (q = .dark ∧ s.phc.phase = .dark) := by
    rintro ⟨rfl, hp⟩
    rw [hp] at ha
    exact absurd ha (by decide)
  have hr : ¬ (q = .act ∧ actRefused s = true) := fun ⟨h1, h2⟩ => by simp [h h1] at h2
  simp [setPhaseAt, hq, hn, ha, hd, hr]
end

/-! ### The transition (R4) -/

/-- The part after the exit and the entry effects, before PHASE ENTERED (R4). -/
def entered (new : Phase) (minutes : Option Nat) (s : State) : State :=
  fillPhase new (reexamine (enterPhase new (exitPhase s.phc.phase (s.setPhc (enteredRecord s new minutes)))))

theorem transition_eq (new : Phase) (minutes : Option Nat) (s : State) : transition new minutes s =
    if missed s new then
      post .demonstrationMissed 1 none
        (post .phaseEntered (enteredRecord s new minutes).act (some new.code) (entered new minutes s))
    else post .phaseEntered (enteredRecord s new minutes).act (some new.code) (entered new minutes s) := rfl

/-- What the events of an entry leave is what the exit and the entry left. -/
theorem transition_kept_of_entered {P : State → Prop} (h : ∀ {r s}, P s → P (postRecord r s)) {new : Phase}
    {minutes : Option Nat} {s : State} (hs : P (entered new minutes s)) : P (transition new minutes s) := by
  rw [transition_eq]
  split
  · exact h (h hs)
  · exact h hs

/-- The show record after a transition is the one that PHC made: no other block changes it (R4). -/
theorem transition_phc (new : Phase) (minutes : Option Nat) (s : State) :
    (transition new minutes s).phc = enteredRecord s new minutes := by
  have hk := keptByStage_phc (enteredRecord s new minutes)
  exact transition_kept_of_entered (P := fun t => t.phc = _) hk.posted
    (fillPhase_kept hk.toKeptByCalls _ _ (reexamine_kept hk.toKeptByOwners _
      (enterPhase_kept hk.toKeptByOwners _ _ (exitPhase_kept hk _ _ rfl))))

/-- The interval length that an entry to INTERVAL fixes (R9). -/
theorem intervalLength_given (s : State) (minutes : Byte) : intervalLength s (givenMinutes minutes) =
    if minutes.toNat = 0 then defaultInterval s.tbs.active.schedule else max 5 (min 60 minutes.toNat) := by
  unfold givenMinutes
  split <;> rfl

/-- A given interval length is clamped just when it is outside 5 to 60 minutes (R9). -/
theorem minutesClamped_iff (q : Phase) (minutes : Byte) : minutesClamped q (givenMinutes minutes) = true ↔
    q = .interval ∧ minutes.toNat ≠ 0 ∧ (minutes.toNat < 5 ∨ 60 < minutes.toNat) := by
  unfold minutesClamped givenMinutes
  split
  · simp [*]
  · have : clampTo 5 60 minutes.toNat ≠ minutes.toNat ↔ minutes.toNat < 5 ∨ 60 < minutes.toNat := by
      unfold clampTo; omega
    simp [*]

theorem ofCode_eq_some_of_le {code : Nat} (h : code ≤ 5) : ∃ q, Phase.ofCode code = some q := by
  interval_cases code <;> exact ⟨_, rfl⟩

/-- Settles O10: each check of R2 that refuses, and the record of a transition that is taken. -/
theorem setPhaseTakesOrRefuses : Obligations.SetPhaseTakesOrRefuses := by
  refine ⟨fun code minutes q s hs hn hq hd => ⟨fun hmove => ?_, fun hmove hact => ?_⟩, fun code minutes s hs =>
    ⟨fun hc => exec_setPhase hs (setPhaseAt_badCode hc), fun hc hstage => ?_, fun hc hn hp => ?_,
      fun hc hn hp ha => ?_, fun hc hn hp ha hdemo hrule => ?_⟩⟩
  case refine_1 =>
    rw [← allowed_iff, Bool.not_eq_true] at hmove
    exact exec_setPhase hs (setPhaseAt_notAllowed hq hn hd hmove)
  case refine_2 =>
    have taken := setPhaseAt_taken (minutes := givenMinutes minutes) hq hn ((allowed_iff _ _).mpr hmove)
      fun h => actRefused_eq_false (hact h).1 (hact h).2
    refine ⟨_, _, exec_setPhase hs taken, ?_, ?_, ?_⟩
    · rw [transition_phc, enteredRecord, intervalLength_given]
    · rw [← minutesClamped_iff]
      split <;> simp [*]
    · split <;> simp
  case refine_3 =>
    obtain ⟨q, hq⟩ := ofCode_eq_some_of_le hc
    exact exec_setPhase hs (setPhaseAt_underAlarm hq hstage)
  case refine_4 =>
    exact exec_setPhase hs (setPhaseAt_darkInDark (by rw [hc]; rfl) hn hp)
  case refine_5 =>
    exact exec_setPhase hs (setPhaseAt_actRefused (by rw [hc]; rfl) hn (by simp [actRefused, ha]))
  case refine_6 =>
    exact exec_setPhase hs
      (setPhaseAt_actRefused (by rw [hc]; rfl) hn (by simp [actRefused, notPassed, ha, hdemo, hrule]))

end Sys2Proof.Machine
end

section
/-! ALARM ACK, ALARM FALSE and ALARM RESET (R108, R110, R116). -/

namespace Sys2Proof.Machine

/-! ### ALARM ACK (R108) -/

theorem alarmAckCmd_awaiting {s : State} {z : Nat} (hi : s.asc.stage = .investigate)
    (hstep : s.asc.invStep = some .awaitingAck) (hz : s.asc.zone = some z) : alarmAckCmd [] s =
    ⟨post .alarmAcknowledged z none (s.setAsc { s.asc with
      ackExpiry := none
      invStep := some .investigating
      invExpiry := some (s.time + s.tbs.auth.invTime * 1000) }), .done, []⟩ := by
  simp [alarmAckCmd, hi, hstep, hz]

theorem alarmAckCmd_refused {s : State} (h : ¬ (s.asc.stage = .investigate ∧ s.asc.invStep = some .awaitingAck)) :
    alarmAckCmd [] s = ⟨s, .refusedState, []⟩ := by
  simp only [alarmAckCmd, List.isEmpty_nil, Bool.not_true, Bool.false_eq_true, if_false, if_neg h]

/-! ### ALARM FALSE (R110) -/

theorem originFires_iff (s : State) : originFires s = true ↔
    ∃ z r, s.asc.zone = some z ∧ findZone s z = some r ∧ r.condition = .fire := by
  unfold originFires
  cases hz : s.asc.zone with
  | none => simp
  | some z => cases hr : findZone s z <;> simp [hr]

theorem alarmFalseCmd_refused {s : State} (h : s.asc.stage ≠ .investigate ∨ originFires s = true) :
    alarmFalseCmd [] s = ⟨s, .refusedState, []⟩ := by
  rcases h with h | h <;> simp [alarmFalseCmd, h]

theorem alarmFalseCmd_taken {s : State} (hi : s.asc.stage = .investigate) (h : originFires s = false) :
    alarmFalseCmd [] s = ⟨declareFalse s, .done, []⟩ := by
  simp [alarmFalseCmd, hi, h]

/-- The part after ALARM FALSE, before the channel chooses. -/
def falseDeclared (s : State) : State :=
  returnToNormal (post .alarmFalse (s.asc.zone.getD 0) none
    ((removeDetection (clearLatches s)).setAsc { s.asc with
      ackExpiry := none, invExpiry := none, invStep := none, zone := none, group := none }))

theorem declareFalse_eq {s : State} (h : s.tbs.commit.current ≠ .pending) :
    declareFalse s = select (falseDeclared s) :=
  freed_of_not_pending (s := falseDeclared s)
    (by simpa [falseDeclared, returnToNormal, markIdle, removeDetection, setQueue, clearLatches] using h)

/-- What the channel sees when it chooses after ALARM FALSE: the event is posted, the alarm record is that of NORMAL, the
DETECTION calls are gone. -/
theorem falseDeclared_sameChannel {s : State} {z : Nat} (hz : s.asc.zone = some z) (a : Alarm)
    (ha : a = (falseDeclared s).asc) :
    SameChannel (falseDeclared s) (((post .alarmFalse z none s).setAsc a).setClc
      { s.clc with queue := s.clc.queue.filter fun c => c.origin != .detection }) := by
  have events : SameEvents (falseDeclared s) (post .alarmFalse z none s) := by
    have h := SameEvents.post (s := (removeDetection (clearLatches s)).setAsc { s.asc with
      ackExpiry := none, invExpiry := none, invStep := none, zone := none, group := none }) (t := s) ⟨rfl, rfl, rfl⟩
      .alarmFalse z none
    simp only [falseDeclared, hz]
    exact ⟨h.evq, h.cmi, h.time⟩
  constructor
  · simp [falseDeclared, returnToNormal, markIdle, removeDetection, setQueue, clearLatches]
  · simp [falseDeclared, returnToNormal, markIdle, removeDetection, setQueue, clearLatches]
  · exact events.evq
  · exact events.cmi
  · exact events.time
  · simp [falseDeclared, returnToNormal, markIdle, removeDetection, setQueue, clearLatches]
  · exact ha.symm

/-! ### ALARM RESET (R116) -/

theorem anyFire_iff (s : State) : anyFire s = true ↔ ∃ r ∈ s.zmn.zones, r.condition = .fire := by
  simp [anyFire]

theorem alarmResetCmd_refused {s : State} (h : s.asc.stage ≠ .evacuate ∨ anyFire s = true) :
    alarmResetCmd [] s = ⟨s, .refusedState, []⟩ := by
  rcases h with h | h <;> simp [alarmResetCmd, h]

theorem alarmResetCmd_taken {s : State} (he : s.asc.stage = .evacuate) (h : anyFire s = false) :
    alarmResetCmd [] s = ⟨resetAlarm s, .done, []⟩ := by
  simp [alarmResetCmd, he, h]

/-- The part after ALARM RESET, before CLC leaves EVACUATION. -/
def alarmCleared (s : State) : State :=
  returnToNormal (post .alarmReset (s.asc.zone.getD 0) none
    (clearedAlarm (clearLatches (houseAlarmReset (forceClear s)))))

/-- The call list that leaving the phase leaves (R12). -/
def listLeft (s : State) : List Scheduled := if s.phc.phase = .interval then [] else s.clc.sched

theorem forceClear_eq (s : State) : forceClear s = post .phaseForced s.phc.act (some 5)
    ((s.setPhc { s.phc with phase := .houseClear, start := s.time }).setClc { s.clc with sched := listLeft s }) := by
  unfold forceClear listLeft
  split <;> rfl

theorem resetAlarm_eq {s : State} (h : s.tbs.commit.current ≠ .pending) :
    resetAlarm s = select (channelAlarmReset (alarmCleared s)) := by
  refine freed_of_not_pending (s := channelAlarmReset (alarmCleared s)) ?_
  have left := (channelAlarmReset_kept (keptByCalls_sameCore (alarmCleared s)) _ ⟨.refl _, rfl⟩).1.tbs
  rw [left]
  simpa [alarmCleared, returnToNormal, markIdle, clearedAlarm, clearLatches, houseAlarmReset, forceClear_eq] using h

/-- What CLC sees of ALARM RESET: PHASE FORCED and then ALARM RESET are posted, the alarm record is that of NORMAL, the
list of an interval is gone. -/
theorem alarmCleared_sameChannel {s : State} {z : Nat} (hz : s.asc.zone = some z) (a : Alarm)
    (ha : a = (alarmCleared s).asc) :
    SameChannel (alarmCleared s)
      (((post .alarmReset z none (post .phaseForced s.phc.act (some 5) s)).setAsc a).setClc
        { s.clc with sched := listLeft s }) := by
  have forced : SameEvents (clearedAlarm (clearLatches (houseAlarmReset (forceClear s))))
      (post .phaseForced s.phc.act (some 5) s) := by
    have h := SameEvents.post (s := (s.setPhc { s.phc with phase := .houseClear, start := s.time }).setClc
      { s.clc with sched := listLeft s }) (t := s) ⟨rfl, rfl, rfl⟩ .phaseForced s.phc.act (some 5)
    constructor
    · simpa [clearedAlarm, clearLatches, houseAlarmReset, forceClear_eq] using h.evq
    · simpa [clearedAlarm, clearLatches, houseAlarmReset, forceClear_eq] using h.cmi
    · simp [clearedAlarm, clearLatches, houseAlarmReset, forceClear_eq]
  have events : SameEvents (alarmCleared s) (post .alarmReset z none (post .phaseForced s.phc.act (some 5) s)) := by
    have h := forced.post .alarmReset z none
    constructor
    · simpa [alarmCleared, returnToNormal, markIdle, hz] using h.evq
    · simpa [alarmCleared, returnToNormal, markIdle, hz] using h.cmi
    · simpa [alarmCleared, returnToNormal, markIdle, hz] using h.time
  constructor
  · simp [alarmCleared, returnToNormal, markIdle, clearedAlarm, clearLatches, houseAlarmReset, forceClear_eq]
  · simp [alarmCleared, returnToNormal, markIdle, clearedAlarm, clearLatches, houseAlarmReset, forceClear_eq]
  · exact events.evq
  · exact events.cmi
  · exact events.time
  · simp [alarmCleared, returnToNormal, markIdle, clearedAlarm, clearLatches, houseAlarmReset, forceClear_eq]
  · exact ha.symm

theorem unitIssue_clc (c : LoopCmd) (s : State) : (unitIssue c s).clc = s.clc := by
  unfold unitIssue
  repeat' split
  all_goals rfl

theorem channelAlarmReset_evacuation {s : State} (h : s.clc.channel = .evacuation) : channelAlarmReset s =
    (unitIssue (.stopPlay false) s).setClc
      { s.clc with evacZones := 0, cut := none, cutTaken := false, channel := .idle } := by
  simp only [channelAlarmReset, h, unitIssue_clc]

theorem channelAlarmReset_paging {s : State} (h : s.clc.channel = .paging) : channelAlarmReset s =
    s.setClc { s.clc with evacZones := 0, evacOwed := false } := by
  simp only [channelAlarmReset, h]

/-- The channel does not choose while it is not IDLE (R158). -/
theorem select_of_not_idle {s : State} (h : s.clc.channel ≠ .idle) : select s = s := by
  simp [select, h]

/-- A command to the unit depends on the announcer status and LPC's records, and not on the rest of CLC's. -/
theorem unitIssue_setClc (c : LoopCmd) (s : State) (x : Calls) (hx : x.announcer = s.clc.announcer) :
    unitIssue c (s.setClc x) = (unitIssue c s).setClc x := by
  have ha : announcerAddress (s.setClc x) = announcerAddress s := rfl
  by_cases h : s.clc.announcer = .present
  · simp only [unitIssue, State.setClc_clc, hx, h, if_true, ha]
    cases announcerAddress s <;> rfl
  · simp only [unitIssue, State.setClc_clc, hx, h, if_false]

theorem alarmCleared_clc (s : State) : (alarmCleared s).clc = { s.clc with sched := listLeft s } := by
  simp [alarmCleared, returnToNormal, markIdle, clearedAlarm, clearLatches, houseAlarmReset, forceClear_eq]

/-- The channel in EVACUATION at ALARM RESET: STOP to the unit, IDLE, and the choice (R163). -/
theorem resetAlarm_sameChannel_evacuation {s : State} {z : Nat} (hc : s.tbs.commit.current ≠ .pending)
    (hz : s.asc.zone = some z) (h : s.clc.channel = .evacuation) (v : State)
    (hv : v = (post .alarmReset z none (post .phaseForced s.phc.act (some 5) s)).setAsc (alarmCleared s).asc) :
    SameChannel (resetAlarm s) (select ((unitIssue (.stopPlay false) v).setClc { s.clc with
      sched := listLeft s
      evacZones := 0
      cut := none
      cutTaken := false
      channel := .idle })) := by
  have seen := alarmCleared_sameChannel hz _ rfl
  rw [← hv] at seen
  have hchannel : (alarmCleared s).clc.channel = .evacuation := by rw [alarmCleared_clc, ← h]
  rw [resetAlarm_eq hc, channelAlarmReset_evacuation hchannel, alarmCleared_clc]
  have stopped := seen.unitIssue (.stopPlay false)
  rw [unitIssue_setClc _ _ _ (by simp [hv])] at stopped
  exact (stopped.setClc _).select

/-- A page at ALARM RESET goes on, with nothing owed to it (R163). -/
theorem resetAlarm_sameChannel_paging {s : State} {z : Nat} (hc : s.tbs.commit.current ≠ .pending)
    (hz : s.asc.zone = some z) (h : s.clc.channel = .paging) (v : State)
    (hv : v = (post .alarmReset z none (post .phaseForced s.phc.act (some 5) s)).setAsc (alarmCleared s).asc) :
    SameChannel (resetAlarm s)
      (v.setClc { s.clc with sched := listLeft s, evacZones := 0, evacOwed := false }) := by
  have seen := alarmCleared_sameChannel hz _ rfl
  rw [← hv] at seen
  have hchannel : (alarmCleared s).clc.channel = .paging := by rw [alarmCleared_clc, ← h]
  rw [resetAlarm_eq hc, channelAlarmReset_paging hchannel, select_of_not_idle (by simp [hchannel]), alarmCleared_clc]
  exact seen.setClc _

/-- ALARM RESET keeps what neither it nor the channel's choice changes. -/
theorem resetAlarm_sameCore {s : State} (hc : s.tbs.commit.current ≠ .pending) :
    SameCore (alarmCleared s) (resetAlarm s) ∧ (resetAlarm s).ctc = (alarmCleared s).ctc := by
  rw [resetAlarm_eq hc]
  have hk := keptByCalls_sameCore (alarmCleared s)
  exact select_kept hk _ (channelAlarmReset_kept hk _ ⟨.refl _, rfl⟩)

/-- ALARM FALSE keeps what neither it nor the channel's choice changes. -/
theorem declareFalse_sameCore {s : State} (hc : s.tbs.commit.current ≠ .pending) :
    SameCore (falseDeclared s) (declareFalse s) ∧ (declareFalse s).ctc = (falseDeclared s).ctc := by
  rw [declareFalse_eq hc]
  exact select_kept (keptByCalls_sameCore _) _ ⟨.refl _, rfl⟩

/-! ### The statement -/

/-- Settles O27: each command by its checks, and what ALARM FALSE and ALARM RESET leave, block by block. -/
theorem alarmCommandsAckDismissAndReset : Obligations.AlarmCommandsAckDismissAndReset := by
  refine ⟨fun s hs => ⟨fun z hi hstep hz => next_takeCommand hs (alarmAckCmd_awaiting hi hstep hz),
    fun hi hstep => next_takeCommand hs (alarmAckCmd_refused (by simp [hstep])),
    fun h => next_takeCommand hs (alarmAckCmd_refused (by rcases h with h | h <;> simp [h]))⟩,
    fun s hs hk => ⟨fun h => next_takeCommand_keyOn hs hk (alarmFalseCmd_refused (.inl h)),
      fun h => next_takeCommand_keyOn hs hk (alarmResetCmd_refused (.inl h)),
      fun _ h => next_takeCommand_keyOn hs hk (alarmResetCmd_refused (.inr ((anyFire_iff s).mpr h))),
      fun z r _ hz hr hf => next_takeCommand_keyOn hs hk
        (alarmFalseCmd_refused (.inr ((originFires_iff s).mpr ⟨z, r, hz, hr, hf⟩))),
      fun z hi hz hc hcalm => ?_, fun z he hz hc hcalm => ?_⟩⟩
  case refine_1 =>
    have quiet : originFires s = false := by
      rw [← Bool.not_eq_true, originFires_iff]
      rintro ⟨z', r, hz', hr, hf⟩
      obtain rfl : z = z' := by simpa [hz] using hz'
      exact hcalm r hr hf
    obtain ⟨core, hctc⟩ := declareFalse_sameCore hc
    have same := (falseDeclared_sameChannel hz _ core.asc).select
    rw [← declareFalse_eq hc] at same
    refine ⟨declareFalse s, _, next_takeCommand_keyOn hs hk (alarmFalseCmd_taken hi quiet), ?_, rfl,
      same.clc, same.lpc, same.evq, same.cmi, ?_⟩
    · rw [core.asc]
      simp [falseDeclared, returnToNormal, markIdle, removeDetection, setQueue, clearLatches]
    · rw [core.zmn, core.srx, core.fbl, core.phc, core.hlu, hctc, core.tbs, core.crg, core.time]
      simp [falseDeclared, returnToNormal, markIdle, removeDetection, setQueue, clearLatches]
  case refine_2 =>
    have quiet : anyFire s = false := by
      rw [← Bool.not_eq_true, anyFire_iff]
      rintro ⟨r, hr, hf⟩
      exact hcalm r hr hf
    obtain ⟨core, hctc⟩ := resetAlarm_sameCore hc
    have evacuation := fun h => resetAlarm_sameChannel_evacuation hc hz h _ (by rw [← core.asc])
    have paging := fun h => resetAlarm_sameChannel_paging hc hz h _ (by rw [← core.asc])
    refine ⟨resetAlarm s, _, if s.clc.channel = .evacuation then _ else _,
      next_takeCommand_keyOn hs hk (alarmResetCmd_taken he quiet), ?_, rfl, fun h => if_pos h,
      fun h => if_neg (by simp [h]), ?_, ?_⟩
    · rw [core.asc]
      simp [alarmCleared, returnToNormal, markIdle, clearedAlarm, clearLatches, houseAlarmReset, forceClear_eq]
    · rintro (h | h)
      · rw [if_pos h]
        exact ⟨(evacuation h).clc, (evacuation h).lpc, (evacuation h).evq, (evacuation h).cmi⟩
      · rw [if_neg (by simp [h])]
        exact ⟨(paging h).clc, (paging h).lpc, (paging h).evq, (paging h).cmi⟩
    · rw [core.phc, core.hlu, core.zmn, core.srx, core.fbl, hctc, core.tbs, core.crg, core.time]
      simp [alarmCleared, returnToNormal, markIdle, clearedAlarm, clearLatches, houseAlarmReset, forceClear_eq]

end Sys2Proof.Machine
end

section
/-! The closing of windows (R93 to R95): which properties the taking of the fires keeps, that every window is closed when
all are, and that nothing happens when none is open. -/

namespace Sys2Proof.Machine

/-! ### What the closing of windows and the taking of their fires keep -/

variable {P : State → Prop}

/-- `P` is kept by what a change of stage does outside ZMN, and by a close of one window in ZMN's records (R93, R114). -/
structure KeptByCloses (P : State → Prop) : Prop extends KeptByCurtains P, KeptByCalls P, KeptBySignal P where
  asc : ∀ {s x}, P s → P (s.setAsc x)
  close : ∀ {z s}, P s → P (closeBegin z s).state

theorem closeWhole_keptByCloses (h : KeptByCloses P) (z : Nat) (s : State) (hs : P s) : P (closeWhole z s).1 := by
  simp only [closeWhole]
  split
  · exact closeReport_kept h.toKeptByLinks _ _ _ (h.close hs)
  · exact h.close hs

theorem windowsTold_keptByCloses (h : KeptByCloses P) (leaving : Bool) (s : State) (hs : P s) :
    P (windowsTold leaving s).1 := by
  simp only [windowsTold]
  split
  · exact foldl_pair_kept _ _ (fun _ _ hx => closeWhole_keptByCloses h _ _ hx) hs
  · exact hs

theorem enterInvestigate_keptByCloses (h : KeptByCloses P) (s : State) (hs : P s) : P (enterInvestigate s).1 :=
  curtainsInvestigate_kept h.toKeptByCurtains _ (windowsTold_keptByCloses h _ _ (streamTold_kept h.toKeptBySignal _ _
    (staffAlert_kept h.toKeptByCalls _ (h.toKeptByLinks.posted (h.asc hs)))))

theorem enterEvacuate_keptByCloses (h : KeptByCloses P) (general : Bool) (cause : Nat) (fireGroup : Option Nat)
    (s : State) (hs : P s) : P (enterEvacuate general cause fireGroup s).1 :=
  groupsTold_kept h.toKeptByCalls _ _ (seizeChannel_kept h.toKeptByCalls _
    (curtainsEvacuate_kept h.toKeptByCurtains _ (windowsTold_keptByCloses h _ _
      (streamTold_kept h.toKeptBySignal _ _ (houseEvacuate_kept h.toKeptByOutput _
        (foldl_kept _ (fun _ _ hx => postStarted_kept h.toKeptByLinks _ _ hx) _ (h.toKeptByLinks.posted (h.asc hs))))))))

theorem startGroup_keptByCloses (h : KeptByCloses P) (g : Nat) (cause : StartCause) (s : State) (hs : P s) :
    P (startGroup g cause s) := by
  unfold startGroup
  split
  · exact evacuateGroup_kept h.toKeptByCalls _ _ (postStarted_kept h.toKeptByLinks _ _ (h.asc hs))
  all_goals exact hs

theorem fireUnderAlarm_keptByCloses (h : KeptByCloses P) (f : Fire) (s : State) (hs : P s) :
    P (fireUnderAlarm f s) := by
  unfold fireUnderAlarm
  split
  · exact enterEvacuate_keptByCloses h _ _ _ _ hs
  · unfold fireInEvacuate
    split
    · exact startGroup_keptByCloses h _ _ _ hs
    · exact startGroup_keptByCloses h _ _ _ hs
    · split
      · exact hs
      · exact foldl_kept _ (fun _ _ hx => startGroup_keptByCloses h _ _ _ hx) _ (h.toKeptByLinks.posted (h.asc hs))
  · exact hs

theorem takeFire_keptByCloses (h : KeptByCloses P) (f : Fire) (s : State) (hs : P s) : P (takeFire f s) := by
  have first : P (fireInNormal f s).1 := by
    unfold fireInNormal
    split
    · exact enterInvestigate_keptByCloses h _ (h.asc hs)
    all_goals exact enterEvacuate_keptByCloses h _ _ _ _ (h.asc hs)
  unfold takeFire
  split
  · exact foldl_kept _ (fun _ _ hx => fireUnderAlarm_keptByCloses h _ _ hx) _ first
  all_goals exact fireUnderAlarm_keptByCloses h _ _ hs

/-- The fire and the report of a close keep what its first steps left (R93). -/
theorem closeWindow_keptByCloses (h : KeptByCloses P) (z : Nat) (s : State) (hs : P (closeBegin z s).state)
    (hnone : (closeBegin z s).charge = none → P s) : P (closeWindow z s) := by
  unfold closeWindow
  dsimp only
  split
  · refine closeReport_kept h.toKeptByLinks _ _ _ ?_
    unfold takeFire?
    split
    · exact takeFire_keptByCloses h _ _ hs
    · exact hs
  · exact hnone ‹_›

/-! ### Steps 1 to 3 of a close -/

theorem findZone_number {s : State} {z : Nat} {r : Zone} (h : findZone s z = some r) : r.number = z := by
  simpa using List.find?_some h

/-- Where each number stands once, a record is the one of its number. -/
theorem findZone_of_mem {s : State} {r : Zone} (h : (zoneNumbers s).Nodup) (hr : r ∈ s.zmn.zones) :
    findZone s r.number = some r := by
  obtain ⟨x, hx⟩ : ∃ x, findZone s r.number = some x :=
    Option.isSome_iff_exists.mp (List.find?_isSome.mpr ⟨r, hr, by simp⟩)
  rw [hx, List.inj_on_of_nodup_map h (List.mem_of_find?_eq_some hx) hr (findZone_number hx)]

/-- The record of zone `z` after its window is removed (R93). -/
def Zone.shut (z : Nat) (r : Zone) : Zone := if r.number = z then { r with window := none, deferred := false } else r

/-- The record of zone `z` after its latch is set (R79). -/
def Zone.latched (z : Nat) (r : Zone) : Zone := if r.number = z then { r with latch := true } else r

theorem Zone.shut_number (z : Nat) (r : Zone) : (r.shut z).number = r.number := by unfold Zone.shut; split <;> rfl
theorem Zone.latched_number (z : Nat) (r : Zone) : (r.latched z).number = r.number := by
  unfold Zone.latched; split <;> rfl
theorem Zone.latched_window (z : Nat) (r : Zone) : (r.latched z).window = r.window := by
  unfold Zone.latched; split <;> rfl
theorem Zone.shut_window (z : Nat) (r : Zone) : (r.shut z).window = if r.number = z then none else r.window := by
  unfold Zone.shut; split <;> rfl

/-- What steps 1 to 3 of a close find: no window, and nothing changes; or one, which is removed from the record of the
zone, with the latch set or not (R93). -/
theorem closeBegin_cases (z : Nat) (s : State) :
    ((∀ r, findZone s z = some r → r.window = none) ∧ closeBegin z s = ⟨s, none, none⟩) ∨
    ((closeBegin z s).charge.isSome = true ∧ (closeBegin z s).state.tbs = s.tbs ∧
      ((closeBegin z s).state.zmn.zones = s.zmn.zones.map (Zone.shut z) ∨
        (closeBegin z s).state.zmn.zones = s.zmn.zones.map fun r => (r.shut z).latched z)) := by
  unfold closeBegin
  split
  · exact .inl ⟨by simp [*], rfl⟩
  · next r hr =>
    split
    · next hw => exact .inl ⟨by simp [hr, hw], rfl⟩
    · refine .inr ?_
      dsimp only
      split
      · refine ⟨rfl, by simp [latchZone, modZone, chargeZone], .inr ?_⟩
        rw [latchZone, post_zmn, findZone_number hr]
        exact List.map_map
      · exact ⟨rfl, rfl, .inl rfl⟩

/-! ### Every window is closed -/

/-- The tables are `b`, the zones' numbers are `ns`, and no window stands on a zone of `zs`. -/
def ShutZones (b : TableStore) (ns zs : List Nat) (s : State) : Prop :=
  s.tbs = b ∧ zoneNumbers s = ns ∧ ∀ r ∈ s.zmn.zones, r.number ∈ zs → r.window = none

section
variable {b : TableStore} {ns zs : List Nat}

theorem shutZones_congr {s t : State} (h : ShutZones b ns zs s) (htbs : t.tbs = s.tbs)
    (hzones : t.zmn.zones = s.zmn.zones) : ShutZones b ns zs t := by
  obtain ⟨h1, h2, h3⟩ := h
  exact ⟨htbs.trans h1, by rw [← h2, zoneNumbers, zoneNumbers, hzones], by rw [hzones]; exact h3⟩

/-- The change of every zone record by a function that keeps the numbers and opens no window on a zone of `zs`. -/
theorem shutZones_map {zs' : List Nat} {s t : State} (h : ShutZones b ns zs s) (htbs : t.tbs = s.tbs) (g : Zone → Zone)
    (hzones : t.zmn.zones = s.zmn.zones.map g) (hnum : ∀ r, (g r).number = r.number)
    (hwin : ∀ r ∈ s.zmn.zones, (r.number ∈ zs → r.window = none) → r.number ∈ zs' → (g r).window = none) :
    ShutZones b ns zs' t := by
  obtain ⟨h1, h2, h3⟩ := h
  refine ⟨htbs.trans h1, ?_, ?_⟩
  · rw [← h2, zoneNumbers, hzones, List.map_map]
    exact List.map_congr_left fun r _ => hnum r
  · rw [hzones]
    intro x hx hmem
    obtain ⟨r, hr, rfl⟩ := List.mem_map.mp hx
    exact hwin r hr (h3 r hr) (by rwa [hnum] at hmem)

/-- Steps 1 to 3 of a close open no window. -/
theorem closeBegin_shutZones {z : Nat} {s : State} (h : ShutZones b ns zs s) :
    ShutZones b ns zs (closeBegin z s).state := by
  obtain ⟨-, hs⟩ | ⟨-, htbs, hz | hz⟩ := closeBegin_cases z s
  · rw [hs]; exact h
  · refine shutZones_map h htbs _ hz (Zone.shut_number z) fun r _ hr hmem => ?_
    rw [Zone.shut_window]
    split
    · rfl
    · exact hr hmem
  · refine shutZones_map h htbs _ hz (fun r => by rw [Zone.latched_number, Zone.shut_number]) fun r _ hr hmem => ?_
    rw [Zone.latched_window, Zone.shut_window]
    split
    · rfl
    · exact hr hmem

/-- Steps 1 to 3 of a close of zone `z` leave no window on it, when each number stands once. -/
theorem closeBegin_shuts {z : Nat} {s : State} (hns : ns.Nodup) (h : ShutZones b ns zs s) :
    ShutZones b ns (z :: zs) (closeBegin z s).state := by
  obtain ⟨hnone, hs⟩ | ⟨-, htbs, hz | hz⟩ := closeBegin_cases z s
  · rw [hs]
    obtain ⟨h1, h2, h3⟩ := h
    refine ⟨h1, h2, fun r hr hmem => ?_⟩
    rcases List.mem_cons.mp hmem with rfl | hmem
    · exact hnone r (findZone_of_mem (h2 ▸ hns) hr)
    · exact h3 r hr hmem
  · refine shutZones_map h htbs _ hz (Zone.shut_number z) fun r _ hr hmem => ?_
    rw [Zone.shut_window]
    split
    · rfl
    · exact hr (List.mem_of_ne_of_mem ‹_› hmem)
  · refine shutZones_map h htbs _ hz (fun r => by rw [Zone.latched_number, Zone.shut_number]) fun r _ hr hmem => ?_
    rw [Zone.latched_window, Zone.shut_window]
    split
    · rfl
    · exact hr (List.mem_of_ne_of_mem ‹_› hmem)

/-- The taking of fires opens no window and leaves the tables. -/
theorem keptByCloses_shutZones : KeptByCloses (ShutZones b ns zs) where
  posted h := shutZones_congr h (by simp) (by simp)
  lpc h := h
  ctc h := h
  clc _ h := h
  place h := shutZones_congr h (sameCore_placeCall _ _).1.tbs (by rw [(sameCore_placeCall _ _).1.zmn])
  hlu h := h
  fbl h := h
  srx h := h
  crg h := h
  asc h := h
  close h := closeBegin_shutZones h

theorem closeWindow_shuts {z : Nat} {s : State} (hns : ns.Nodup) (h : ShutZones b ns zs s) :
    ShutZones b ns (z :: zs) (closeWindow z s) := by
  have begun := closeBegin_shuts (z := z) hns h
  refine closeWindow_keptByCloses keptByCloses_shutZones z s begun fun hcharge => ?_
  obtain ⟨-, hs⟩ | ⟨hsome, -⟩ := closeBegin_cases z s
  · rwa [hs] at begun
  · simp [hcharge] at hsome

theorem foldl_closeWindow_shuts (hns : ns.Nodup) (l : List Nat) {s : State} (h : ShutZones b ns zs s) :
    ShutZones b ns (l.reverse ++ zs) (l.foldl (fun s z => closeWindow z s) s) := by
  induction l generalizing zs s with
  | nil => exact h
  | cons z l ih => simpa using ih (closeWindow_shuts (z := z) hns h)
end

/-- After all windows are closed none stands, when each zone number stands once; the tables are as they were (R95). -/
theorem closeAllWindows_shuts {s : State} (h : (zoneNumbers s).Nodup) :
    ShutZones s.tbs (zoneNumbers s) (zoneNumbers s) (closeAllWindows s) := by
  obtain ⟨h1, h2, h3⟩ := foldl_closeWindow_shuts (zs := []) h (zoneNumbers s) (s := s) ⟨rfl, rfl, by simp⟩
  exact ⟨h1, h2, fun r hr hmem => h3 r hr (by simpa using hmem)⟩

/-- No window stands on any zone. -/
theorem ShutZones.all_shut {b : TableStore} {ns : List Nat} {s : State} (h : ShutZones b ns ns s) :
    ∀ r ∈ s.zmn.zones, r.window = none := by
  obtain ⟨-, hns, hwin⟩ := h
  exact fun r hr => hwin r hr (hns ▸ List.mem_map_of_mem hr)

/-! ### No window is open -/

theorem closeWindow_of_no_window {s : State} (h : ∀ r ∈ s.zmn.zones, r.window = none) (z : Nat) :
    closeWindow z s = s := by
  have hnone : closeBegin z s = ⟨s, none, none⟩ := by
    unfold closeBegin
    split
    · rfl
    · next r hr => rw [h r (List.mem_of_find?_eq_some hr)]
  rw [closeWindow, hnone]

theorem closeAllWindows_of_no_window {s : State} (h : ∀ r ∈ s.zmn.zones, r.window = none) : closeAllWindows s = s :=
  List.foldl_fixed' (closeWindow_of_no_window h) _

end Sys2Proof.Machine
end

section
/-! What a transition does to the other blocks (R4 to R12, R45, R155). -/

namespace Sys2Proof.Machine

/-! ### The exit (R12) -/

/-- The part after the exit effects, when no window is open on leaving ACT: the list of an interval is emptied (R12). -/
def exited (x : ShowRecord) (s : State) : State := (s.setPhc x).setClc { s.clc with sched := listLeft s }

theorem exitPhase_eq {s : State} (x : ShowRecord)
    (h : s.phc.phase = .act → ∀ r ∈ s.zmn.zones, r.window = none) :
    exitPhase s.phc.phase (s.setPhc x) = exited x s := by
  unfold exited listLeft
  cases hp : s.phc.phase with
  | act => exact closeAllWindows_of_no_window (s := s.setPhc x) (h hp)
  | interval => rfl
  | dark => rfl
  | preshow => rfl
  | houseOpen => rfl
  | houseClear => rfl

/-! ### The entry (R5, R6, R11, R45) -/

/-- A demonstration that is not running is only set to NOT DONE at the entry to PRESHOW (R5). -/
theorem curtainsPreshow_of_not_running {s : State} (h : s.ctc.demo.running = false) :
    curtainsPreshow s = setDemo { s.ctc.demo with state := .notDone, failure := none } s := by
  unfold curtainsPreshow
  cases demoCurtain s <;> simp [h]

theorem curtainsPreshow_demo (s : State) :
    (curtainsPreshow s).ctc.demo.state = .notDone ∧ (curtainsPreshow s).ctc.demo.failure = none := by
  unfold curtainsPreshow
  exact ⟨rfl, rfl⟩

theorem not_running_iff (d : Demo) : d.running = false ↔ d.state ∉ [DemoState.lowering, .dwell, .raising] := by
  unfold Demo.running
  cases d.state <;> decide

theorem curtainsPreshow_sameCore (s : State) : SameCore s (curtainsPreshow s) :=
  (curtainsPreshow_kept (keptByCurtains_sameCore s) s ⟨.refl s, rfl⟩).1

/-- A build of a frame that is being sent changes only HLU's and FBL's records (R33, R45). -/
theorem rebuildIfSending_output (s : State) : ∃ hlu fbl, rebuildIfSending s = (s.setHlu hlu).setFbl fbl := by
  unfold rebuildIfSending
  split
  · exact ⟨_, _, rfl⟩
  · exact ⟨s.hlu, s.fbl, rfl⟩

theorem rebuildIfSending_cases (s : State) :
    (¬ (sendingLevel s = true ∧ s.fbl.running = true) ∧ rebuildIfSending s = s) ∨
    (sendingLevel s = true ∧ s.fbl.running = true ∧ rebuildIfSending s = buildAndSend true s) := by
  unfold rebuildIfSending
  cases sendingLevel s <;> cases s.fbl.running <;> simp

section
variable (q : Phase) (s : State)

theorem enterPhase_preshow : enterPhase .preshow s = curtainsPreshow (budgetsPreshow s) := rfl
theorem enterPhase_houseOpen : enterPhase .houseOpen s = rebuildIfSending s := rfl

/-- What no entry changes. -/
theorem enterPhase_rest : (enterPhase q s).asc = s.asc ∧ (enterPhase q s).tbs = s.tbs ∧
    (enterPhase q s).crg = s.crg ∧ (enterPhase q s).time = s.time ∧ (enterPhase q s).zmn.zones = s.zmn.zones := by
  cases q with
  | preshow =>
    have core := curtainsPreshow_sameCore (budgetsPreshow s)
    rw [enterPhase_preshow, core.asc, core.tbs, core.crg, core.time, core.zmn]
    exact ⟨rfl, rfl, rfl, rfl, rfl⟩
  | houseOpen =>
    obtain ⟨hlu, fbl, h⟩ := rebuildIfSending_output s
    rw [enterPhase_houseOpen, h]
    exact ⟨rfl, rfl, rfl, rfl, rfl⟩
  | _ => exact ⟨rfl, rfl, rfl, rfl, rfl⟩

theorem enterPhase_used :
    (enterPhase q s).zmn.used = if q = .preshow then List.replicate 64 0 else s.zmn.used := by
  cases q with
  | preshow => exact congrArg Zones.used (curtainsPreshow_sameCore (budgetsPreshow s)).zmn
  | houseOpen =>
    obtain ⟨hlu, fbl, h⟩ := rebuildIfSending_output s
    rw [enterPhase_houseOpen, h]
    rfl
  | _ => rfl

theorem enterPhase_srx :
    (enterPhase q s).srx = if q = .dark then { s.srx with idleRef := s.time } else s.srx := by
  cases q with
  | preshow => exact (curtainsPreshow_sameCore (budgetsPreshow s)).srx
  | houseOpen =>
    obtain ⟨hlu, fbl, h⟩ := rebuildIfSending_output s
    rw [enterPhase_houseOpen, h]
    rfl
  | _ => rfl

theorem enterPhase_ctc (h : q ≠ .preshow) : (enterPhase q s).ctc = s.ctc := by
  cases q with
  | preshow => exact absurd rfl h
  | houseOpen =>
    obtain ⟨hlu, fbl, h⟩ := rebuildIfSending_output s
    rw [enterPhase_houseOpen, h]
    rfl
  | _ => rfl

/-- The house and the output change only at HOUSE OPEN, while FBL runs and a level frame is being sent (R45). -/
theorem enterPhase_output (h : q ≠ .houseOpen ∨ sendingLevel s = false ∨ s.fbl.running = false) :
    (enterPhase q s).fbl = s.fbl ∧ (enterPhase q s).hlu = s.hlu := by
  cases q with
  | preshow =>
    have core := curtainsPreshow_sameCore (budgetsPreshow s)
    exact ⟨core.fbl, core.hlu⟩
  | houseOpen =>
    obtain ⟨-, hr⟩ | ⟨hsend, hrun, -⟩ := rebuildIfSending_cases s
    · simp only [enterPhase, hr, and_self]
    · simp [hsend, hrun] at h
  | _ => exact ⟨rfl, rfl⟩

/-- An entry that ends no running demonstration leaves the channel as it is. -/
theorem enterPhase_sameChannel (h : q = .preshow → s.ctc.demo.running = false) :
    SameChannel (enterPhase q s) s := by
  cases q with
  | preshow =>
    rw [enterPhase_preshow, curtainsPreshow_of_not_running (s := budgetsPreshow s) (h rfl)]
    exact ⟨rfl, rfl, rfl, rfl, rfl, rfl, rfl⟩
  | houseOpen =>
    obtain ⟨hlu, fbl, h⟩ := rebuildIfSending_output s
    rw [enterPhase_houseOpen, h]
    exact ⟨rfl, rfl, rfl, rfl, rfl, rfl, rfl⟩
  | _ => exact ⟨rfl, rfl, rfl, rfl, rfl, rfl, rfl⟩
end

/-! ### The transition with no window open -/

section
variable {q : Phase} {minutes : Option Nat} {s : State}

theorem entered_eq (hc : s.tbs.commit.current ≠ .pending)
    (h : s.phc.phase = .act → ∀ r ∈ s.zmn.zones, r.window = none) :
    entered q minutes s = fillPhase q (enterPhase q (exited (enteredRecord s q minutes) s)) := by
  rw [entered, exitPhase_eq _ h, reexamine_of_not_pending]
  rw [(enterPhase_rest q _).2.1]
  exact hc

/-- What the fill and the events of an entry leave (R4, R155). -/
theorem transition_sameCore (hc : s.tbs.commit.current ≠ .pending)
    (h : s.phc.phase = .act → ∀ r ∈ s.zmn.zones, r.window = none) :
    SameCore (enterPhase q (exited (enteredRecord s q minutes) s)) (transition q minutes s) ∧
      (transition q minutes s).ctc = (enterPhase q (exited (enteredRecord s q minutes) s)).ctc := by
  have hk := keptByCalls_sameCore (enterPhase q (exited (enteredRecord s q minutes) s))
  refine transition_kept_of_entered (P := fun t => SameCore _ t ∧ t.ctc = _) hk.posted ?_
  rw [entered_eq hc h]
  exact fillPhase_kept hk _ _ ⟨.refl _, rfl⟩

/-- The events of an entry, posted to a part (R4, R8). -/
def entryEvents (q : Phase) (act : Nat) (missed : Bool) (s : State) : State :=
  (if missed then post .demonstrationMissed 1 none else id) (post .phaseEntered act (some q.code) s)

theorem transition_eq_entryEvents : transition q minutes s =
    entryEvents q (enteredRecord s q minutes).act (missed s q) (entered q minutes s) := by
  rw [transition_eq, entryEvents]
  cases missed s q <;> rfl

theorem SameChannel.entryEvents {t u : State} (h : SameChannel t u) (act : Nat) (missed : Bool) :
    SameChannel (entryEvents q act missed t) (entryEvents q act missed u) := by
  cases missed with
  | false => exact h.post _ _ _
  | true => exact (h.post _ _ _).post _ _ _

theorem SameEvents.entryEvents {t u : State} (h : SameEvents t u) (act : Nat) (missed : Bool) :
    SameEvents (entryEvents q act missed t) (entryEvents q act missed u) := by
  cases missed with
  | false => exact h.post _ _ _
  | true => exact (h.post _ _ _).post _ _ _

theorem entryEvents_clc (act : Nat) (missed : Bool) : (entryEvents q act missed s).clc = s.clc := by
  cases missed <;> simp [entryEvents]

theorem entryEvents_lpc (act : Nat) (missed : Bool) : (entryEvents q act missed s).lpc = s.lpc := by
  cases missed <;> simp [entryEvents]

/-- A transition but to INTERVAL, with no demonstration running: the list that is left, and the entry's events. -/
theorem transition_sameChannel (hc : s.tbs.commit.current ≠ .pending)
    (h : s.phc.phase = .act → ∀ r ∈ s.zmn.zones, r.window = none) (hq : q ≠ .interval)
    (hd : s.ctc.demo.running = false) : SameChannel (transition q minutes s)
      (entryEvents q (enteredRecord s q minutes).act (missed s q) (exited (enteredRecord s q minutes) s)) := by
  rw [transition_eq_entryEvents, entered_eq hc h, fillPhase, if_neg hq]
  exact (enterPhase_sameChannel q (exited (enteredRecord s q minutes) s) fun _ => hd).entryEvents _ _

/-- A transition to INTERVAL fills the list, and then posts PHASE ENTERED. -/
theorem transition_interval (hc : s.tbs.commit.current ≠ .pending)
    (h : s.phc.phase = .act → ∀ r ∈ s.zmn.zones, r.window = none) : transition .interval minutes s =
      post .phaseEntered (enteredRecord s .interval minutes).act (some Phase.interval.code)
        (fillSchedule (exited (enteredRecord s .interval minutes) s)) := by
  rw [transition_eq, entered_eq hc h, fillPhase, if_pos rfl]
  rfl
end

/-! ### The windows at the exit from ACT (R95) -/

/-- After a transition from ACT no window stands, when each zone number stands once. -/
theorem transition_shuts {q : Phase} {minutes : Option Nat} {s : State} (hc : s.tbs.commit.current ≠ .pending)
    (hp : s.phc.phase = .act) (hn : (zoneNumbers s).Nodup) :
    ∀ r ∈ (transition q minutes s).zmn.zones, r.window = none := by
  have hk := keptByCloses_shutZones (b := s.tbs) (ns := zoneNumbers s) (zs := zoneNumbers s)
  refine ShutZones.all_shut (b := s.tbs) (ns := zoneNumbers s) ?_
  refine transition_kept_of_entered (P := ShutZones _ _ _) hk.toKeptByLinks.posted ?_
  have left : ShutZones s.tbs (zoneNumbers s) (zoneNumbers s)
      (exitPhase s.phc.phase (s.setPhc (enteredRecord s q minutes))) := by
    rw [hp]
    exact closeAllWindows_shuts (s := s.setPhc (enteredRecord s q minutes)) hn
  have come : ShutZones s.tbs (zoneNumbers s) (zoneNumbers s)
      (enterPhase q (exitPhase s.phc.phase (s.setPhc (enteredRecord s q minutes)))) := by
    obtain ⟨-, htbs, -, -, hzones⟩ := enterPhase_rest q (exitPhase s.phc.phase (s.setPhc (enteredRecord s q minutes)))
    exact shutZones_congr left htbs hzones
  rw [entered, reexamine_of_not_pending (by rw [come.1]; exact hc)]
  exact fillPhase_kept hk.toKeptByCalls _ _ come

end Sys2Proof.Machine
end

section
/-! The frame that HOUSE OPEN cuts (R45), the fill of the scheduled-call list (R155), and the statement on phase changes. -/

namespace Sys2Proof.Machine

/-! ### The frame at HOUSE OPEN (R45) -/

/-- HOUSE OPEN while FBL runs and a level frame is being sent: the frame is cut, and a frame built in the new phase
begins (R32, R45). -/
theorem enterPhase_houseOpen_cut {s : State} (hsend : sendingLevel s = true) (hrun : s.fbl.running = true) :
    (enterPhase .houseOpen s).fbl = { s.fbl with
      expiry := some (s.time + 25)
      lastOther := false
      frame := if frameSlots s = 0 then none else some ⟨false, s.time, buildLevels s, true⟩ } ∧
    (enterPhase .houseOpen s).hlu = { s.hlu with
      circuits := s.hlu.circuits.map fun c =>
        if housed s.tbs.active.slot c.number then { c with lastSent := circuitLevel s c s.time } else c } := by
  obtain ⟨hno, -⟩ | ⟨-, -, h⟩ := rebuildIfSending_cases s
  · exact absurd ⟨hsend, hrun⟩ hno
  · rw [enterPhase_houseOpen, h]
    exact ⟨rfl, rfl⟩

/-- The level of a circuit without an override is at least its walk floor in an audience phase (R45). -/
theorem floor_le_circuitLevel {s : State} (ha : s.phc.phase.audience = true) {c : Circuit} (ho : c.override = none)
    (t : Nat) : c.floor ≤ circuitLevel s c t := by
  simp only [circuitLevel, ho, limitedLevel, ha, if_true]
  exact Nat.le_max_left _ _

/-- The level that a frame carries in a HOUSE slot (R32, R33). -/
theorem buildLevels_house {s : State} {n c : Nat} {r : Circuit} (h1 : 1 ≤ n) (hn : n ≤ frameSlots s)
    (hmap : slotMapEmpty s.tbs.active.slot = false) (hclass : slotClass s.tbs.active.slot n = .house c)
    (hr : findCircuit s.hlu c = some r) : (buildLevels s)[n - 1]? = some (circuitLevel s r s.time) := by
  have hlt : n - 1 < frameSlots s := by omega
  have hval : slotValue s n = circuitLevel s r s.time := by simp [slotValue, hclass, hr]
  simp [buildLevels, hmap, hlt, Nat.sub_add_cancel h1, hval]

/-! ### The fill of the scheduled-call list (R155) -/

/-- An entry joins the list after those that are due no later. -/
theorem insertScheduled_eq (e : Scheduled) (l : List Scheduled) : insertScheduled e l =
    l.takeWhile (fun y => decide (y.due ≤ e.due)) ++ e :: l.dropWhile fun y => decide (y.due ≤ e.due) := by
  induction l with
  | nil => rfl
  | cons x l ih =>
    by_cases h : x.due ≤ e.due
    · simp [insertScheduled, h, ih]
    · simp [insertScheduled, h]

theorem insertScheduled_perm (e : Scheduled) (l : List Scheduled) : (insertScheduled e l).Perm (e :: l) := by
  rw [insertScheduled_eq]
  refine List.perm_middle.trans ?_
  rw [List.takeWhile_append_dropWhile]

theorem insertScheduled_pairwise (e : Scheduled) {l : List Scheduled} (h : l.Pairwise fun x y => x.due ≤ y.due) :
    (insertScheduled e l).Pairwise fun x y => x.due ≤ y.due := by
  induction l with
  | nil => simp [insertScheduled]
  | cons x l ih =>
    obtain ⟨hx, hl⟩ := List.pairwise_cons.mp h
    unfold insertScheduled
    split
    · refine List.pairwise_cons.mpr ⟨fun y hy => ?_, ih hl⟩
      rcases List.mem_cons.mp ((insertScheduled_perm e l).mem_iff.mp hy) with rfl | hy
      · assumption
      · exact hx y hy
    · refine List.pairwise_cons.mpr ⟨fun y hy => ?_, h⟩
      rcases List.mem_cons.mp hy with rfl | hy
      · omega
      · have := hx y hy; omega

/-- The entries put in order of their due instants, equal ones in table order (R155). -/
def scheduleOrder (all : List Scheduled) : List Scheduled := all.foldl (fun l e => insertScheduled e l) []

theorem scheduleOrder_eq (all : List Scheduled) : scheduleOrder all =
    all.foldl (fun l x => l.takeWhile (fun y => decide (y.due ≤ x.due)) ++
      x :: l.dropWhile fun y => decide (y.due ≤ x.due)) [] := by
  simp only [scheduleOrder, insertScheduled_eq]

theorem foldl_insertScheduled_perm (all l : List Scheduled) :
    (all.foldl (fun l e => insertScheduled e l) l).Perm (all ++ l) := by
  induction all generalizing l with
  | nil => exact .refl _
  | cons x all ih =>
    refine (ih _).trans (((insertScheduled_perm x l).append_left all).trans ?_)
    exact List.perm_middle

theorem scheduleOrder_perm (all : List Scheduled) : (scheduleOrder all).Perm all := by
  simpa [scheduleOrder] using foldl_insertScheduled_perm all []

theorem scheduleOrder_pairwise (all : List Scheduled) : (scheduleOrder all).Pairwise fun x y => x.due ≤ y.due := by
  have step (l : List Scheduled) (h : l.Pairwise fun x y => x.due ≤ y.due) :
      (all.foldl (fun l e => insertScheduled e l) l).Pairwise fun x y => x.due ≤ y.due := by
    induction all generalizing l with
    | nil => exact h
    | cons x all ih => exact ih _ (insertScheduled_pairwise x h)
  exact step [] .nil

theorem fillSchedule_eq (s : State) : fillSchedule s =
    ((scheduleOrder (scheduleEntries s)).filter fun e => decide (e.due ≤ (s.time : Int))).foldl
      (fun s e => takeScheduled e s)
      (s.setClc { s.clc with
        sched := (scheduleOrder (scheduleEntries s)).filter fun e => !decide (e.due ≤ (s.time : Int)) }) := rfl

/-- Without a schedule entry the list is empty (R155). -/
theorem fillSchedule_empty {s : State} (h : scheduleEntry? s.tbs.active.schedule = none) :
    fillSchedule s = s.setClc { s.clc with sched := [] } := by
  simp [fillSchedule_eq, scheduleEntries, h, scheduleOrder]

/-! Placing calls leaves the list, the time and the tables. -/

theorem select_sched (s : State) : (select s).clc.sched = s.clc.sched := by
  unfold select
  repeat' split
  all_goals simp [startCall, grantPage, unitIssue_clc]

theorem placeCall_sched (c : Call) (s : State) : (placeCall c s).state.clc.sched = s.clc.sched := by
  obtain ⟨q, h⟩ | ⟨q, m, p, h⟩ := placeCall_cases c s <;> simp [h, setQueue]

theorem placeOrDrop_sched (c : Call) (s : State) : (placeOrDrop c s).clc.sched = s.clc.sched := by
  have placed : (placeAndSelect c s).state.clc.sched = s.clc.sched := by
    unfold placeAndSelect
    dsimp only
    split
    · exact (select_sched _).trans (placeCall_sched c s)
    · exact placeCall_sched c s
  unfold placeOrDrop
  split
  · simp
  · dsimp only
    split
    · exact placed
    · rw [post_clc]; exact placed

theorem placeOrDrop_sameCore (c : Call) (s : State) : SameCore s (placeOrDrop c s) :=
  (placeOrDrop_kept (keptByCalls_sameCore s) c s ⟨.refl s, rfl⟩).1

/-- The call of an entry that is due at an instant, under given tables (R151, R155). -/
def scheduledCall (tables : TableStore) (now : Nat) (e : Scheduled) : Call :=
  ⟨e.message, e.zones, e.priority, .schedule, now,
    match findMessage tables.active.message e.message with
    | some m => if m.expiry = 0 then none else some (now + m.expiry * 1000)
    | none => none⟩

theorem takeScheduled_eq (e : Scheduled) (s : State) :
    takeScheduled e s = placeOrDrop (scheduledCall s.tbs s.time e) s := rfl

section
variable {l : List Scheduled} {s t : State}

/-- The entries that are due are taken one after the other at one instant, under the same tables. -/
theorem foldl_takeScheduled : l.foldl (fun s e => takeScheduled e s) s =
    l.foldl (fun u e => placeOrDrop (scheduledCall s.tbs s.time e) u) s := by
  have step (u : State) (hu : SameCore s u) : l.foldl (fun s e => takeScheduled e s) u =
      l.foldl (fun u e => placeOrDrop (scheduledCall s.tbs s.time e) u) u := by
    induction l generalizing u with
    | nil => rfl
    | cons e l ih =>
      rw [List.foldl_cons, List.foldl_cons, takeScheduled_eq, hu.tbs, hu.time]
      exact ih _ (hu.trans (placeOrDrop_sameCore _ _))
  exact step s (.refl s)

theorem foldl_placeOrDrop_sched (f : Scheduled → Call) :
    (l.foldl (fun u e => placeOrDrop (f e) u) s).clc.sched = s.clc.sched := by
  induction l generalizing s with
  | nil => rfl
  | cons e l ih => rw [List.foldl_cons, ih, placeOrDrop_sched]

theorem SameChannel.foldl_placeOrDrop (h : SameChannel s t) (f : Scheduled → Call) :
    SameChannel (l.foldl (fun u e => Machine.placeOrDrop (f e) u) s)
      (l.foldl (fun u e => Machine.placeOrDrop (f e) u) t) := by
  induction l generalizing s t with
  | nil => exact h
  | cons e l ih => exact ih (h.placeOrDrop (f e))
end

/-- The fill, of a part that is the same for the channel as `t`: the entries that are due later are the list, and the
others are placed (R155). -/
theorem fillSchedule_sameChannel {s t : State} (h : SameChannel s t) (l : List Scheduled)
    (hl : l = scheduleOrder (scheduleEntries s)) :
    SameChannel (fillSchedule s)
      ((l.filter fun x => decide (x.due ≤ (t.time : Int))).foldl
        (fun u x => placeOrDrop (scheduledCall t.tbs t.time x) u)
        (t.setClc { t.clc with sched := l.filter fun x => decide ((t.time : Int) < x.due) })) ∧
    (fillSchedule s).clc.sched = l.filter (fun x => decide ((t.time : Int) < x.due)) := by
  have hnot : (fun x : Scheduled => !decide (x.due ≤ (s.time : Int))) = fun x => decide ((t.time : Int) < x.due) := by
    funext x
    rw [h.time, ← decide_not, decide_eq_decide, Int.not_le]
  rw [fillSchedule_eq, ← hl, hnot, foldl_takeScheduled, h.clc, ← h.time, ← h.tbs]
  exact ⟨(h.setClc _).foldl_placeOrDrop _, foldl_placeOrDrop_sched _⟩

/-- The entries that the Schedule Table yields for an interval of the show record in force: the bells and then the
beginners' call, each due at the interval's end less its lead (R155). -/
theorem scheduleEntries_eq {s : State} {e : ScheduleEntry} {finish : Int}
    (he : scheduleEntry? s.tbs.active.schedule = some e)
    (hf : finish = (s.phc.start : Int) + 60000 * (s.phc.interval : Int)) : scheduleEntries s =
      (e.bells.zipIdx.map fun b => ⟨b.2 + 1, b.1.2,
          (match findMessage s.tbs.active.message b.1.2 with | some m => m.zones | none => 0),
          (match findMessage s.tbs.active.message b.1.2 with | some m => m.priority | none => .routine),
          finish - 60000 * (b.1.1 : Int)⟩) ++
        (match e.beginners with
          | some (minutes, m, z) => [⟨5, m, z,
              (match findMessage s.tbs.active.message m with | some m => m.priority | none => .routine),
              finish - 60000 * (minutes : Int)⟩]
          | none => []) := by
  have lead (k : Nat) : ((s.phc.start + s.phc.interval * 60000 : Nat) : Int) - (k * 60000 : Nat) =
      finish - 60000 * (k : Int) := by
    rw [hf]; push_cast; ring
  have zones (o : Option MessageEntry) : (o.map (·.zones)).getD 0 = match o with | some m => m.zones | none => 0 := by
    cases o <;> rfl
  have priority (o : Option MessageEntry) :
      (o.map (·.priority)).getD .routine = match o with | some m => m.priority | none => .routine := by
    cases o <;> rfl
  obtain ⟨l, hl⟩ : ∃ l, scheduleEntries s = l := ⟨_, rfl⟩
  rw [hl]
  simp only [scheduleEntries, he, lead, zones, priority] at hl
  exact hl.symm

/-! ### The statement -/

theorem missed_iff (s : State) (q : Phase) : missed s q = true ↔
    q = .act ∧ s.phc.act = 0 ∧ s.ctc.demo.state ≠ .passed ∧ s.tbs.auth.demoRule = .warn := by
  simp [missed, notPassed, and_assoc]

/-- INTERVAL is entered from ACT alone (R3). -/
theorem allowed_interval {p : Phase} (h : allowed p .interval = true) : p = .act := by
  cases p with
  | act => rfl
  | _ => exact absurd h (by decide)

section
variable {q : Phase} {minutes : Option Nat} {s : State}

/-- A transition but to INTERVAL, with no demonstration running: the calls and the events. -/
theorem transition_calls (hc : s.tbs.commit.current ≠ .pending)
    (h : s.phc.phase = .act → ∀ r ∈ s.zmn.zones, r.window = none) (hq : q ≠ .interval)
    (hd : s.ctc.demo.running = false) :
    (transition q minutes s).clc = { s.clc with sched := listLeft s } ∧ (transition q minutes s).lpc = s.lpc ∧
    (transition q minutes s).evq = (entryEvents q (enteredRecord s q minutes).act (missed s q) s).evq := by
  have same := transition_sameChannel (minutes := minutes) hc h hq hd
  have events := SameEvents.entryEvents (q := q) (t := exited (enteredRecord s q minutes) s) (u := s)
    ⟨rfl, rfl, rfl⟩ (enteredRecord s q minutes).act (missed s q)
  rw [same.clc, same.lpc, same.evq, entryEvents_clc, entryEvents_lpc, events.evq]
  exact ⟨rfl, rfl, rfl⟩

/-- A transition to INTERVAL without a schedule: the empty list (R155). -/
theorem transition_interval_unscheduled (hc : s.tbs.commit.current ≠ .pending)
    (h : s.phc.phase = .act → ∀ r ∈ s.zmn.zones, r.window = none)
    (hnone : scheduleEntry? s.tbs.active.schedule = none) :
    (transition .interval minutes s).clc = { s.clc with sched := [] } ∧
    (transition .interval minutes s).lpc = s.lpc ∧
    (transition .interval minutes s).evq = (post .phaseEntered s.phc.act (some Phase.interval.code) s).evq := by
  have events := SameEvents.post (s := (exited (enteredRecord s .interval minutes) s).setClc
    { s.clc with sched := [] }) (t := s) ⟨rfl, rfl, rfl⟩ .phaseEntered s.phc.act (some Phase.interval.code)
  rw [transition_interval hc h, fillSchedule_empty (s := exited (enteredRecord s .interval minutes) s) hnone, post_clc, post_lpc]
  exact ⟨rfl, rfl, events.evq⟩

/-- A transition to INTERVAL with a schedule: the entries due later are the list, the others are placed, and then PHASE
ENTERED is posted (R155). -/
theorem transition_interval_scheduled (hc : s.tbs.commit.current ≠ .pending) (hp : s.phc.phase = .act)
    (h : s.phc.phase = .act → ∀ r ∈ s.zmn.zones, r.window = none) (l : List Scheduled)
    (hl : l = scheduleOrder (scheduleEntries (exited (enteredRecord s .interval minutes) s))) (w : State)
    (hw : w = (l.filter fun x => decide (x.due ≤ (s.time : Int))).foldl
      (fun u x => placeOrDrop (scheduledCall s.tbs s.time x) u)
      (s.setClc { s.clc with sched := l.filter fun x => decide ((s.time : Int) < x.due) })) :
    (transition .interval minutes s).clc.sched = l.filter (fun x => decide ((s.time : Int) < x.due)) ∧
    (transition .interval minutes s).clc = w.clc ∧ (transition .interval minutes s).lpc = w.lpc ∧
    (transition .interval minutes s).evq = (post .phaseEntered s.phc.act (some Phase.interval.code) w).evq := by
  have left : SameChannel (exited (enteredRecord s .interval minutes) s) s := by
    have hlist : listLeft s = s.clc.sched := by simp [listLeft, hp]
    refine ⟨?_, rfl, rfl, rfl, rfl, rfl, rfl⟩
    rw [exited, hlist]
    rfl
  obtain ⟨same, hsched⟩ := fillSchedule_sameChannel left l hl
  rw [← hw] at same
  have posted := same.post .phaseEntered s.phc.act (some Phase.interval.code)
  rw [transition_interval hc h]
  refine ⟨(congrArg Calls.sched (post_clc ..)).trans hsched, posted.clc.trans (post_clc ..),
    posted.lpc.trans (post_lpc ..), posted.evq⟩
end

/-- Settles O11: what the transition's exit, entry, fill and events do, block by block. -/
theorem phaseChangesReachTheHouse : Obligations.PhaseChangesReachTheHouse := by
  intro code minutes q act s hs hn hq hmove hact hc rfl
  have hallowed := (allowed_iff _ _).mpr hmove
  have taken := exec_setPhase (code := code) hs (setPhaseAt_taken (minutes := givenMinutes minutes) hq hn hallowed
    fun h => actRefused_eq_false (hact h).1 (hact h).2)
  refine ⟨_, _, _, taken, fun hp hnodup => transition_shuts hc hp hnodup, fun hquiet => ?_⟩
  have phc := transition_phc q (givenMinutes minutes) s
  obtain ⟨core, hctc⟩ := transition_sameCore (q := q) (minutes := givenMinutes minutes) hc hquiet
  obtain ⟨hasc, htbs, hcrg, htime, hzones⟩ := enterPhase_rest q (exited (enteredRecord s q (givenMinutes minutes)) s)
  rw [core.asc, core.tbs, core.crg, core.time, core.zmn, core.srx, core.fbl, core.hlu, hctc, phc, hasc, htbs, hcrg,
    htime, hzones, enterPhase_used, enterPhase_srx]
  refine ⟨rfl, rfl, rfl, rfl, rfl, rfl, rfl, enterPhase_output q (exited (enteredRecord s q (givenMinutes minutes)) s),
    ?_, enterPhase_ctc q _, ?_, ?_, ?_, ?_, ?_⟩
  case refine_1 =>
    rintro rfl hsend hrun
    obtain ⟨hfbl, hhlu⟩ := enterPhase_houseOpen_cut
      (s := exited (enteredRecord s .houseOpen (givenMinutes minutes)) s) hsend hrun
    refine ⟨hfbl, hhlu, fun n c r h1 hn hmap hclass hr ho => ⟨_, buildLevels_house h1 hn hmap hclass hr, ?_⟩⟩
    exact floor_le_circuitLevel rfl ho _
  case refine_2 =>
    rintro rfl
    exact curtainsPreshow_demo _
  case refine_3 =>
    rintro rfl hdemo
    rw [enterPhase_preshow, curtainsPreshow_of_not_running]
    · rfl
    · exact (not_running_iff _).mpr hdemo
  case refine_4 =>
    intro hq hdemo
    obtain ⟨hclc, hlpc, hevq⟩ := transition_calls (minutes := givenMinutes minutes) hc hquiet hq
      ((not_running_iff _).mpr hdemo)
    refine ⟨?_, hlpc, ?_⟩
    · rw [hclc, listLeft]
      split <;> rfl
    · rw [hevq]
      simp only [entryEvents, missed_iff]
      rfl
  case refine_5 =>
    rintro rfl hnone
    exact transition_interval_unscheduled hc hquiet hnone
  case refine_6 =>
    rintro e finish all l w rfl he hfinish hall hl hw
    have entries := scheduleEntries_eq (s := exited (enteredRecord s .interval (givenMinutes minutes)) s) he hfinish
    have order : l = scheduleOrder all := hl.trans (scheduleOrder_eq all).symm
    rw [order]
    refine ⟨scheduleOrder_perm all, scheduleOrder_pairwise all, ?_⟩
    rw [← order]
    exact transition_interval_scheduled hc (allowed_interval hallowed) hquiet l
      (order.trans (congrArg scheduleOrder (hall.trans entries.symm))) w hw

end Sys2Proof.Machine
end

section
/-! The demonstration that ends early (R141, R142): CTC's operations at the one curtain that is demonstrated, and the
statement. -/

namespace Sys2Proof.Machine

/-! ### CTC's records with one curtain's record replaced -/

/-- CTC's records with the record of `c` replaced by `y`, and the demonstration record `d`. -/
def Curtains.put (k : Curtains) (c y : Curtain) (d : Demo) : Curtains :=
  { curtains := k.curtains.map fun z => if z.number = c.number then y else z, demo := d }

/-- `c` is the curtain with the demonstration flag, and no other has its number or its drive unit. -/
structure SoleCurtain (k : Curtains) (c : Curtain) : Prop where
  demo : k.curtains.find? (·.demoFlag) = some c
  sole : ∀ y ∈ k.curtains, y.number = c.number ∨ y.unit = c.unit → y = c

/-- Replacing the one record that a search finds is replacing the search's answer. -/
theorem find?_map_replace {l : List Curtain} {p : Curtain → Bool} {c y : Curtain} (h : l.find? p = some c)
    (hsole : ∀ z ∈ l, z.number = c.number → z = c) (hy : p y = true) :
    (l.map fun z => if z.number = c.number then y else z).find? p = some y := by
  induction l with
  | nil => simp at h
  | cons z l ih =>
    rw [List.map_cons, List.find?_cons]
    cases hz : p z with
    | true =>
      obtain rfl : z = c := by simpa [List.find?_cons, hz] using h
      simp [hy]
    | false =>
      have hne : z.number ≠ c.number := fun hn => by
        have hp := List.find?_some h
        rw [← hsole z (by simp) hn, hz] at hp
        exact absurd hp (by decide)
      rw [if_neg hne, hz]
      exact ih (by simpa [List.find?_cons, hz] using h) fun x hx => hsole x (List.mem_cons_of_mem _ hx)

section
variable {k : Curtains} {c : Curtain} (h : SoleCurtain k c)
include h

theorem SoleCurtain.mem : c ∈ k.curtains := List.mem_of_find?_eq_some h.demo

theorem SoleCurtain.put_self : k.put c c k.demo = k := by
  have same : k.curtains.map (fun z => if z.number = c.number then c else z) = k.curtains := by
    rw [List.map_congr_left (g := id), List.map_id]
    intro z hz
    split
    · exact (h.sole z hz (.inl ‹_›)).symm
    · rfl
  rw [Curtains.put, same]

/-- A search that finds nothing before the one curtain finds it. -/
theorem SoleCurtain.find?_eq {p : Curtain → Bool} (hp : p c = true)
    (ho : ∀ z, p z = true → z.number = c.number ∨ z.unit = c.unit) : k.curtains.find? p = some c := by
  obtain ⟨z, hz⟩ : ∃ z, k.curtains.find? p = some z :=
    Option.isSome_iff_exists.mp (List.find?_isSome.mpr ⟨c, h.mem, hp⟩)
  rw [hz, h.sole z (List.mem_of_find?_eq_some hz) (ho z (List.find?_some hz))]

variable {y : Curtain} {d : Demo} {t : State}

theorem SoleCurtain.findCurtain_put (hn : y.number = c.number) :
    findCurtain (t.setCtc (k.put c y d)) c.number = some y :=
  find?_map_replace (h.find?_eq (by simp) fun z hz => .inl (by simpa using hz))
    (fun z hz hzn => h.sole z hz (.inl hzn)) (by simp [hn])

theorem SoleCurtain.curtainOfUnit_put (hu : y.unit = c.unit) :
    curtainOfUnit (t.setCtc (k.put c y d)) c.unit = some y :=
  find?_map_replace (h.find?_eq (by simp) fun z hz => .inr (by simpa using hz))
    (fun z hz hzn => h.sole z hz (.inl hzn)) (by simp [hu])

theorem SoleCurtain.demoCurtain_put (hf : y.demoFlag = c.demoFlag) :
    demoCurtain (t.setCtc (k.put c y d)) = some y :=
  find?_map_replace h.demo (fun z hz hzn => h.sole z hz (.inl hzn)) (by rw [hf]; exact List.find?_some h.demo)

theorem SoleCurtain.demoRunsOn_put (hn : y.number = c.number) (hf : y.demoFlag = c.demoFlag) :
    demoRunsOn (t.setCtc (k.put c y d)) c.number = d.running := by
  simp only [demoRunsOn, h.demoCurtain_put hf, Option.any_some, hn, beq_self_eq_true, Bool.and_true]
  rfl

theorem SoleCurtain.withUnit_put (hu : y.unit = c.unit) (f : Curtain → State → State) :
    withUnit c.unit f (t.setCtc (k.put c y d)) = f y (t.setCtc (k.put c y d)) := by
  rw [withUnit, h.curtainOfUnit_put hu]
end

/-! ### CTC's operations on such records -/

@[simp] theorem Curtain.endMotion_number (c : Curtain) : c.endMotion.number = c.number := rfl
@[simp] theorem Curtain.endMotion_demoFlag (c : Curtain) : c.endMotion.demoFlag = c.demoFlag := rfl
@[simp] theorem Curtain.endMotion_holdWaiting (c : Curtain) : c.endMotion.holdWaiting = c.holdWaiting := rfl
@[simp] theorem Curtain.endMotion_ownership (c : Curtain) : c.endMotion.ownership = c.ownership.ended := rfl

section
variable {k : Curtains} {c y : Curtain} {d : Demo} {t : State}

theorem post_setCtc (e : Event) (index : Nat) (arg : Option Nat) (x : Curtains) :
    post e index arg (t.setCtc x) = (post e index arg t).setCtc x := by
  simp only [post, postAt_eq]
  rfl

theorem issue_setCtc (a : Nat) (cmd : LoopCmd) (x : Curtains) :
    issue a cmd (t.setCtc x) = (issue a cmd t).setCtc x := rfl

theorem modCurtain_put (hn : y.number = c.number) (f : Curtain → Curtain) :
    modCurtain c.number f (t.setCtc (k.put c y d)) = t.setCtc (k.put c (f y) d) := by
  simp only [modCurtain, State.setCtc_ctc, State.setCtc_setCtc, Curtains.put, List.map_map]
  refine congrArg t.setCtc (congrArg (Curtains.mk · d) (List.map_congr_left fun z _ => ?_))
  by_cases hz : z.number = c.number
  · simp [hz, hn]
  · simp [hz]

theorem setCurtainState_put (hn : y.number = c.number) (x : CurtainState) :
    setCurtainState c.number x (t.setCtc (k.put c y d)) = t.setCtc (k.put c { y with state := x } d) :=
  modCurtain_put hn _

theorem setDemo_put (d' : Demo) : setDemo d' (t.setCtc (k.put c y d)) = t.setCtc (k.put c y d') := rfl

@[simp] theorem Curtains.put_demo : (k.put c y d).demo = d := rfl

theorem reexamine_setCtc (hc : t.tbs.commit.current ≠ .pending) (x : Curtains) :
    reexamine (t.setCtc x) = t.setCtc x := reexamine_of_not_pending (s := t.setCtc x) hc
end

section
variable {k : Curtains} {c y : Curtain} {d : Demo} {t : State} (h : SoleCurtain k c)
include h

/-- A command issued to the curtain while its release field is not SENT (R123). -/
theorem SoleCurtain.issueDrive_put (hn : y.number = c.number) (hu : y.unit = c.unit) (hr : y.release ≠ .sent)
    (cmd : DriveCmd) : issueDrive c.number cmd (t.setCtc (k.put c y d)) =
      (issue c.unit (.drive cmd) t).setCtc (k.put c { y with outstanding := some cmd } d) := by
  simp only [issueDrive, h.findCurtain_put hn, hr, false_and, if_false, modCurtain_put hn, hu, issue_setCtc]

/-- The end of a segment with no hold waiting (R132). -/
theorem SoleCurtain.segmentEnded_put (hn : y.number = c.number) (hw : y.holdWaiting = false) :
    segmentEnded c.number (t.setCtc (k.put c y d)) = t.setCtc (k.put c y d) := by
  simp [segmentEnded, h.findCurtain_put hn, hw]

/-- A running demonstration fails (R142). -/
theorem SoleCurtain.failDemo_put (hn : y.number = c.number) (hf : y.demoFlag = c.demoFlag) (hd : d.running = true)
    (why : DemoFailure) : failDemo c.number why (t.setCtc (k.put c y d)) =
      (post .demonstrationFailed c.number (some why.code) t).setCtc (k.put c y (d.ended .failed (some why))) := by
  simp only [failDemo, h.demoRunsOn_put hn hf, hd, if_true, setDemo_put, State.setCtc_ctc, Curtains.put_demo,
    post_setCtc]
end

/-! ### A demonstration ends outside a reply (R130, R142, R143) -/

section
variable {k : Curtains} {c : Curtain} {d : Demo} {t : State} (h : SoleCurtain k c)
include h

/-- A stall ends the demonstration's segment as FAULT (R130). -/
theorem SoleCurtain.stallTaken_put (hc : t.tbs.commit.current ≠ .pending) (hd : d.running = true)
    (hr : c.release ≠ .sent) (hw : c.holdWaiting = false) : stallTaken c (t.setCtc (k.put c c d)) =
      (post .demonstrationFailed c.number (some 3) (post .curtainStalled c.number (some c.position)
        (issue c.unit (.drive .stop) t))).setCtc
        (k.put c { c.endMotion with outstanding := some .stop, state := .fault }
          (d.ended .failed (some .stall))) := by
  simp only [stallTaken, h.issueDrive_put, modCurtain_put, post_setCtc, h.failDemo_put, h.segmentEnded_put,
    Curtain.endMotion_number, Curtain.endMotion_demoFlag, Curtain.endMotion_holdWaiting, hr, hd, hw, ne_eq,
    not_false_eq_true]
  rw [reexamine_setCtc (by simpa using hc)]
  rfl

/-- The loss of the drive unit ends the demonstration's segment (R143). -/
theorem SoleCurtain.driveUnitLost_put (hc : t.tbs.commit.current ≠ .pending) (hd : d.running = true)
    (hr : c.release ≠ .sent) (hm : c.motion.isSome = true) : driveUnitLost c.unit (t.setCtc (k.put c c d)) =
      (post .demonstrationFailed c.number (some 5) (issue c.unit (.drive .stop)
        (post .curtainLost c.number (some c.position) t))).setCtc
        (k.put c { c.endMotion with
          state := .unknown, latch := some .lost, outstanding := some .stop, holdWaiting := false }
          (d.ended .failed (some .lost))) := by
  simp only [driveUnitLost, curtainLost, h.curtainOfUnit_put rfl, hm, Bool.true_or, if_true]
  simp only [h.issueDrive_put, modCurtain_put, post_setCtc, h.failDemo_put, Curtain.endMotion_number,
    Curtain.endMotion_demoFlag, hr, hd, ne_eq, not_false_eq_true]
  rw [reexamine_setCtc (by simpa using hc)]
  rfl

/-- The entry to PRESHOW abandons a running demonstration with STOP (R5, R142). -/
theorem SoleCurtain.curtainsPreshow_put (hd : d.running = true) (hr : c.release ≠ .sent)
    (hw : c.holdWaiting = false) : curtainsPreshow (t.setCtc (k.put c c d)) =
      (issue c.unit (.drive .stop) (post .demonstrationAbandoned c.number (some 4) t)).setCtc
        (k.put c { c.endMotion with outstanding := some .stop } (d.ended .notDone none)) := by
  simp only [curtainsPreshow, abandonDemo, h.demoCurtain_put rfl, State.setCtc_ctc, Curtains.put_demo, hd, if_true]
  simp only [setDemo_put, post_setCtc, h.issueDrive_put, modCurtain_put, hr, ne_eq, not_false_eq_true]
  rw [h.segmentEnded_put]
  · rfl
  · rfl
  · exact hw
end

/-! ### A demonstration and the replies of its drive unit (R124) -/

/-- A record after step 1 of a reply (R124). -/
def Curtain.noted (r : DriveReply) (now : Nat) (c : Curtain) : Curtain :=
  { c with
    position := r.position
    motion := c.motion.map fun m => if c.position = r.position then m else { m with progress := now }
    lastHold := r.hold
    lastObstruction := r.obstruction }

/-- A reply that shows no release leaves step 3 (R137). -/
theorem takeRelease_of_not_shows {r : DriveReply} (h : r.shows = false) (c : Curtain) (s : State) :
    takeRelease r c s = s := by
  simp [takeRelease, h]

/-- A reply that shows no hold request, not under PENDANT, leaves step 5 (R131 to R133). -/
theorem takeHold_of_no_hold {r : DriveReply} {c : Curtain} (h : r.hold = false) (ho : c.ownership ≠ .pendant)
    (ack : Option (DriveCmd × Bool)) (s : State) : takeHold r ack c s = s := by
  unfold takeHold
  cases hc : c.ownership with
  | pendant => exact absurd hc ho
  | implicit => simp only [h]
  | explicit => simp only [h]

/-- The state of a curtain at rest that the limits show (R125). -/
def DriveReply.atRest (r : DriveReply) : CurtainState :=
  if r.lower then .lowered else if r.upper then .raised else .stopped

theorem atRest_cases (r : DriveReply) : r.atRest = .lowered ∨ r.atRest = .raised ∨ r.atRest = .stopped := by
  unfold DriveReply.atRest
  cases r.lower <;> cases r.upper <;> simp

/-- Not both limits, and at rest or at the lower limit: the table of R125 gives the state at rest. -/
theorem confirmed_atRest {r : DriveReply} (hb : ¬ (r.upper = true ∧ r.lower = true))
    (h : r.motion = .still ∨ r.lower = true) : r.confirmed = some r.atRest := by
  unfold DriveReply.confirmed DriveReply.atRest
  cases hu : r.upper <;> cases hl : r.lower <;> simp_all

section
variable {k : Curtains} {c y : Curtain} {d : Demo} {t : State} {r : DriveReply} {ack : Option (DriveCmd × Bool)}

/-- A curtain at rest under IMPLICIT, without motion, is confirmed in the state that the limits show (R125). -/
theorem confirmCurtain_put (hn : y.number = c.number) (ho : y.ownership = .implicit) (hm : y.motion = none)
    (hs : y.state ∈ [CurtainState.raised, .lowered, .stopped, .raising, .lowering])
    (hr : r.shows = false ∨ y.release ≠ .none) (hx : r.confirmed = some r.atRest) :
    confirmCurtain r y (t.setCtc (k.put c y d)) = t.setCtc (k.put c { y with state := r.atRest } d) := by
  have hconf : confirmable r y = true := by
    have hrel : (r.shows && y.release == .none) = false := by
      rcases hr with hr | hr <;> simp [hr]
    simp only [List.mem_cons, List.not_mem_nil, or_false] at hs
    rcases hs with hs | hs | hs | hs | hs <;> simp [confirmable, hrel, hs, ho, hm]
  have hknown : y.state ≠ .unknown := by rintro h; simp [h] at hs
  have hun : uncommanded r y r.atRest = false := by
    rcases atRest_cases r with h | h | h <;> simp [uncommanded, h]
  have hfault : r.atRest ≠ .fault := by rcases atRest_cases r with h | h | h <;> simp [h]
  simp only [confirmCurtain, hconf, hx, hun, postConfirmed, hknown, hfault, hn, setCurtainState_put hn, if_true,
    if_false, Bool.false_eq_true]

/-- A curtain at rest under IMPLICIT keeps the state that the limits show (R125). -/
theorem takeState_atRest (hn : y.number = c.number) (ho : y.ownership = .implicit) (hm : y.motion = none)
    (hs : y.state = r.atRest) (hr : r.shows = false ∨ y.release ≠ .none) (hx : r.confirmed = some r.atRest)
    (before : Bool) : takeState r before y (t.setCtc (k.put c y d)) = t.setCtc (k.put c y d) := by
  have hstates : y.state ∈ [CurtainState.raised, .lowered, .stopped, .raising, .lowering] := by
    rw [hs]
    rcases atRest_cases r with h | h | h <;> simp [h]
  have hdesc : y.descending = false ∧ y.state ≠ .unknown := by
    rw [Curtain.descending, hs]
    rcases atRest_cases r with h | h | h <;> simp [h]
  have same : { y with state := r.atRest } = y := by rw [← hs]
  have confirmed := confirmCurtain_put (k := k) (d := d) (t := t) hn ho hm hstates hr hx
  rw [same] at confirmed
  simpa [takeState, hdesc, hm, ho] using confirmed

/-- A curtain in EMERGENCY DESCENT short of the lower limit, with no obstruction shown, stays in it (R136). -/
theorem takeState_emergency (hn : y.number = c.number) (hs : y.state = .emergency) (hl : r.lower = false)
    (ho : r.obstruction = false) (before : Bool) :
    takeState r before y (t.setCtc (k.put c y d)) = t.setCtc (k.put c y d) := by
  have same : { y with state := .emergency } = y := by rw [← hs]
  have hdesc : y.descending = true := by simp [Curtain.descending, hs]
  have set := setCurtainState_put (k := k) (d := d) (t := t) hn .emergency
  rw [same, ← hn] at set
  simpa [takeState, hdesc, descentReply, hl, ho] using set

/-- A curtain just released locally, in EMERGENCY DESCENT or at the lower limit LOWERED, stays so (R136, R137). -/
theorem takeState_released (hn : y.number = c.number) (ho : y.ownership = .implicit) (hm : y.motion = none)
    (hs : y.state = if r.lower then .lowered else .emergency) (hr : y.release ≠ .none)
    (hlimits : (r.lower = false ∧ r.obstruction = false) ∨ (r.lower = true ∧ r.upper = false)) (before : Bool) :
    takeState r before y (t.setCtc (k.put c y d)) = t.setCtc (k.put c y d) := by
  rcases hlimits with ⟨hl, hobs⟩ | ⟨hl, hup⟩
  · exact takeState_emergency hn (by simp [hs, hl]) hl hobs before
  · exact takeState_atRest hn ho hm (by simp [hs, hl, DriveReply.atRest]) (.inr hr)
      (confirmed_atRest (by simp [hup]) (.inr hl)) before

/-- CURTAIN DOWN of a local release at the lower limit (R137). -/
def downPosted (r : DriveReply) (c : Curtain) (s : State) : State :=
  if r.lower then post .curtainDown c.number (some 0) s else s

@[simp] theorem downPosted_tbs (r : DriveReply) (c : Curtain) (s : State) : (downPosted r c s).tbs = s.tbs := by
  rw [downPosted]
  split
  · exact post_tbs ..
  · rfl

/-- What the replies share: a running demonstration, its curtain's segment without a release, no commit pending, and a
reply that does not show the hold request. -/
structure DemoReply (t : State) (c : Curtain) (d : Demo) (r : DriveReply) : Prop where
  commit : t.tbs.commit.current ≠ .pending
  running : d.running = true
  explicit : c.ownership = .explicit
  moves : c.motion.isSome = true
  unreleased : c.release = .none
  known : c.state ∈ [CurtainState.raising, .lowering, .lowered]
  unheld : r.hold = false

theorem noted_motion_isSome (r : DriveReply) (now : Nat) (c : Curtain) :
    (c.noted r now).motion.isSome = c.motion.isSome := by
  simp [Curtain.noted]

theorem shows_eq_false {r : DriveReply} (hrel : r.released = false) (hfall : r.motion ≠ .falling) :
    r.shows = false := by
  simp [DriveReply.shows, hrel, hfall]

variable (h : SoleCurtain k c)
include h

/-- The first two steps of a reply at the curtain (R124): the position is noted, and the acknowledgement of the
outstanding command is taken. -/
theorem SoleCurtain.driveReply_put :
    driveReply c.unit r ack (t.setCtc (k.put c c d)) =
      let heeded := ack.filter fun x => c.outstanding == some x.1
      withUnit c.unit (takeHold r heeded) (reexamine (withUnit c.unit (takeState r c.lastObstruction)
        (reexamine (withUnit c.unit (takeRelease r) (reexamine
          (takeAck r heeded (c.noted r t.time) (t.setCtc (k.put c (c.noted r t.time) d)))))))) := by
  have noted : notePosition r c (t.setCtc (k.put c c d)) = t.setCtc (k.put c (c.noted r t.time) d) :=
    modCurtain_put rfl _
  simp only [driveReply, heededAck, h.curtainOfUnit_put rfl, h.withUnit_put rfl, noted, Option.map_some,
    Option.getD_some, Option.bind_some]
  rw [h.withUnit_put (y := c.noted r t.time) rfl]

/-- The later steps of a reply that does not show the hold request, by what step 3 and step 4 make (R124). -/
theorem SoleCurtain.reply_steps {t1 t2 : State} {y1 y2 : Curtain} {d1 d2 : Demo} {before : Bool}
    {heeded : Option (DriveCmd × Bool)} (hhold : r.hold = false) (hc : t.tbs.commit.current ≠ .pending)
    (hu : y.unit = c.unit) (hrelease : takeRelease r y (t.setCtc (k.put c y d)) = t1.setCtc (k.put c y1 d1))
    (hc1 : t1.tbs.commit.current ≠ .pending) (hu1 : y1.unit = c.unit)
    (hstate : takeState r before y1 (t1.setCtc (k.put c y1 d1)) = t2.setCtc (k.put c y2 d2))
    (hc2 : t2.tbs.commit.current ≠ .pending) (hu2 : y2.unit = c.unit) (ho2 : y2.ownership ≠ .pendant) :
    withUnit c.unit (takeHold r heeded) (reexamine (withUnit c.unit (takeState r before)
      (reexamine (withUnit c.unit (takeRelease r) (reexamine (t.setCtc (k.put c y d))))))) =
      t2.setCtc (k.put c y2 d2) := by
  rw [reexamine_setCtc hc, h.withUnit_put hu, hrelease, reexamine_setCtc hc1, h.withUnit_put hu1,
    hstate, reexamine_setCtc hc2, h.withUnit_put hu2, takeHold_of_no_hold hhold ho2]

/-- During the demonstration's lowering, short of the lower limit, a reply at the curtain ends the segment when it shows
an obstruction, and changes no state otherwise (R129, R141). -/
theorem SoleCurtain.takeState_lowering (hn : y.number = c.number) (hf : y.demoFlag = c.demoFlag)
    (hd : d.state = .lowering) (hm : y.motion.isSome = true)
    (hs : y.state ∈ [CurtainState.raising, .lowering, .lowered]) (hr : y.release ≠ .sent) (hl : r.lower = false)
    (before : Bool) :
    takeState r before y (t.setCtc (k.put c y d)) =
      if r.obstruction then segmentObstructed y (t.setCtc (k.put c y d)) else t.setCtc (k.put c y d) := by
  obtain ⟨m, hm⟩ := Option.isSome_iff_exists.mp hm
  have hrun : d.running = true := by simp [Demo.running, hd]
  have hdesc : y.descending = false := by
    simp only [List.mem_cons, List.not_mem_nil, or_false] at hs
    rcases hs with hs | hs | hs <;> simp [Curtain.descending, hs]
  simp [takeState, hdesc, hr, hm, segmentReply, hn, h.demoRunsOn_put hn hf, hrun, hd, hl]

/-- An obstruction ends the demonstration's lowering segment (R129, R142). -/
theorem SoleCurtain.segmentObstructed_put (hn : y.number = c.number) (hu : y.unit = c.unit)
    (hf : y.demoFlag = c.demoFlag) (hd : d.running = true) (hr : y.release ≠ .sent) (hw : y.holdWaiting = false) :
    segmentObstructed y (t.setCtc (k.put c y d)) =
      (post .demonstrationFailed c.number (some 2) (post .curtainObstructed c.number (some y.position)
        (issue c.unit (.drive .stop) t))).setCtc
        (k.put c { y.endMotion with outstanding := some .stop, state := .stopped }
          (d.ended .failed (some .obstruction))) := by
  rw [segmentObstructed, hn, h.issueDrive_put hn hu hr, modCurtain_put, post_setCtc, h.failDemo_put, h.segmentEnded_put]
  · rfl
  exacts [hn, hw, hn, hf, hd, hn]

/-- A refused LOWER or RAISE ends the demonstration's segment in the state that the limits show (R128, R142). -/
theorem SoleCurtain.moveRefused_put (hn : y.number = c.number) (hu : y.unit = c.unit) (hf : y.demoFlag = c.demoFlag)
    (hd : d.running = true) (hw : y.holdWaiting = false) (ho : y.ownership = .explicit)
    (hs : y.state ∈ [CurtainState.raising, .lowering, .lowered]) (hshow : r.shows = false)
    (hx : r.confirmed = some r.atRest) (cmd : DriveCmd) {c1 : Curtain} (hc1 : c1.number = c.number)
    (hc1u : c1.unit = c.unit) : moveRefused r cmd c1 (t.setCtc (k.put c y d)) =
      (post .demonstrationFailed c.number (some 4) (post .curtainRefused c.number (some cmd.code) t)).setCtc
        (k.put c { y.endMotion with state := r.atRest } (d.ended .failed (some .refused))) := by
  have hends : y.ownership.ended = .implicit := by rw [ho]; rfl
  have hstates : y.endMotion.state ∈ [CurtainState.raised, .lowered, .stopped, .raising, .lowering] := by
    simp only [List.mem_cons, List.not_mem_nil, or_false] at hs
    rcases hs with hs | hs | hs <;> simp [Curtain.endMotion, hs]
  simp only [moveRefused, hc1, hc1u, modCurtain_put hn]
  rw [h.withUnit_put (y := y.endMotion) hu,
    confirmCurtain_put (y := y.endMotion) hn hends rfl hstates (.inl hshow) hx, post_setCtc,
    h.failDemo_put (y := { y.endMotion with state := r.atRest }) hn hf hd]
  split
  · rw [h.segmentEnded_put]
    · rfl
    · exact hn
    · exact hw
  · rfl

/-- Step 2 of a reply with LOWER acknowledged TAKEN during the demonstration's lowering (R141). -/
theorem SoleCurtain.takeAck_lowerTaken (hn : y.number = c.number) (hf : y.demoFlag = c.demoFlag)
    (hd : d.running = true) (hlow : d.state = .lowering) :
    takeAck r (some (.lower, true)) y (t.setCtc (k.put c y d)) =
      t.setCtc (k.put c { y with outstanding := none } { d with
        loweringStart := some t.time
        loweringExpiry := some (t.time + t.tbs.auth.descentLimit * 1000) }) := by
  have runs := h.demoRunsOn_put (t := t) (d := d) (y := { y with outstanding := none }) hn hf
  have freed := modCurtain_put (k := k) (d := d) (t := t) hn fun z => { z with outstanding := none }
  rw [← hn] at runs freed
  simp only [takeAck, driveAnswered]
  rw [freed, lowerTaken, if_pos ⟨runs.trans hd, hlow⟩]
  rfl

/-- Step 2 of a reply with a LOWER or a RAISE refused (R128, R142). -/
theorem SoleCurtain.takeAck_refused (hn : y.number = c.number) (hu : y.unit = c.unit) (hf : y.demoFlag = c.demoFlag)
    (hd : d.running = true) (hw : y.holdWaiting = false) (ho : y.ownership = .explicit)
    (hs : y.state ∈ [CurtainState.raising, .lowering, .lowered]) (hshow : r.shows = false)
    (hx : r.confirmed = some r.atRest) {cmd : DriveCmd} (hcmd : cmd = .lower ∨ cmd = .raise) :
    takeAck r (some (cmd, false)) y (t.setCtc (k.put c y d)) =
      (post .demonstrationFailed c.number (some 4) (post .curtainRefused c.number (some cmd.code) t)).setCtc
        (k.put c { y.endMotion with outstanding := none, state := r.atRest } (d.ended .failed (some .refused))) := by
  have refused := h.moveRefused_put (t := t) (y := { y with outstanding := none }) (c1 := y) hn hu hf hd hw ho hs hshow
    hx cmd hn hu
  simp only [takeAck]
  rw [hn, modCurtain_put hn]
  rcases hcmd with rfl | rfl
  · exact refused
  · exact refused

/-- A local release ends the demonstration's segment (R137, R142). -/
theorem SoleCurtain.localRelease_put (hn : y.number = c.number) (hu : y.unit = c.unit) (hf : y.demoFlag = c.demoFlag)
    (hd : d.running = true) (hm : y.motion.isSome = true) : localRelease r y (t.setCtc (k.put c y d)) =
      (downPosted r c (post .demonstrationFailed c.number (some 6) (issue c.unit (.drive .stop)
        (post .curtainLocalRelease c.number (some y.position) t)))).setCtc
        (k.put c { localRecord r t y with outstanding := some .stop } (d.ended .failed (some .localRelease))) := by
  rw [localRelease, hn, modCurtain_put hn, post_setCtc, hm, Bool.true_or, if_pos rfl, h.issueDrive_put, h.failDemo_put,
    downPosted]
  · split
    · exact post_setCtc ..
    · rfl
  exacts [hn, hf, hd, hn, hu, by simp [localRecord]]

/-! ### The replies that end a demonstration, and the one that starts its lowering time -/

section
variable (hd : DemoReply t c d r)
include hd

/-- LOWER acknowledged TAKEN short of the lower limit: the lowering start and its expiry are set (R141). -/
theorem SoleCurtain.reply_lowerTaken (hshow : r.shows = false) (hlow : d.state = .lowering) (hl : r.lower = false)
    (ho : r.obstruction = false) (hout : c.outstanding = some .lower) :
    driveReply c.unit r (some (.lower, true)) (t.setCtc (k.put c c d)) =
      t.setCtc (k.put c { c.noted r t.time with outstanding := none } { d with
        loweringStart := some t.time
        loweringExpiry := some (t.time + t.tbs.auth.descentLimit * 1000) }) := by
  rw [h.driveReply_put]
  simp only [hout, Option.filter_some, beq_self_eq_true, if_true,
    h.takeAck_lowerTaken (y := c.noted r t.time) rfl rfl hd.running hlow]
  refine h.reply_steps hd.unheld hd.commit rfl (takeRelease_of_not_shows hshow _ _) hd.commit rfl
    (t2 := t) ?_ hd.commit rfl (by simp [Curtain.noted, hd.explicit])
  have stays := h.takeState_lowering (t := t) (y := { c.noted r t.time with outstanding := none })
    (d := { d with
      loweringStart := some t.time
      loweringExpiry := some (t.time + t.tbs.auth.descentLimit * 1000) }) rfl rfl hlow
    ((noted_motion_isSome r t.time c).trans hd.moves) hd.known (by simp [Curtain.noted, hd.unreleased]) hl
    c.lastObstruction
  rw [ho, if_neg (by decide)] at stays
  exact stays

/-- An obstruction in the demonstration's lowering ends it (R129, R142). -/
theorem SoleCurtain.reply_obstructed (hshow : r.shows = false) (hlow : d.state = .lowering) (hl : r.lower = false)
    (ho : r.obstruction = true) (hw : c.holdWaiting = false) :
    driveReply c.unit r none (t.setCtc (k.put c c d)) =
      (post .demonstrationFailed c.number (some 2) (post .curtainObstructed c.number (some r.position)
        (issue c.unit (.drive .stop) t))).setCtc
        (k.put c { (c.noted r t.time).endMotion with outstanding := some .stop, state := .stopped }
          (d.ended .failed (some .obstruction))) := by
  have hrel : (c.noted r t.time).release ≠ .sent := by simp [Curtain.noted, hd.unreleased]
  rw [h.driveReply_put]
  refine h.reply_steps (y2 := { (c.noted r t.time).endMotion with outstanding := some .stop, state := .stopped })
    hd.unheld hd.commit rfl (takeRelease_of_not_shows hshow _ _) hd.commit rfl ?_
    (by simpa using hd.commit) rfl (by simp [Curtain.noted, Curtain.endMotion, hd.explicit, Ownership.ended])
  rw [h.takeState_lowering (y := c.noted r t.time) rfl rfl hlow ((noted_motion_isSome r t.time c).trans hd.moves)
    hd.known hrel hl, ho, if_pos rfl, h.segmentObstructed_put (y := c.noted r t.time) rfl rfl rfl hd.running hrel hw]
  rfl

/-- A LOWER or a RAISE refused in a reply at rest ends the demonstration (R128, R142). -/
theorem SoleCurtain.reply_refused (hshow : r.shows = false) {cmd : DriveCmd} (hcmd : cmd = .lower ∨ cmd = .raise)
    (hstill : r.motion = .still) (hboth : ¬ (r.upper = true ∧ r.lower = true)) (hout : c.outstanding = some cmd)
    (hw : c.holdWaiting = false) : driveReply c.unit r (some (cmd, false)) (t.setCtc (k.put c c d)) =
      (post .demonstrationFailed c.number (some 4) (post .curtainRefused c.number (some cmd.code) t)).setCtc
        (k.put c { (c.noted r t.time).endMotion with outstanding := none, state := r.atRest }
          (d.ended .failed (some .refused))) := by
  have hx := confirmed_atRest hboth (.inl hstill)
  have acked := h.takeAck_refused (t := t) (y := c.noted r t.time) rfl rfl rfl hd.running hw hd.explicit hd.known hshow
    hx hcmd
  have hends : (c.noted r t.time).endMotion.ownership = .implicit := by
    simp [Curtain.noted, hd.explicit, Ownership.ended]
  have hcommit : (post .demonstrationFailed c.number (some 4)
      (post .curtainRefused c.number (some cmd.code) t)).tbs.commit.current ≠ .pending := by simpa using hd.commit
  rw [h.driveReply_put]
  simp only [hout, Option.filter_some, beq_self_eq_true, if_true, acked]
  have stays := takeState_atRest (k := k) (c := c) (d := d.ended .failed (some .refused))
    (t := post .demonstrationFailed c.number (some 4) (post .curtainRefused c.number (some cmd.code) t))
    (y := { (c.noted r t.time).endMotion with outstanding := none, state := r.atRest })
    rfl hends rfl rfl (.inl hshow) hx c.lastObstruction
  exact h.reply_steps hd.unheld hcommit rfl (takeRelease_of_not_shows hshow _ _) hcommit rfl stays hcommit rfl
    (by rw [hends]; decide)

/-- A reply that shows released or falling ends the demonstration with a local release, in EMERGENCY DESCENT or, at the
lower limit, LOWERED (R137, R142). -/
theorem SoleCurtain.reply_localRelease (hshow : r.shows = true)
    (hlimits : (r.lower = false ∧ r.obstruction = false) ∨ (r.lower = true ∧ r.upper = false)) :
    driveReply c.unit r none (t.setCtc (k.put c c d)) =
      (downPosted r c (post .demonstrationFailed c.number (some 6) (issue c.unit (.drive .stop)
        (post .curtainLocalRelease c.number (some r.position) t)))).setCtc
        (k.put c { localRecord r t (c.noted r t.time) with outstanding := some .stop }
          (d.ended .failed (some .localRelease))) := by
  have ends : (localRecord r t (c.noted r t.time)).ownership = .implicit := by
    simp [localRecord, Curtain.noted, hd.explicit, Ownership.ended]
  have released := h.localRelease_put (t := t) (r := r) (y := c.noted r t.time) rfl rfl rfl hd.running
    ((noted_motion_isSome r t.time c).trans hd.moves)
  have hcommit : (downPosted r c (post .demonstrationFailed c.number (some 6) (issue c.unit (.drive .stop)
      (post .curtainLocalRelease c.number (some r.position) t)))).tbs.commit.current ≠ .pending := by
    simpa using hd.commit
  have taken : takeRelease r (c.noted r t.time) (t.setCtc (k.put c (c.noted r t.time) d)) =
      localRelease r (c.noted r t.time) (t.setCtc (k.put c (c.noted r t.time) d)) :=
    if_pos ⟨hshow, hd.unreleased⟩
  rw [h.driveReply_put]
  have stays := takeState_released (k := k) (c := c) (d := d.ended .failed (some .localRelease))
    (t := downPosted r c (post .demonstrationFailed c.number (some 6) (issue c.unit (.drive .stop)
      (post .curtainLocalRelease c.number (some r.position) t))))
    (y := { localRecord r t (c.noted r t.time) with outstanding := some .stop })
    rfl ends rfl rfl (by simp [localRecord]) hlimits c.lastObstruction
  exact h.reply_steps hd.unheld hd.commit rfl (taken.trans released) hcommit rfl stays hcommit rfl
    (by rw [ends]; decide)

end
end

/-! ### The statement -/

theorem Demo.running_of_mem {d : Demo} (h : d.state ∈ [DemoState.lowering, .dwell, .raising]) : d.running = true := by
  by_contra hn
  exact (not_running_iff d).mp (Bool.eq_false_iff.mpr hn) h

/-- The end of a segment under EXPLICIT. -/
theorem Curtain.endMotion_explicit {c : Curtain} (h : c.ownership = .explicit) :
    c.endMotion = { c with motion := none, ownership := .implicit } := by
  simp only [Curtain.endMotion, h, Ownership.ended]

theorem issue_lpc_congr {s t : State} (h : s.lpc = t.lpc) {a : Nat} {cmd : LoopCmd} :
    (issue a cmd s).lpc = (issue a cmd t).lpc := by
  simp only [issue, State.setLpc_lpc, h]

theorem exec_stallTimerExpiry {s : State} (hs : Running s) (n : Nat) :
    exec (.stallTimerExpiry n) s = .next (stallExpire n s) := by
  have held : s.resetHeld = false := hs
  simp only [exec, execStallTimerExpiry, running, held, Bool.false_eq_true, if_false]

section
variable {c : Curtain} {s : State} (h : SoleCurtain s.ctc c)
include h

theorem SoleCurtain.setCtc_put_self : s.setCtc (s.ctc.put c c s.ctc.demo) = s := by
  rw [h.put_self]
  exact State.setCtc_self ..

theorem SoleCurtain.findCurtain_eq : findCurtain s c.number = some c := by
  have found := h.findCurtain_put (t := s) (d := s.ctc.demo) (y := c) rfl
  rwa [h.setCtc_put_self] at found

theorem SoleCurtain.demoRunsOn_eq : demoRunsOn s c.number = s.ctc.demo.running := by
  have runs := h.demoRunsOn_put (t := s) (d := s.ctc.demo) (y := c) rfl rfl
  rwa [h.setCtc_put_self] at runs

/-- The stall expiry of the demonstration's curtain outside DWELL (R130). -/
theorem SoleCurtain.stallExpire_due {m : Motion} (hm : c.motion = some m) (hdue : m.progress + 3000 ≤ s.time)
    (hdwell : s.ctc.demo.state ≠ .dwell) : stallExpire c.number s = stallTaken c s := by
  have due : stallDue s c = true := by simp [stallDue, hm, hdue, hdwell]
  simp only [stallExpire, h.findCurtain_eq, due, if_true]

/-- The stall timer is suspended in DWELL (R141). -/
theorem SoleCurtain.stallExpire_dwell (hdwell : s.ctc.demo.state = .dwell) : stallExpire c.number s = s := by
  have runs : demoRunsOn s c.number = true := by
    simp only [h.demoRunsOn_eq, Demo.running, hdwell]
  have due : stallDue s c = false := by simp [stallDue, runs, hdwell]
  simp only [stallExpire, h.findCurtain_eq, due, Bool.false_eq_true, if_false]

/-- The entry to PRESHOW from another phase than ACT abandons the demonstration before PHASE ENTERED (R5, R142). -/
theorem SoleCurtain.transition_preshow (hc : s.tbs.commit.current ≠ .pending) (hp : s.phc.phase = .dark)
    (hd : s.ctc.demo.running = true) (hr : c.release ≠ .sent) (hw : c.holdWaiting = false) (minutes : Option Nat) :
    (transition .preshow minutes s).ctc =
        s.ctc.put c { c.endMotion with outstanding := some .stop } (s.ctc.demo.ended .notDone none) ∧
      (transition .preshow minutes s).lpc = (issue c.unit (.drive .stop) s).lpc ∧
      (transition .preshow minutes s).evq =
        (post .phaseEntered 0 (some 1) (post .demonstrationAbandoned c.number (some 4) s)).evq := by
  have hquiet : s.phc.phase = .act → ∀ r ∈ s.zmn.zones, r.window = none := by simp [hp]
  have abandoned := h.curtainsPreshow_put (t := budgetsPreshow (exited (enteredRecord s .preshow minutes) s)) hd hr hw
  rw [h.put_self] at abandoned
  have came : enterPhase .preshow (exited (enteredRecord s .preshow minutes) s) = _ := abandoned
  have events : SameEvents (enterPhase .preshow (exited (enteredRecord s .preshow minutes) s))
      (post .demonstrationAbandoned c.number (some 4) s) := by
    have before : SameEvents (budgetsPreshow (exited (enteredRecord s .preshow minutes) s)) s := ⟨rfl, rfl, rfl⟩
    have posted := before.post .demonstrationAbandoned c.number (some 4)
    rw [came]
    exact ⟨posted.evq, posted.cmi, posted.time⟩
  refine ⟨?_, ?_, ?_⟩
  · rw [(transition_sameCore hc hquiet).2, came]
    rfl
  · rw [transition_eq_entryEvents, entryEvents_lpc, entered_eq hc hquiet, fillPhase, if_neg (by decide), came]
    exact issue_lpc_congr (by simp [budgetsPreshow, exited])
  · rw [transition_eq_entryEvents, entered_eq hc hquiet, fillPhase, if_neg (by decide)]
    exact (events.entryEvents 0 false).evq
end

/-- Settles O38: the ends of a running demonstration outside a reply, and the replies of its drive unit. -/
theorem demonstrationEndsEarly : Obligations.DemonstrationEndsEarly := by
  intro c m failed put fails s hdemo hsole hc hrun hown hmot hrel hfailed hput hfails
  have h : SoleCurtain s.ctc c := ⟨hdemo, hsole⟩
  have hs := h.setCtc_put_self
  have hd := Demo.running_of_mem hrun
  have hm : c.motion.isSome = true := by simp [hmot]
  have hr : c.release ≠ .sent := by simp [hrel]
  have hend := Curtain.endMotion_explicit hown
  refine ⟨fun hs' hw hdue hdwell => ?_, fun hs' hdwell => ?_, fun b hs' hw hp hn => ?_,
    fun st content r c1 x hkind haddr hcontent hhold hstate hc1 hx => ?_⟩
  case refine_1 =>
    have stalled := h.stallTaken_put (t := s) hc hd hr hw
    rw [hs, hend] at stalled
    rw [exec_stallTimerExpiry hs', h.stallExpire_due hmot hdue hdwell, stalled]
    simp only [hfails, hput, hfailed, issue_setCtc, post_setCtc]
    rfl
  case refine_2 =>
    rw [exec_stallTimerExpiry hs', h.stallExpire_dwell hdwell]
  case refine_3 =>
    have taken := exec_setPhase (code := 1) hs'
      (setPhaseAt_taken (q := .preshow) (minutes := givenMinutes b) rfl hn (by rw [hp]; rfl) (by simp))
    obtain ⟨hctc, hlpc, hevq⟩ := h.transition_preshow hc hp hd hr hw (givenMinutes b)
    rw [hend] at hctc
    refine ⟨_, _, _, taken, ?_, hlpc, hevq⟩
    rw [hctc, hput]
    rfl
  case refine_4 =>
    have hreply : DemoReply s c s.ctc.demo r := ⟨hc, hd, hown, hm, hrel, hstate, hhold⟩
    have hnoted : c.noted r s.time = c1 := by rw [hc1, Curtain.noted, hmot, hhold, Option.map_some]
    have hc1end : c1.endMotion = { c1 with motion := none, ownership := .implicit } :=
      Curtain.endMotion_explicit (by rw [hc1]; exact hown)
    have told (ack : Option (LoopCmd × Bool)) : deliver st content ack s = driveReply c.unit r (driveAck ack) s := by
      simp only [deliver, hkind, haddr, hcontent]
    simp only [hfails, hput, hfailed]
    refine ⟨?_, fun hreleased hfall hlow hl => ⟨fun ho hout => ?_, fun ho hw => ?_⟩,
      fun cmd k hcmd hreleased hstill hboth hout hw => ?_, fun hshown => ⟨fun hl ho => ?_, fun hl hup => ?_⟩⟩
    case refine_1 =>
      have lost := h.driveUnitLost_put (t := s) hc hd hr hm
      rw [hs, hend] at lost
      simp only [tellLoss, hkind, haddr, lost, issue_setCtc, post_setCtc]
      rfl
    case refine_2 =>
      have lowers := h.reply_lowerTaken hreply (shows_eq_false hreleased hfall) hlow hl ho hout
      rw [hs, hnoted] at lowers
      refine (told _).trans (lowers.trans ?_)
      rfl
    case refine_3 =>
      have obstructed := h.reply_obstructed hreply (shows_eq_false hreleased hfall) hlow hl ho hw
      rw [hs, hnoted, hc1end] at obstructed
      refine (told _).trans (obstructed.trans ?_)
      simp only [issue_setCtc, post_setCtc]
      rfl
    case refine_4 =>
      have moved : cmd = .lower ∨ cmd = .raise := hcmd.imp And.left And.left
      have hk : cmd.code = k := by rcases hcmd with ⟨rfl, rfl⟩ | ⟨rfl, rfl⟩ <;> rfl
      have refused := h.reply_refused hreply (shows_eq_false hreleased (by simp [hstill])) moved hstill hboth hout hw
      rw [hs, hnoted, hc1end, hk] at refused
      rw [hx]
      refine (told _).trans (refused.trans ?_)
      simp only [post_setCtc]
      rfl
    case refine_5 =>
      have released := h.reply_localRelease hreply (by simpa [DriveReply.shows] using hshown) (.inl ⟨hl, ho⟩)
      rw [hs, hnoted, localRecord, hc1end] at released
      refine (told _).trans (released.trans ?_)
      simp only [downPosted, hl, issue_setCtc, post_setCtc]
      rfl
    case refine_6 =>
      have released := h.reply_localRelease hreply (by simpa [DriveReply.shows] using hshown) (.inr ⟨hl, hup⟩)
      rw [hs, hnoted, localRecord, hc1end] at released
      refine (told _).trans (released.trans ?_)
      simp only [downPosted, hl, issue_setCtc, post_setCtc]
      rfl

end Sys2Proof.Machine
end

section
/-! FBL (R31 to R34): the slots of a built frame, what a build does, and the stream's and the output's timers. -/

namespace Sys2Proof.Machine

/-! ### The built frame (R32, R33) -/

section
variable {s : State} {n : Nat}

theorem frameSlots_of_map (h : slotMapEmpty s.tbs.active.slot = false) :
    frameSlots s = (expectedLength? s.tbs.active.slot).getD 0 := by
  simp [frameSlots, h]

/-- A slot of the built frame carries its slot value (R32). -/
theorem buildLevels_slot (hmap : slotMapEmpty s.tbs.active.slot = false) (h1 : 1 ≤ n)
    (hn : n ≤ (expectedLength? s.tbs.active.slot).getD 0) : (buildLevels s)[n - 1]? = some (slotValue s n) := by
  have hlt : n - 1 < frameSlots s := by rw [frameSlots_of_map hmap]; omega
  simp [buildLevels, hmap, hlt, Nat.sub_add_cancel h1]

/-- The input level of a slot of the frame (R20). -/
theorem slotLevel_of_pos (table : List Nat) (h1 : 1 ≤ n) : slotLevel table n = table.getD (n - 1) 0 :=
  if_neg (Nat.one_le_iff_ne_zero.mp h1)

theorem effectLevel_outside_normal (h : s.asc.stage ≠ .normal) (k : Option Nat) (v : Nat) : effectLevel s k v = 0 :=
  if_pos h

theorem effectLevel_without_curtain (h : s.asc.stage = .normal) (v : Nat) : effectLevel s none v = v :=
  if_neg (not_not.mpr h)

/-- An EFFECT slot with a curtain in NORMAL carries the input just while the curtain is RAISED (R33). -/
theorem effectLevel_curtain (h : s.asc.stage = .normal) {k : Nat} {c : Curtain}
    (hc : s.ctc.curtains.find? (fun c => c.number == k) = some c) (v : Nat) :
    effectLevel s (some k) v = if c.state = .raised then v else 0 := by
  simp [effectLevel, h, curtainStateOf, hc]
end

/-- Settles O16: the value of each class of slot. -/
theorem effectAndWorkSlotsUnderAlarm : Obligations.EffectAndWorkSlotsUnderAlarm := by
  intro s n hmap h1 hn
  rw [buildLevels_slot hmap h1 hn, ← slotLevel_of_pos s.srx.table h1]
  refine ⟨fun k hk hs => ?_, fun k c hk hc hr => ?_, fun hk hs => ?_, fun hk hs => ?_, fun hs hk => ?_,
    fun k c hs hk hc hr => ?_, fun k c hk hc => ?_, fun hk => ?_, fun hk => ?_⟩
  case refine_2 =>
    by_cases hs : s.asc.stage = .normal
    · simp [slotValue, hk, effectLevel_curtain hs hc, hr]
    · simp [slotValue, hk, effectLevel_outside_normal hs]
  case refine_7 =>
    have found : findCircuit s.hlu k = some c := hc
    simp [slotValue, hk, found]
  all_goals simp_all [slotValue, effectLevel_outside_normal, effectLevel_without_curtain, effectLevel_curtain]

/-! ### A build (R32, R54) -/

/-- A circuit is of a HOUSE slot of the frame just when some slot names it. -/
theorem housed_iff (b : Bank) (c : Nat) : housed b c = true ↔
    ∃ n, 1 ≤ n ∧ n ≤ (expectedLength? b).getD 0 ∧ slotClass b n = .house c := by
  simp only [housed, List.any_eq_true, List.mem_range, beq_iff_eq]
  constructor
  · rintro ⟨i, hi, h⟩
    exact ⟨i + 1, by omega, by omega, h⟩
  · rintro ⟨n, h1, hn, h⟩
    exact ⟨n - 1, by omega, by rwa [Nat.sub_add_cancel h1]⟩

/-- The record of a circuit after a build: a circuit of a HOUSE slot has its level as last sent (R54). -/
def Circuit.sent (s : State) (c : Circuit) : Circuit :=
  if housed s.tbs.active.slot c.number then { c with lastSent := circuitLevel s c s.time } else c

/-- A build changes HLU's and FBL's records (R32, R54). -/
theorem buildAndSend_eq (cutBefore : Bool) (s : State) : buildAndSend cutBefore s =
    (s.setHlu { s.hlu with circuits := s.hlu.circuits.map (Circuit.sent s) }).setFbl
      { s.fbl with
        expiry := some (s.time + 25)
        lastOther := false
        frame := if frameSlots s = 0 then (if cutBefore then none else s.fbl.frame)
          else some ⟨false, s.time, buildLevels s, cutBefore⟩ } := rfl

/-! ### The timers (R24, R25, R31) -/

section
variable {s : State} (hs : Running s)
include hs

theorem running_eq (f : State → State) : running f s = f s := by
  have held : s.resetHeld = false := hs
  simp [running, held]

theorem exec_streamHoldExpiry : exec .streamHoldExpiry s = .next (holdExpire s) := by
  rw [← running_eq hs holdExpire]; rfl

theorem exec_darkIdleExpiry : exec .darkIdleExpiry s = .next (idleExpire s) := by
  rw [← running_eq hs idleExpire]; rfl

theorem exec_outputIntervalExpiry {e : Nat} (hrun : s.fbl.running = true) (he : s.fbl.expiry = some e)
    (hdue : e ≤ s.time) : exec .outputIntervalExpiry s = .next (intervalExpire s) := by
  have due : intervalDue s = true := by simp [intervalDue, hrun, he, hdue]
  rw [show exec .outputIntervalExpiry s = .next (running (fun s => if intervalDue s then intervalExpire s else s) s)
    from rfl, running_eq hs, if_pos due]
end

section
variable {s : State}

theorem holdDue_iff : holdDue s = true ↔
    s.srx.state = .ok ∧ s.srx.lastGood + holdTime s.tbs.active.slot ≤ s.time := by
  simp [holdDue]

theorem idleDue_iff : idleDue s = true ↔
    (s.srx.state = .ok ∨ s.srx.state = .lost) ∧ s.phc.phase = .dark ∧ s.asc.stage = .normal ∧
      idleTime s.tbs.active.slot ≠ 0 ∧ s.srx.idleRef + idleTime s.tbs.active.slot ≤ s.time := by
  simp [idleDue, idleRuns, and_assoc]

/-- The stream becomes LOST (R24, R27, R63). -/
theorem streamLose_eq (s : State) : streamLose s =
    (post .streamLost 0 (some s.srx.state.code) (s.setSrx { s.srx with state := .lost })).setCrg
      { s.crg with previous := none } := by
  simp [streamLose, breakPair]

/-- The stream becomes QUIET, and the output stops (R25, R31, R63). -/
theorem streamHush_eq (s : State) : streamHush s =
    ((post .streamQuiet 0 (some s.srx.state.code) (s.setSrx { s.srx with state := .quiet })).setCrg
      { s.crg with previous := none }).setFbl { s.fbl with running := false, expiry := none, holding := none } := by
  simp [streamHush, fblStop, breakPair]

/-- The interval's end with no other frame to send begins a level frame (R31, R34). -/
theorem intervalExpire_level (h : s.fbl.holding = none ∨ s.fbl.lastOther = true) :
    intervalExpire s = buildAndSend false s := by
  unfold intervalExpire
  split
  · next bytes hb => rw [if_pos (by simpa [hb] using h)]
  · rfl
end

/-- Settles O15: the stream's two expiries, and the two frames that the output interval's end can begin. -/
theorem streamAndOutputTimersRunOut : Obligations.StreamAndOutputTimersRunOut := by
  refine ⟨fun s hs => ⟨fun hok hdue => ?_, fun hok hdue => ?_, fun hstate hp hn hi hdue => ?_, fun h => ?_⟩,
    fun s e hs hrun he hdue => ⟨fun bytes hb ho => ?_, fun h hslots => ?_⟩⟩
  · rw [exec_streamHoldExpiry hs, holdExpire, if_pos (holdDue_iff.mpr ⟨hok, hdue⟩), streamLose_eq, hok]
    rfl
  · rw [exec_streamHoldExpiry hs, holdExpire, if_neg (by rw [holdDue_iff]; omega)]
  · rw [exec_darkIdleExpiry hs, idleExpire, if_pos (idleDue_iff.mpr ⟨hstate, hp, hn, hi, hdue⟩), streamHush_eq]
  · rw [exec_darkIdleExpiry hs, idleExpire, if_neg]
    rw [idleDue_iff]
    rintro ⟨-, hp, hn, hi, hdue⟩
    rcases h with h | h | h | h
    · exact h hp
    · exact h hn
    · exact hi h
    · omega
  · rw [exec_outputIntervalExpiry hs hrun he hdue]
    simp only [intervalExpire, hb, ho]
    rfl
  · refine ⟨_, (exec_outputIntervalExpiry hs hrun he hdue).trans (congrArg _ (intervalExpire_level h)), ?_, rfl, rfl,
      Circuit.sent s, rfl, fun c => ⟨fun hc => ?_, fun hc => ?_⟩⟩
    · simp [buildAndSend_eq, hslots]
    · exact if_pos ((housed_iff _ _).mpr hc)
    · refine if_neg fun h => ?_
      obtain ⟨n, h1, hn, hclass⟩ := (housed_iff _ _).mp h
      exact hc n h1 hn hclass

end Sys2Proof.Machine
end

section
/-! The end of an input frame and the break (R17 to R20, R26, R183, R186): how a frame is sorted, the control frame
that carries a command, and what a break does to a reply and to QUIET. -/

namespace Sys2Proof.Machine

open Host

/-! ### A posting and the stream's records -/

theorem post_setSrx (e : Event) (index : Nat) (arg : Option Nat) (s : State) (x : Stream) :
    post e index arg (s.setSrx x) = (post e index arg s).setSrx x := by
  simp only [post, postAt_eq]
  rfl

/-! ### What CRG is told (R63) -/

/-- The previous cue value becomes absent where a cue pair is mapped (R63). -/
theorem discardReported_eq (s : State) : discardReported s = s.setCrg
    (if (cuePair s.tbs.active.slot).isSome = true then { s.crg with previous := none } else s.crg) := by
  unfold discardReported
  cases cuePair s.tbs.active.slot <;> rfl

/-! ### The break (R17, R26, R186, R191) -/

/-- A break changes nothing but in QUIET without a wake pending (R26). -/
theorem wakeBreak_of_awake {s : State} (h : s.srx.state ≠ .quiet ∨ s.srx.wakePending = true) : wakeBreak s = s :=
  if_neg (by rintro ⟨hq, hw⟩; rcases h with h | h <;> simp_all)

theorem wakeBreak_of_quiet {s : State} (hq : s.srx.state = .quiet) (hw : s.srx.wakePending = false) :
    wakeBreak s = post .streamAwake 0 (some 0) (s.setSrx { s.srx with wakePending := true, discardOwed := true }) :=
  if_pos ⟨hq, hw⟩

theorem abandonReply_of_none {s : State} (h : s.cmi.reply = none) : abandonReply s = s := by
  simp [abandonReply, h]

/-- A break abandons a reply with COLLISION, and a restart that waits is taken (R186, R191). -/
theorem abandonReply_of_some {s : State} (h : s.cmi.reply.isSome = true) : abandonReply s =
    if s.cmi.restartOwed then
      warmRestart 2 (s.setCmi { s.cmi with reply := none, sticky := { s.cmi.sticky with collision := true } })
    else s.setCmi { s.cmi with reply := none, sticky := { s.cmi.sticky with collision := true } } := by
  unfold abandonReply
  rw [if_pos h]
  rfl

theorem frameEnds_of_not_receiving {s : State} (h : s.srx.receiving = false) (frame : List RxByte) :
    frameEnds frame s = s := by
  simp [frameEnds, h]

/-- A break that finds no frame in progress (R17). -/
theorem exec_inputBreak {s : State} (hs : Running s) (h : s.srx.receiving = false) :
    exec (.inputBreak []) s = .next ((wakeBreak (abandonReply s)).setSrx
      { (wakeBreak (abandonReply s)).srx with receiving := true }) := by
  have held : s.resetHeld = false := hs
  have arrives : exec (.inputBreak []) s = .next (breakArrives [] s) := rfl
  simp only [arrives, breakArrives, held, Bool.false_eq_true, if_false, frameEnds_of_not_receiving h]

section
variable {s t : State} (hs : Running s) (h : s.srx.receiving = false) (ht : abandonReply s = t)
include hs h ht

/-- A break that wakes nothing begins a frame (R17). -/
theorem exec_inputBreak_of_awake (hw : t.srx.state ≠ .quiet ∨ t.srx.wakePending = true) :
    exec (.inputBreak []) s = .next (t.setSrx { t.srx with receiving := true }) := by
  rw [exec_inputBreak hs h, ht, wakeBreak_of_awake hw]

/-- A break in QUIET without a wake pending begins the wake and a frame (R17, R26). -/
theorem exec_inputBreak_of_quiet (hq : t.srx.state = .quiet) (hw : t.srx.wakePending = false) :
    exec (.inputBreak []) s = .next (post .streamAwake 0 (some 0)
      (t.setSrx { t.srx with wakePending := true, discardOwed := true, receiving := true })) := by
  rw [exec_inputBreak hs h, ht, wakeBreak_of_quiet hq hw]
  simp only [post_setSrx, State.setSrx_setSrx, State.setSrx_srx]
end

/-- A break with the bytes received before it is the end of their frame, and then a break (R17). -/
theorem exec_inputBreak_of_frameEnds {s t : State} {frame : List RxByte} (hs : Running s)
    (h : exec (.inputFrameEnd frame) s = .next t) (ht : t.resetHeld = false) (hr : t.srx.receiving = false) :
    exec (.inputBreak frame) s = exec (.inputBreak []) t := by
  have held : s.resetHeld = false := hs
  have ended : frameEnds frame s = t := Outcome.next.inj h
  have arrives : exec (.inputBreak frame) s = .next (breakArrives frame s) := rfl
  simp only [exec_inputBreak ht hr, arrives, breakArrives, held, Bool.false_eq_true, if_false, ended]

/-- Settles O12: a break outside a frame, by reply and stream state; and one that ends a frame. -/
theorem breakOnTheStream : Obligations.BreakOnTheStream := by
  intro s hs
  refine ⟨fun hr => ⟨fun hn hw => ?_, fun hn hq hw => ?_, fun hn ho hw => ?_, fun hn ho hq hw => ?_, fun hn ho => ?_⟩,
    fun _ frame t h ht hr => exec_inputBreak_of_frameEnds hs h ht hr⟩
  · exact exec_inputBreak_of_awake hs hr (abandonReply_of_none hn) hw
  · exact exec_inputBreak_of_quiet hs hr (abandonReply_of_none hn) hq hw
  · exact exec_inputBreak_of_awake hs hr ((abandonReply_of_some hn).trans (if_neg (by simp [ho]))) hw
  · exact exec_inputBreak_of_quiet hs hr ((abandonReply_of_some hn).trans (if_neg (by simp [ho]))) hq hw
  · rw [exec_inputBreak hs hr, abandonReply_of_some hn, if_pos ho]
    rfl

end Sys2Proof.Machine
end

section
/-! Control frames and other frames (R17 to R20, R28, R34, R183, R184). -/

namespace Sys2Proof.Machine

open Host

/-! ### The end of a frame (R17, R18, R19) -/

/-- A frame whose end comes while a reply is sent has no bytes (R17). -/
theorem exec_inputFrameEnd_replying {s : State} (hs : Running s) (hr : s.srx.receiving = true)
    (hc : s.cmi.reply.isSome = true) (frame : List RxByte) :
    exec (.inputFrameEnd frame) s = .next (s.setSrx { s.srx with receiving := false }) := by
  have held : s.resetHeld = false := hs
  have ends : exec (.inputFrameEnd frame) s = .next (frameEnds frame s) := rfl
  simp [ends, frameEnds, held, hr, receivedBytes, hc]

section
variable {s : State} (hs : Running s) (hr : s.srx.receiving = true) (hc : s.cmi.reply = none)
include hs hr hc

/-- A frame with its start code is judged when no reply is sent (R17, R18). -/
theorem exec_inputFrameEnd (start : RxByte) (rest : List RxByte) : exec (.inputFrameEnd (start :: rest)) s =
    .next (judgeFrame start rest (s.setSrx { s.srx with receiving := false })) := by
  have held : s.resetHeld = false := hs
  have ends : exec (.inputFrameEnd (start :: rest)) s = .next (frameEnds (start :: rest) s) := rfl
  simp [ends, frameEnds, held, hr, receivedBytes, hc]
end

theorem any_framing_clean (start : Byte) (rest : List Byte) :
    (({ value := start } : RxByte) :: rest.map fun x => { value := x }).any (·.framing) = false := by
  simp

section
variable {s : State}

/-- A frame without a framing error and with start code 0 is a level frame (R18). -/
theorem judgeFrame_level (slots : List Byte) (s : State) :
    judgeFrame { value := 0#8 } (slots.map fun b => { value := b }) s =
      levelFrame (slots.map fun b => { value := b }) s := by
  rw [judgeFrame, any_framing_clean]
  rfl

/-- A frame without a framing error whose start code is 0x6B and whose second byte is the unit address is a control
frame for this unit (R18, R208). -/
theorem judgeFrame_control {second : Byte} {rest : List Byte} (hu : s.unit = some second.toNat) :
    judgeFrame { value := 0x6B } ((second :: rest).map fun b => { value := b }) s =
      controlFrame { value := 0x6B } ((second :: rest).map fun b => { value := b }) s := by
  have mine : isForUnit s { value := 0x6B } ((second :: rest).map fun b => { value := b }) = true := by
    simp [isForUnit, levelOf, hu]
  rw [judgeFrame, any_framing_clean, mine]
  rfl

/-- A frame without a framing error with another start code, or with a second byte that is not the unit address, is an
other frame (R18, R208). -/
theorem judgeFrame_other {start : Byte} {rest : List Byte} (h0 : start ≠ 0)
    (hu : start = 0x6B → s.unit = none ∨ (rest.head?.map BitVec.toNat) ≠ s.unit) :
    judgeFrame { value := start } (rest.map fun b => { value := b }) s =
      otherFrame { value := start } (rest.map fun b => { value := b }) s := by
  have foreign : isForUnit s { value := start } (rest.map fun b => { value := b }) = false := by
    have head : (rest.map fun b => ({ value := b } : RxByte)).head?.map levelOf = rest.head?.map BitVec.toNat := by
      cases rest <;> rfl
    have code : levelOf { value := start } = 107 ↔ start = 0x6B := (BitVec.toNat_eq (y := 0x6B#8)).symm
    simp only [isForUnit, head, Bool.and_eq_false_iff, beq_eq_false_iff_ne, ne_eq, code]
    by_cases h : start = 0x6B
    · rcases hu h with h | h <;> simp [h]
    · exact .inl (.inl h)
  rw [judgeFrame, any_framing_clean, foreign]
  simp only [Bool.false_eq_true, if_false, h0]
end

/-! ### The control frame of a command (R183, 12.2) -/

/-- A code outside the catalogue spells no other command (R184). -/
theorem controlCommand_unknown {c : Nat} (h : commandCodes.contains c = false) (p : List Byte) :
    controlCommand c p = .unknownCommand c p := by
  unfold controlCommand
  split
  case h_37 => rfl
  all_goals exact absurd h (by decide)

/-- The command that a code and a payload spell is the one that is sent with them (R206). -/
theorem controlCommand_of_controlCode {i : Instr} {code : Nat} {p : List Byte} (h : controlCode i = some (code, p))
    (hw : i.wellFormed = true) : controlCommand code p = i ∧ code ≤ 255 ∧ p.length ≤ 200 := by
  cases i <;> simp only [controlCode, Option.some.injEq, Prod.mk.injEq, reduceCtorEq] at h <;> obtain ⟨rfl, rfl⟩ := h
  case unknownCommand c q =>
    simp only [Instr.wellFormed, Bool.and_eq_true, decide_eq_true_eq, Bool.not_eq_true', payloadFits] at hw
    obtain ⟨⟨hc, hn⟩, hp⟩ := hw
    exact ⟨controlCommand_unknown hn q, hc, hp⟩
  all_goals exact ⟨rfl, by decide, of_decide_eq_true hw⟩

/-- A command that a control frame carries is CMI's taking of it (R184). -/
theorem exec_of_controlCode {i : Instr} (h : (controlCode i).isSome = true) (s : State) :
    exec i s = .next (takeInstr i s) := by
  cases i <;> simp only [controlCode, Option.isSome_none, Bool.false_eq_true] at h <;> rfl

theorem sum16_lt (b : List Byte) : sum16 b < 65536 := Nat.mod_lt _ (by decide)

/-- A number in two bytes reads back (R206). -/
theorem at2_append_enc2 (b : List Byte) {x : Nat} (h : x < 65536) : at2 (b ++ enc2 x) b.length = x := by
  have high : ((b ++ enc2 x).getD b.length 0).toNat = x / 256 := by
    simp [List.getD_eq_getElem?_getD, enc2]; omega
  have low : ((b ++ enc2 x).getD (b.length + 1) 0).toNat = x % 256 := by
    simp [List.getD_eq_getElem?_getD, enc2]
  rw [at2, at1, at1, high, low]
  omega

/-- The bytes of a control frame before its sum (R183, 12.2). -/
def controlBody (unit code : Nat) (p : List Byte) : List Byte :=
  0x6B#8 :: BitVec.ofNat 8 unit :: BitVec.ofNat 8 code :: BitVec.ofNat 8 p.length :: p

theorem controlFrameBytes_eq (unit code : Nat) (p : List Byte) :
    controlFrameBytes unit code p = controlBody unit code p ++ enc2 (sum16 (controlBody unit code p)) := rfl

theorem controlFrameBytes_length (unit code : Nat) (p : List Byte) :
    (controlFrameBytes unit code p).length = p.length + 6 := by
  simp [controlFrameBytes_eq, controlBody, enc2]

section
variable {unit code : Nat} {p : List Byte} (hp : p.length ≤ 200)
include hp

theorem controlFrameBytes_lengthByte : at1 (controlFrameBytes unit code p) 3 = p.length := by
  simp only [at1, controlFrameBytes_eq, controlBody, List.cons_append, List.getD_cons_succ, List.getD_cons_zero,
    BitVec.toNat_ofNat]
  omega

/-- The frame of a command has a control frame's form (R183). -/
theorem wellFormedFrame_controlFrameBytes : wellFormedFrame (controlFrameBytes unit code p) = true := by
  have before : (controlBody unit code p).length = 4 + p.length := by simp [controlBody]; omega
  have body : (controlFrameBytes unit code p).take (4 + p.length) = controlBody unit code p := by
    rw [controlFrameBytes_eq, ← before, List.take_left]
  have sum : at2 (controlFrameBytes unit code p) (4 + p.length) = sum16 (controlBody unit code p) := by
    rw [controlFrameBytes_eq, ← before, at2_append_enc2 _ (sum16_lt _)]
  have len : p.length + 6 - 1 = 5 + p.length := by omega
  simp [wellFormedFrame, controlFrameBytes_lengthByte hp, controlFrameBytes_length, body, sum, len, hp]

/-- The frame of a command carries it (R206, 12.2). -/
theorem frameCommand_controlFrameBytes {i : Instr} (hcode : code ≤ 255) (h : controlCommand code p = i) :
    frameCommand (controlFrameBytes unit code p) = i := by
  have code2 : at1 (controlFrameBytes unit code p) 2 = code := by
    simp only [at1, controlFrameBytes_eq, controlBody, List.cons_append, List.getD_cons_succ, List.getD_cons_zero,
      BitVec.toNat_ofNat]
    omega
  rw [frameCommand, controlFrameBytes_lengthByte hp, code2, ← h]
  simp [controlFrameBytes_eq, controlBody]
end

/-! ### What CMI and SRX make of the frames (R18, R183) -/

/-- A control frame whose bytes have no control frame's form is a BAD FRAME (R183). -/
theorem receiveControl_bad {b : List Byte} {n : Nat} (hn : n = (b.getD 3 0).toNat)
    (h : b.length < 6 ∨ 200 < n ∨ b.length ≠ n + 6 ∨
      (b.getD (4 + n) 0).toNat * 256 + (b.getD (5 + n) 0).toNat ≠ ((b.take (4 + n)).map BitVec.toNat).sum % 65536)
    (s : State) : receiveControl b s = setSticky (fun f => { f with badFrame := true }) s := by
  have len : at1 b 3 = n := hn.symm
  have sum : at2 b (4 + n) = (b.getD (4 + n) 0).toNat * 256 + (b.getD (5 + n) 0).toNat := by
    rw [at2, at1, at1, show 4 + n + 1 = 5 + n by omega]
  have bad : wellFormedFrame b = false := by
    simp only [wellFormedFrame, len, sum, sum16, Bool.and_eq_false_iff, decide_eq_false_iff_not, beq_eq_false_iff_ne]
    omega
  simp [receiveControl, bad]

theorem map_value_map (l : List Byte) : (l.map fun b => ({ value := b } : RxByte)).map (·.value) = l := by
  simp [Function.comp_def]

/-- A control frame of at most 513 bytes reaches CMI whole, and is recorded with its byte count (R28, R183). -/
theorem controlFrame_eq {rest : List Byte} (h : rest.length ≤ 512) (s : State) :
    controlFrame { value := 0x6B } (rest.map fun b => { value := b }) s =
      receiveControl (0x6B :: rest) (s.setSrx { s.srx with lastFrame := ⟨.control, rest.length, false, false⟩ }) := by
  have count : byteCount (rest.map fun b => ({ value := b } : RxByte)) = rest.length := by
    simp [byteCount, h]
  rw [controlFrame, recordFrame, count, List.take_of_length_le (by simpa using h), map_value_map]

/-- An other frame is recorded, and held while the output runs (R18, R28, R34). -/
theorem otherFrame_eq (start : Byte) (rest : List Byte) (s : State) :
    otherFrame { value := start } (rest.map fun b => { value := b }) s =
      holdOther (start.toNat :: (rest.take 512).map BitVec.toNat)
        ((s.setSrx { s.srx with
            lastFrame := ⟨.other, min rest.length 512, false, decide (512 < rest.length)⟩ }).setCmi
          { s.cmi with
            sticky := { s.cmi.sticky with long := s.cmi.sticky.long || decide (512 < rest.length) } }) := by
  have levels : ((rest.map fun b => ({ value := b } : RxByte)).take 512).map levelOf =
      (rest.take 512).map BitVec.toNat := by
    rw [← List.map_take, List.map_map]
    rfl
  simp only [otherFrame, levels, recordFrame, byteCount, List.length_map, setLength, setSticky, Bool.or_false]
  rfl

/-- An empty level frame is discarded as short (R20, R28). -/
theorem levelFrame_nil (s : State) : levelFrame [] s =
    ((s.setSrx { s.srx with lastFrame := ⟨.discarded, 0, true, false⟩ }).setCmi
        { s.cmi with sticky := { s.cmi.sticky with short := true } }).setCrg
      (if (cuePair s.tbs.active.slot).isSome = true then { s.crg with previous := none } else s.crg) := by
  rw [levelFrame, if_pos (by rfl), discardReported_eq]
  simp [setLength, setSticky, recordFrame, byteCount]

/-- A frame with a framing error is discarded (R19). -/
theorem judgeFrame_framing {start : RxByte} {rest : List RxByte} (h : ∃ b ∈ start :: rest, b.framing = true)
    (s : State) : judgeFrame start rest s = framingFrame start rest s :=
  if_pos (List.any_eq_true.mpr h)

theorem framingFrame_eq (start : RxByte) (rest : List RxByte) (s : State) : framingFrame start rest s =
    ((s.setSrx { s.srx with lastFrame := ⟨.discarded, min rest.length 512, false, false⟩ }).setCmi
        { s.cmi with sticky := { s.cmi.sticky with framing := true } }).setCrg
      (if start.framing = false ∧ start.value = 0 ∧ (cuePair s.tbs.active.slot).isSome = true then
        { s.crg with previous := none }
      else s.crg) := by
  unfold framingFrame
  dsimp only
  split
  · next h =>
    rw [discardReported_eq]
    simp only [h, true_and]
    rfl
  · next h =>
    rw [if_neg fun hall => h ⟨hall.1, hall.2.1⟩]
    rfl

section
variable {s : State} (hs : Running s) (hr : s.srx.receiving = true) (hc : s.cmi.reply = none)
include hs hr hc

/-- A control frame for this unit comes to CMI (R18, R28, R183). -/
theorem exec_controlFrame {second : Byte} {rest : List Byte} (hu : s.unit = some second.toNat)
    (h : rest.length ≤ 511) :
    exec (.inputFrameEnd ((0x6B :: second :: rest).map fun b => { value := b })) s =
      .next (receiveControl (0x6B :: second :: rest) (s.setSrx
        { s.srx with receiving := false, lastFrame := ⟨.control, rest.length + 1, false, false⟩ })) := by
  have judged := judgeFrame_control (s := s.setSrx { s.srx with receiving := false }) (rest := rest) hu
  rw [List.map_cons, exec_inputFrameEnd hs hr hc, judged, controlFrame_eq (by simpa using Nat.lt_succ_of_le h)]
  rfl

/-- An other frame is held while the output runs, and dropped otherwise (R18, R28, R34). -/
theorem exec_otherFrame {start : Byte} {rest : List Byte} (h0 : start ≠ 0)
    (hu : start = 0x6B → s.unit = none ∨ (rest.head?.map BitVec.toNat) ≠ s.unit) :
    exec (.inputFrameEnd ((start :: rest).map fun b => { value := b })) s =
      .next (holdOther (start.toNat :: (rest.take 512).map BitVec.toNat)
        ((s.setSrx { s.srx with
            receiving := false
            lastFrame := ⟨.other, min rest.length 512, false, decide (512 < rest.length)⟩ }).setCmi
          { s.cmi with
            sticky := { s.cmi.sticky with long := s.cmi.sticky.long || decide (512 < rest.length) } })) := by
  have judged := judgeFrame_other (s := s.setSrx { s.srx with receiving := false }) h0 hu
  rw [List.map_cons, exec_inputFrameEnd hs hr hc, judged, otherFrame_eq]
  rfl
end

/-- Settles O14: a frame's end during a reply, and the sorting of the frames. -/
theorem controlAndOtherFramesAreSorted : Obligations.ControlAndOtherFramesAreSorted := by
  intro s hs hr
  refine ⟨fun hc frame => exec_inputFrameEnd_replying hs hr hc frame, fun hc => ⟨?_, fun start rest h => ?_,
    fun i code u p hu hu254 hcode hw => ?_, fun b n h2 h513 hstart hu hn hbad => ?_,
    fun start rest u h0 hu hu' => ?_⟩⟩
  case refine_1 =>
    rw [levelBytes, List.map_cons, exec_inputFrameEnd hs hr hc, judgeFrame_level,
      List.map_nil, levelFrame_nil]
    rfl
  case refine_2 =>
    rw [exec_inputFrameEnd hs hr hc, judgeFrame_framing h, framingFrame_eq]
    rfl
  case refine_3 =>
    obtain ⟨hcommand, hcode255, hp⟩ := controlCommand_of_controlCode hcode hw
    have hunit : s.unit = some (BitVec.ofNat 8 u).toNat := by
      rw [hu, BitVec.toNat_ofNat, Nat.mod_eq_of_lt (by omega)]
    have hlen := controlFrameBytes_length u code p
    have hgood := wellFormedFrame_controlFrameBytes (unit := u) (code := code) hp
    have hframe := frameCommand_controlFrameBytes (unit := u) hp hcode255 hcommand
    obtain ⟨rest, hbytes⟩ : ∃ rest, controlFrameBytes u code p = 0x6B :: BitVec.ofNat 8 u :: rest := ⟨_, rfl⟩
    rw [hbytes] at hlen hgood hframe ⊢
    simp only [List.length_cons] at hlen
    rw [exec_controlFrame hs hr hc hunit (by omega), receiveControl, if_pos hgood, hframe,
      ← exec_of_controlCode (by simp [hcode]), show rest.length + 1 = p.length + 5 by omega]
  case refine_4 =>
    obtain ⟨first, second, rest, rfl⟩ : ∃ x y l, b = x :: y :: l := by
      match b, h2 with
      | x :: y :: l, _ => exact ⟨x, y, l, rfl⟩
    obtain rfl : first = 0x6B := hstart
    simp only [List.length_cons] at h513
    rw [exec_controlFrame (second := second) hs hr hc hu (by omega), receiveControl_bad hn hbad]
    rfl
  case refine_5 =>
    have judged := exec_otherFrame hs hr hc h0 hu
    rw [← hu'] at judged
    have hfbl : u.fbl = s.fbl := by rw [hu']; rfl
    refine ⟨fun hrun => judged.trans ?_, fun hrun => judged.trans ?_⟩
    · rw [holdOther, hfbl, if_pos hrun]
    · rw [holdOther, hfbl, if_neg (by simp [hrun])]

end Sys2Proof.Machine
end

section
/-! A good level frame (R20 to R26, R31, R32, R62, R63): the check of its length, the records it changes, the stream
state that it brings, and what CRG is told. -/

namespace Sys2Proof.Machine

/-! ### The check of the length (R20) -/

/-- The check of a level frame's length: the slots that count, those taken, short and long (R20). -/
theorem checkLength_eq (expected : Option Nat) (rest : List RxByte) {k : Nat} (hk : k = min rest.length 512) :
    checkLength expected rest = ⟨k, min k (expected.getD 512), decide (k < expected.getD 0),
      decide (expected.getD 512 < k) || decide (512 < rest.length)⟩ := by
  have hbound : k ≤ 512 := by omega
  cases expected with
  | none => simp [checkLength, byteCount, ← hk, hbound]
  | some e => simp [checkLength, byteCount, ← hk]

/-- CMI's record with SHORT and LONG of a level frame (R20). -/
def Control.lengthNoted (short long : Bool) (y : Control) : Control :=
  { y with sticky := { y.sticky with short := y.sticky.short || short, long := y.sticky.long || long } }

theorem setLength_eq (short long : Bool) (s : State) :
    setLength short long s = s.setCmi (s.cmi.lengthNoted short long) := rfl

/-! ### The records of a frame that is taken (R21, R28) -/

/-- The stream record with the slots taken from a level frame (R21, R24, R25, R28). -/
def Stream.taken (slots : List Byte) (v : Nat) (frame : LastFrame) (now : Nat) (x : Stream) : Stream :=
  { x with
    table := (slots.take v).map BitVec.toNat ++ x.table.drop v
    valid := v
    lastGood := now
    idleRef := now
    lastFrame := frame }

/-- A slot that is taken stands in the level table (R21). -/
theorem slotLevel_taken {slots : List Byte} {v n : Nat} (h1 : 1 ≤ n) (hn : n ≤ v) (hv : v ≤ slots.length)
    (frame : LastFrame) (now : Nat) (x : Stream) :
    slotLevel (x.taken slots v frame now).table n = (slots.getD (n - 1) 0).toNat := by
  have hlt : n - 1 < slots.length := by omega
  have htake : n - 1 < ((slots.take v).map BitVec.toNat).length := by simp; omega
  rw [slotLevel_of_pos _ h1, Stream.taken, List.getD_append _ _ _ _ htake]
  simp [List.getD_eq_getElem?_getD, hlt, show n - 1 < v by omega]

theorem takeLevels_eq (c : LengthCheck) (slots : List Byte) (s : State) :
    takeLevels c (slots.map fun b => { value := b }) s = frameReported c.received (streamGood
      (s.setSrx (s.srx.taken slots c.taken ⟨.level, min slots.length 512, c.short, c.long⟩ s.time))) := by
  have levels : ((slots.map fun b => ({ value := b } : RxByte)).take c.taken).map levelOf =
      (slots.take c.taken).map BitVec.toNat := by
    rw [← List.map_take, List.map_map]
    rfl
  simp only [takeLevels, writeTable, levels, recordFrame, byteCount, List.length_map]
  rfl

/-! ### The stream state (R23, R24, R26) -/

section
variable {s : State}

theorem streamGood_ok (h : s.srx.state = .ok) : streamGood s = s.setSrx { s.srx with state := .ok } := by
  simp only [streamGood, h]
  rw [← h, State.setSrx_self]

theorem streamGood_lost (h : s.srx.state = .lost) : streamGood s = post .streamRestored 0 (some 2)
    (s.setSrx { s.srx with state := .ok, wakePending := false, discardOwed := false }) := by
  simp only [streamGood, h]
  rfl

theorem streamGood_noStream (h : s.srx.state = .noStream) : streamGood s = fblStart false (post .streamStarted 0 none
    (s.setSrx { s.srx with state := .ok, wakePending := false, discardOwed := false })) := by
  simp only [streamGood, h]

theorem streamGood_quiet (h : s.srx.state = .quiet) : streamGood s = fblStart false (post .streamAwake 0 (some 1)
    (s.setSrx { s.srx with state := .ok, wakePending := false, discardOwed := false })) := by
  simp only [streamGood, h]

/-- A stopped output runs from its first build (R31). -/
theorem fblStart_of_stopped (h : s.fbl.running = false) (cutBefore : Bool) : fblStart cutBefore s =
    (s.setHlu { s.hlu with circuits := s.hlu.circuits.map (Circuit.sent s) }).setFbl
      { s.fbl with
        running := true
        expiry := some (s.time + 25)
        lastOther := false
        frame := if frameSlots s = 0 then (if cutBefore then none else s.fbl.frame)
          else some ⟨false, s.time, buildLevels s, cutBefore⟩ } := by
  rw [fblStart, if_neg (by simp [h])]
  rfl

/-- A build changes a circuit's record in its last sent level alone (R54). -/
theorem Circuit.sent_lastSent (s : State) (c : Circuit) : { c.sent s with lastSent := 0 } = { c with lastSent := 0 } := by
  unfold Circuit.sent
  split <;> rfl
end

/-! ### What CRG is told (R62, R63) -/

section
variable {slots : List Byte} {k v h l now : Nat} {frame : LastFrame} {x : Stream} {u : State}

theorem frameReported_of_no_pair (hp : cuePair u.tbs.active.slot = none) : frameReported k u = u := by
  simp only [frameReported, hp]

/-- A frame whose cue pair's slots were both taken is counted (R62). -/
theorem frameReported_counted (hp : cuePair u.tbs.active.slot = some (h, l)) (hok : u.srx.state = .ok)
    (htable : u.srx.table = (x.taken slots v frame now).table) (hv : v ≤ slots.length) (hvk : v ≤ k) (h1 : 1 ≤ h)
    (hh : h ≤ v) (l1 : 1 ≤ l) (hl : l ≤ v) : frameReported k u =
      countFrame ((slots.getD (h - 1) 0).toNat * 256 + (slots.getD (l - 1) 0).toNat) u := by
  have both : max h l ≤ k := by omega
  simp only [frameReported, hp, hok, both, and_self, if_true, htable, slotLevel_taken h1 hh hv,
    slotLevel_taken l1 hl hv]

/-- A frame too short for the cue pair breaks it (R63). -/
theorem frameReported_short (hp : cuePair u.tbs.active.slot = some (h, l)) (hk : k < h ∨ k < l) :
    frameReported k u = u.setCrg { u.crg with previous := none } := by
  have short : ¬ (u.srx.state = .ok ∧ max h l ≤ k) := by omega
  simp only [frameReported, hp, short, if_false]
  rfl
end

/-! ### The frame's end (R20, R21, R26) -/

theorem goodFrame_taken {s : State} (h : s.srx.state ≠ .quiet ∨ (s.srx.wakePending = true ∧ s.srx.discardOwed = false))
    (c : LengthCheck) (rest : List RxByte) : goodFrame c rest s = takeLevels c rest s := by
  unfold goodFrame
  split
  · next hq =>
    obtain ⟨hw, hd⟩ := h.resolve_left (not_not.mpr hq)
    rw [wakeBreak_of_awake (.inr hw), if_neg (by simp [hd])]
  · rfl

/-- A discarded level frame is recorded, the discard is done, and CRG is told (R26, R28, R63). -/
theorem wakeDiscard_eq (c : LengthCheck) (slots : List Byte) (s : State) :
    wakeDiscard c (slots.map fun b => { value := b }) s =
      (s.setSrx { s.srx with
        discardOwed := false, lastFrame := ⟨.discarded, min slots.length 512, c.short, c.long⟩ }).setCrg
      (if (cuePair s.tbs.active.slot).isSome = true then { s.crg with previous := none } else s.crg) := by
  rw [wakeDiscard, discardReported_eq]
  simp [recordFrame, byteCount]

theorem goodFrame_discarded {s : State} (hq : s.srx.state = .quiet) (h : (wakeBreak s).srx.discardOwed = true)
    (c : LengthCheck) (rest : List RxByte) : goodFrame c rest s = wakeDiscard c rest (wakeBreak s) := by
  rw [goodFrame, if_pos hq, if_pos h]

/-- A level frame of one slot or more comes to the check of its length (R18, R20). -/
theorem exec_levelFrame {s : State} (hs : Running s) (hr : s.srx.receiving = true) (hc : s.cmi.reply = none)
    {slots : List Byte} (h1 : 1 ≤ slots.length) {c : LengthCheck}
    (hcheck : checkLength (expectedLength? s.tbs.active.slot) (slots.map fun b => { value := b }) = c) :
    exec (.inputFrameEnd (levelBytes slots)) s = .next (goodFrame c (slots.map fun b => { value := b })
      ((s.setSrx { s.srx with receiving := false }).setCmi (s.cmi.lengthNoted c.short c.long))) := by
  have filled : ¬ (slots.map fun b => ({ value := b } : RxByte)).isEmpty = true := by
    simp [List.ne_nil_of_length_pos h1]
  rw [levelBytes, List.map_cons, exec_inputFrameEnd hs hr hc, judgeFrame_level, levelFrame, if_neg filled]
  simp only [State.setSrx_tbs, hcheck, setLength_eq, State.setSrx_cmi]

/-- Settles O13: the length check, the stream state that the frame finds, and the report to CRG. -/
theorem goodLevelFrameIsTaken : Obligations.GoodLevelFrameIsTaken := by
  intro slots k v short long x y s hs hr hc h1 hk hv hshort hlong hx hy
  have hcheck : checkLength (expectedLength? s.tbs.active.slot) (slots.map fun b => { value := b }) =
      ⟨k, v, short, long⟩ := by
    rw [checkLength_eq _ _ (by simpa using hk), hv, hshort, hlong, List.length_map]
  have came := exec_levelFrame hs hr hc h1 hcheck
  have hvk : v ≤ k := by omega
  have hvs : v ≤ slots.length := by omega
  have hnoted : s.cmi.lengthNoted short long = y := hy.symm
  rw [hnoted] at came
  refine ⟨fun report hreport => ?_, fun crg hcrg => ?_⟩
  case refine_1 =>
    have told (u : State) (hok : u.srx.state = .ok) (htbs : u.tbs = s.tbs) (htable : u.srx.table = x.table) :
        frameReported k u = report u := by
      rw [← htbs] at hreport
      rcases hreport with ⟨hp, rfl⟩ | ⟨h, l, hp, h1, hh, l1, hl, rfl⟩ | ⟨h, l, hp, hshort, rfl⟩
      · exact frameReported_of_no_pair hp
      · exact frameReported_counted (x := s.srx) (frame := x.lastFrame) (now := s.time) hp hok
          (by rw [htable, hx]; rfl) hvs hvk h1 hh l1 hl
      · exact frameReported_short hp hshort
    obtain ⟨w, hw⟩ : ∃ w, w = (s.setSrx { x with state := s.srx.state }).setCmi y := ⟨_, rfl⟩
    have taken (h : s.srx.state ≠ .quiet ∨ (s.srx.wakePending = true ∧ s.srx.discardOwed = false)) :
        exec (.inputFrameEnd (levelBytes slots)) s = .next (frameReported k (streamGood w)) := by
      rw [came, goodFrame_taken (s := (s.setSrx { s.srx with receiving := false }).setCmi y) h, takeLevels_eq, hw,
        hx, hk]
      rfl
    have hstate : w.srx.state = s.srx.state := by rw [hw]; rfl
    have hnew (a b : Bool) : w.setSrx { w.srx with state := .ok, wakePending := a, discardOwed := b } =
        (s.setSrx { x with wakePending := a, discardOwed := b }).setCmi y := by rw [hw, hx]; rfl
    refine ⟨fun hok => ?_, fun hlost => ?_, fun w' hrun hw' => ?_⟩
    · rw [taken (.inl (by simp [hok])), streamGood_ok (hstate.trans hok), told _ rfl (by simp [hw]) (by simp [hw])]
      rw [hw, hx]
      rfl
    · rw [taken (.inl (by simp [hlost])), streamGood_lost (hstate.trans hlost), hnew,
        told _ (by simp [hx]) (by simp) (by simp)]
    · have started : exec (.inputFrameEnd (levelBytes slots)) s = .next (frameReported k (fblStart false w')) := by
        rcases hw' with ⟨hno, rfl⟩ | ⟨hq, hp, hd, rfl⟩
        · rw [taken (.inl (by simp [hno])), streamGood_noStream (hstate.trans hno), hnew]
        · rw [taken (.inr ⟨hp, hd⟩), streamGood_quiet (hstate.trans hq), hnew]
      obtain ⟨hsrx, htbs, hfbl, hhlu, htime⟩ : w'.srx = { x with wakePending := false, discardOwed := false } ∧
          w'.tbs = s.tbs ∧ w'.fbl = s.fbl ∧ w'.hlu = s.hlu ∧ w'.time = s.time := by
        rcases hw' with ⟨-, rfl⟩ | ⟨-, -, -, rfl⟩ <;> simp
      have runs := fblStart_of_stopped (s := w') (by rw [hfbl, hrun]) false
      rw [told (fblStart false w') (by rw [runs]; simp [hsrx, hx]) (by rw [runs]; exact htbs)
        (by rw [runs]; simp [hsrx])] at started
      refine ⟨_, started, ?_, ?_, ?_, ?_⟩
      · rw [runs]
        rfl
      · simp [runs, hhlu]
      · simp only [runs, State.setFbl_hlu, State.setHlu_hlu, List.map_map, hhlu]
        exact List.map_congr_left fun c _ => c.sent_lastSent w'
      · simp [runs, hfbl, htime]
  case refine_2 =>
    obtain ⟨u, hu⟩ : ∃ u, u = (s.setSrx { s.srx with receiving := false }).setCmi y := ⟨_, rfl⟩
    rw [← hu] at came
    refine ⟨fun hq hw hd => ?_, fun hq hw => ?_⟩
    · have awake : wakeBreak u = u := wakeBreak_of_awake (.inr (by rw [hu]; exact hw))
      rw [came, goodFrame_discarded (by rw [hu]; exact hq) (by rw [awake, hu]; exact hd), awake, wakeDiscard_eq, hu,
        hcrg, hk]
      rfl
    · have woken := wakeBreak_of_quiet (s := u) (by rw [hu]; exact hq) (by rw [hu]; exact hw)
      rw [came, goodFrame_discarded (by rw [hu]; exact hq) (by rw [woken]; simp), woken, wakeDiscard_eq]
      simp only [post_setSrx, State.setSrx_setSrx, State.setSrx_srx, State.setSrx_tbs, State.setSrx_crg, post_tbs,
        post_crg, hcrg]
      rw [hu, hk, ← post_setSrx]
      rfl

end Sys2Proof.Machine
end

section
/-! CTC's operations at every curtain (R114, R132, R134, R135, R145): they change curtain records and hand drive commands
to LPC; and, where each number stands once, what each leaves in the records and hands over. -/

namespace Sys2Proof.Machine

/-! ### Drive commands handed to LPC (R123, R178) -/

/-- Drive commands are handed to LPC, each for an address. -/
def handAll (ds : List (Nat × DriveCmd)) (s : State) : State := ds.foldl (fun u d => issue d.1 (.drive d.2) u) s

/-- An outstation record takes those of the drive commands that are for its address. -/
def Station.handed (st : Station) (ds : List (Nat × DriveCmd)) : Station :=
  ds.foldl (fun st d => if st.address = d.1 then st.handOver (.drive d.2) else st) st

theorem Station.handOver_address (st : Station) (c : LoopCmd) : (st.handOver c).address = st.address := by
  unfold Station.handOver
  split
  · rfl
  · split <;> rfl

theorem Station.handOver_kind (st : Station) (c : LoopCmd) : (st.handOver c).kind = st.kind := by
  unfold Station.handOver
  split
  · rfl
  · split <;> rfl

theorem Station.handOver_of_not_takenBy {st : Station} {c : LoopCmd} (h : c.takenBy st.kind = false) :
    st.handOver c = st := by
  simp [Station.handOver, h]

theorem takenBy_drive {k : StationKind} (h : k ≠ .curtainUnit) (d : DriveCmd) : (LoopCmd.drive d).takenBy k = false := by
  cases k with
  | curtainUnit => exact absurd rfl h
  | _ => rfl

theorem handAll_append (ds es : List (Nat × DriveCmd)) (s : State) :
    handAll (ds ++ es) s = handAll es (handAll ds s) := List.foldl_append ..

theorem handAll_eq (ds : List (Nat × DriveCmd)) (s : State) : handAll ds s =
    s.setLpc { s.lpc with stations := s.lpc.stations.map (·.handed ds) } := by
  induction ds generalizing s with
  | nil =>
    have same : s.lpc.stations.map (·.handed []) = s.lpc.stations := List.map_id _
    rw [same]
    rfl
  | cons d ds ih =>
    refine (ih _).trans ?_
    simp only [issue, State.setLpc_setLpc, State.setLpc_lpc, List.map_map]
    rfl

theorem handAll_setCtc (ds : List (Nat × DriveCmd)) (s : State) (x : Curtains) :
    handAll ds (s.setCtc x) = (handAll ds s).setCtc x := by
  rw [handAll_eq, handAll_eq]
  rfl

/-- Only drive units take drive commands (R178). -/
theorem Station.handed_of_kind {st : Station} (h : st.kind ≠ .curtainUnit) (ds : List (Nat × DriveCmd)) :
    st.handed ds = st := by
  refine List.foldl_fixed' (fun d => ?_) ds
  split
  · exact Station.handOver_of_not_takenBy (takenBy_drive h _)
  · rfl

theorem Station.handed_kind (st : Station) (ds : List (Nat × DriveCmd)) : (st.handed ds).kind = st.kind := by
  induction ds generalizing st with
  | nil => rfl
  | cons d ds ih =>
    refine (ih _).trans ?_
    dsimp only
    split
    · exact Station.handOver_kind _ _
    · rfl

/-- `t` is `s` with other curtain records, and with drive commands handed to LPC. -/
def Driven (s t : State) : Prop := ∃ ds l, t = (handAll ds s).setCtc { s.ctc with curtains := l }

theorem Driven.refl (s : State) : Driven s s := ⟨[], s.ctc.curtains, rfl⟩

theorem Driven.trans {s t u : State} (h : Driven s t) (k : Driven t u) : Driven s u := by
  obtain ⟨ds, l, rfl⟩ := h
  obtain ⟨es, m, rfl⟩ := k
  exact ⟨ds ++ es, m, by rw [handAll_setCtc, handAll_append]; rfl⟩

theorem driven_foldl {α : Type} {f : State → α → State} (hf : ∀ s a, Driven s (f s a)) (l : List α) (s : State) :
    Driven s (l.foldl f s) :=
  foldl_kept l (fun _ _ h => h.trans (hf _ _)) s (.refl s)

section
variable {s t : State} (h : Driven s t)
include h

theorem Driven.sameCore : SameCore s t := by
  obtain ⟨ds, l, rfl⟩ := h
  rw [handAll_eq]
  constructor <;> rfl

theorem Driven.sameEvents : SameEvents t s := by
  obtain ⟨ds, l, rfl⟩ := h
  rw [handAll_eq]
  constructor <;> rfl

theorem Driven.clc : t.clc = s.clc := by
  obtain ⟨ds, l, rfl⟩ := h
  rw [handAll_eq]
  rfl

theorem Driven.demo : t.ctc.demo = s.ctc.demo := by
  obtain ⟨ds, l, rfl⟩ := h
  rfl

/-- An outstation that is no drive unit keeps its record. -/
theorem Driven.mem_stations {st : Station} (hst : st ∈ s.lpc.stations) (hk : st.kind ≠ .curtainUnit) :
    st ∈ t.lpc.stations := by
  obtain ⟨ds, l, rfl⟩ := h
  rw [handAll_eq]
  exact List.mem_map.mpr ⟨st, hst, Station.handed_of_kind hk ds⟩

/-- The announcement unit's record is kept. -/
theorem Driven.find_announcer {st : Station} (hst : s.lpc.stations.find? (·.kind == .announcer) = some st) :
    t.lpc.stations.find? (·.kind == .announcer) = some st := by
  obtain ⟨ds, l, rfl⟩ := h
  have hk : st.kind = .announcer := by simpa using List.find?_some hst
  have found : (s.lpc.stations.map fun x => x.handed ds).find? (·.kind == .announcer) = some (st.handed ds) := by
    simp only [List.find?_map, Function.comp_def, Station.handed_kind, hst, Option.map_some]
  rw [handAll_eq]
  exact found.trans (by rw [Station.handed_of_kind (by simp [hk])])
end

/-! ### What CTC's operations change -/

section
variable (n : Nat) (s : State)

theorem modCurtain_driven (f : Curtain → Curtain) : Driven s (modCurtain n f s) := ⟨[], _, rfl⟩

theorem issueDrive_driven (cmd : DriveCmd) : Driven s (issueDrive n cmd s) := by
  unfold issueDrive
  split
  · exact .refl s
  · next c _ =>
    split
    · exact .refl s
    · exact ⟨[(c.unit, cmd)], _, rfl⟩

theorem yieldIfHeld_driven : Driven s (yieldIfHeld n s) := by
  unfold yieldIfHeld
  split
  · exact .refl s
  · split
    · exact issueDrive_driven n s .yield
    · exact .refl s

theorem segmentEnded_driven : Driven s (segmentEnded n s) := by
  unfold segmentEnded
  dsimp only
  split
  · exact .refl s
  · split
    · split
      · exact (modCurtain_driven n s _).trans (yieldIfHeld_driven n _)
      · exact modCurtain_driven n s _
    · exact .refl s

theorem endDemoSegment_driven : Driven s (endDemoSegment n s) :=
  (modCurtain_driven n s _).trans (segmentEnded_driven n _)

theorem stopRaising_driven : Driven s (stopRaising n s) := by
  unfold stopRaising
  split
  · split
    · exact ((issueDrive_driven n s _).trans (modCurtain_driven n _ _)).trans (segmentEnded_driven n _)
    · split
      · exact issueDrive_driven n s _
      · exact .refl s
  · exact .refl s

theorem evacuateCurtain_driven : Driven s (evacuateCurtain n s) := by
  unfold evacuateCurtain
  dsimp only
  split
  · exact .refl s
  · split
    · exact (stopRaising_driven n s).trans (modCurtain_driven n _ _)
    · exact (modCurtain_driven n s _).trans (issueDrive_driven n _ _)

theorem restartCurtain_driven : Driven s (restartCurtain n s) := by
  unfold restartCurtain
  dsimp only
  split
  · exact .refl s
  · split
    · exact (modCurtain_driven n s _).trans (issueDrive_driven n _ _)
    · split
      · exact (modCurtain_driven n s _).trans (issueDrive_driven n _ _)
      · exact modCurtain_driven n s _
end

/-! ### One curtain's record, where its number stands once -/

/-- A hold that waits at the end of a segment is to be issued YIELD (R131, R132). -/
abbrev Curtain.owesYield (c : Curtain) : Prop :=
  c.holdWaiting ∧ c.lastHold ∧ c.ownership = .implicit ∧ c.release ≠ .sent

/-- A curtain's record after the end of a segment (R132). -/
def Curtain.afterSegment (c : Curtain) : Curtain :=
  { c with holdWaiting := false, outstanding := if c.owesYield then some .yield else c.outstanding }

/-- What the end of a segment hands over (R131, R132). -/
def Curtain.segmentDrives (c : Curtain) : List DriveCmd :=
  if c.owesYield ∧ c.outstanding ≠ some .yield then [.yield] else []

theorem Curtain.afterSegment_of_owes {c : Curtain} (h : c.owesYield) :
    c.afterSegment = { c with holdWaiting := false, outstanding := some .yield } := by
  rw [Curtain.afterSegment, if_pos h]

theorem Curtain.afterSegment_of_not_owes {c : Curtain} (h : ¬ c.owesYield) :
    c.afterSegment = { c with holdWaiting := false } := by
  rw [Curtain.afterSegment, if_neg h]

theorem Curtain.segmentDrives_of_not_owes {c : Curtain} (h : ¬ c.owesYield) : c.segmentDrives = [] :=
  if_neg fun hc => h hc.1

/-- The record of `c` is replaced by `y`, and drive commands are handed over for its unit. -/
def State.acted (s : State) (c y : Curtain) (ds : List DriveCmd) : State :=
  (handAll (ds.map (c.unit, ·)) s).setCtc
    { s.ctc with curtains := s.ctc.curtains.map fun z => if z.number = c.number then y else z }

/-- Where each key stands once, a member is the one found by its key. -/
theorem find?_of_nodup {α : Type} {key : α → Nat} {l : List α} (h : (l.map key).Nodup) {c : α} (hc : c ∈ l) :
    l.find? (fun x => key x == key c) = some c := by
  obtain ⟨x, hx⟩ : ∃ x, l.find? (fun x => key x == key c) = some x :=
    Option.isSome_iff_exists.mp (List.find?_isSome.mpr ⟨c, hc, by simp⟩)
  have hn : key x = key c := by simpa using List.find?_some hx
  rw [hx, List.inj_on_of_nodup_map h (List.mem_of_find?_eq_some hx) hc hn]

section
variable {s : State} {c y : Curtain} {ds : List DriveCmd}

theorem acted_self (h : (s.ctc.curtains.map (·.number)).Nodup) (hc : c ∈ s.ctc.curtains) : s.acted c c [] = s := by
  have same : s.ctc.curtains.map (fun z => if z.number = c.number then c else z) = s.ctc.curtains := by
    refine (List.map_congr_left fun z hz => ?_).trans (List.map_id _)
    split
    · exact (List.inj_on_of_nodup_map h hz hc ‹_›).symm
    · rfl
  rw [State.acted, same]
  rfl

/-- Where each number stands once, a record is the one of its number. -/
theorem findCurtain_of_mem (h : (s.ctc.curtains.map (·.number)).Nodup) (hc : c ∈ s.ctc.curtains) :
    findCurtain s c.number = some c := find?_of_nodup h hc

variable (hc : findCurtain s c.number = some c) (hn : y.number = c.number)

include hn in
theorem modCurtain_acted (f : Curtain → Curtain) :
    modCurtain c.number f (s.acted c y ds) = s.acted c (f y) ds := by
  simp only [modCurtain, State.acted, State.setCtc_ctc, State.setCtc_setCtc, List.map_map]
  refine congrArg (State.setCtc _) (congrArg (Curtains.mk · _) (List.map_congr_left fun z _ => ?_))
  by_cases hz : z.number = c.number
  · simp [hz, hn]
  · simp [hz]

include hc hn

theorem findCurtain_acted : findCurtain (s.acted c y ds) c.number = some y := by
  have numbers : ((fun x : Curtain => x.number == c.number) ∘ fun z => if z.number = c.number then y else z) =
      (·.number == c.number) := by
    funext z
    by_cases hz : z.number = c.number
    · simp [hz, hn]
    · simp [hz]
  have found : s.ctc.curtains.find? (·.number == c.number) = some c := hc
  rw [findCurtain, State.acted, State.setCtc_ctc, List.find?_map, numbers, found, Option.map_some, if_pos rfl]

variable (hu : y.unit = c.unit)
include hu

/-- A command issued for the curtain (R123). -/
theorem issueDrive_acted (cmd : DriveCmd) : issueDrive c.number cmd (s.acted c y ds) =
    if y.release = .sent ∧ cmd ≠ .release then s.acted c y ds
    else s.acted c { y with outstanding := some cmd } (ds ++ [cmd]) := by
  simp only [issueDrive, findCurtain_acted hc hn, modCurtain_acted hn, hu]
  refine if_congr Iff.rfl rfl ?_
  rw [State.acted, State.acted, List.map_append, handAll_append]
  rfl

theorem yieldIfHeld_acted : yieldIfHeld c.number (s.acted c y ds) =
    if y.ownership = .implicit ∧ y.outstanding ≠ some .yield ∧ y.release ≠ .sent then
      s.acted c { y with outstanding := some .yield } (ds ++ [.yield])
    else s.acted c y ds := by
  simp only [yieldIfHeld, findCurtain_acted hc hn, issueDrive_acted hc hn hu]
  split
  · next h => rw [if_neg fun hs => h.2.2 hs.1]
  · rfl

/-- The end of a segment (R132). -/
theorem segmentEnded_acted : segmentEnded c.number (s.acted c y ds) =
    s.acted c y.afterSegment (ds ++ y.segmentDrives) := by
  simp only [segmentEnded, findCurtain_acted hc hn, modCurtain_acted hn]
  cases hw : y.holdWaiting with
  | false =>
    have idle : ¬ y.owesYield := fun h => absurd h.1 (by simp [hw])
    have same : y.afterSegment = y := by rw [Curtain.afterSegment_of_not_owes idle, ← hw]
    rw [same, Curtain.segmentDrives_of_not_owes idle, List.append_nil]
    rfl
  | true =>
    simp only [if_true, yieldIfHeld_acted (y := { y with holdWaiting := false }) hc hn hu]
    by_cases hy : y.owesYield
    · obtain ⟨-, hl, ho, hr⟩ := id hy
      rw [Curtain.afterSegment_of_owes hy, Curtain.segmentDrives, if_pos hl]
      by_cases hout : y.outstanding = some .yield
      · rw [if_neg (by simp [hout]), if_neg (by simp [hout]), List.append_nil, hout]
      · rw [if_pos ⟨ho, hout, hr⟩, if_pos ⟨hy, hout⟩]
    · rw [Curtain.afterSegment_of_not_owes hy, Curtain.segmentDrives_of_not_owes hy, List.append_nil]
      split
      · next hl => exact if_neg fun ⟨ho, _, hr⟩ => hy ⟨hw, hl, ho, hr⟩
      · rfl
end

/-! ### What each operation leaves and hands over -/

/-- A curtain's record after the STOP of a raising segment, before its end is examined (R123, R134). -/
def Curtain.raiseEnded (c : Curtain) : Curtain :=
  { c.endMotion with state := .stopped, outstanding := if c.release = .sent then c.outstanding else some .stop }

/-- A curtain's record, and what is handed over, where a raising segment is stopped (R134, R138). -/
def Curtain.raiseStopped (c : Curtain) : Curtain :=
  if c.motion.map (·.up) = some true then c.raiseEnded.afterSegment
  else if c.outstanding = some .raise ∧ c.release ≠ .sent then { c with outstanding := some .stop } else c

def Curtain.raiseStopDrives (c : Curtain) : List DriveCmd :=
  if c.motion.map (·.up) = some true then
    (if c.release = .sent then [] else [.stop]) ++ c.raiseEnded.segmentDrives
  else if c.outstanding = some .raise ∧ c.release ≠ .sent then [.stop] else []

/-- A curtain's record after the entry to EVACUATE (R135, R138). -/
def Curtain.evacuated (c : Curtain) : Curtain :=
  if c.state = .lowered ∨ c.release ≠ .none then { c.raiseStopped with latch := some .fire }
  else { c.endMotion with
    latch := some .fire
    holdWaiting := false
    release := .sent
    releaseRefused := false
    outstanding := some .release
    state := if c.state = .unknown then .unknown else .emergency }

def Curtain.evacuateDrives (c : Curtain) : List DriveCmd :=
  if c.state = .lowered ∨ c.release ≠ .none then c.raiseStopDrives else [.release]

/-- A curtain's record after a warm restart (R145). -/
def Curtain.restarted (c : Curtain) : Curtain :=
  { c.endMotion with
    holdWaiting := false
    outstanding := if c.release = .sent then some .release else if c.motion.isSome then some .stop else none }

def Curtain.restartDrives (c : Curtain) : List DriveCmd :=
  if c.release = .sent then [.release] else if c.motion.isSome then [.stop] else []

theorem Curtain.raiseStopped_number (c : Curtain) : c.raiseStopped.number = c.number := by
  unfold Curtain.raiseStopped
  split
  · rfl
  · split <;> rfl

theorem Curtain.evacuated_number (c : Curtain) : c.evacuated.number = c.number := by
  unfold Curtain.evacuated
  split
  · exact c.raiseStopped_number
  · rfl

section
variable {s : State} {c : Curtain} (h : (s.ctc.curtains.map (·.number)).Nodup) (hc : c ∈ s.ctc.curtains)
include h hc

theorem modCurtain_eq_acted (f : Curtain → Curtain) : modCurtain c.number f s = s.acted c (f c) [] := by
  have changed := modCurtain_acted (s := s) (ds := []) (rfl : c.number = c.number) f
  rwa [acted_self h hc] at changed

theorem issueDrive_eq_acted (cmd : DriveCmd) : issueDrive c.number cmd s =
    if c.release = .sent ∧ cmd ≠ .release then s else s.acted c { c with outstanding := some cmd } [cmd] := by
  have issued := issueDrive_acted (ds := []) (findCurtain_of_mem h hc) rfl rfl cmd
  rwa [acted_self h hc] at issued

theorem endDemoSegment_eq : endDemoSegment c.number s =
    s.acted c c.endMotion.afterSegment c.endMotion.segmentDrives := by
  rw [endDemoSegment, modCurtain_eq_acted h hc, segmentEnded_acted (y := c.endMotion) (findCurtain_of_mem h hc) rfl rfl]
  rfl

theorem stopRaising_eq : stopRaising c.number s = s.acted c c.raiseStopped c.raiseStopDrives := by
  have found := findCurtain_of_mem h hc
  simp only [stopRaising, found, issueDrive_eq_acted h hc, Curtain.raiseStopped, Curtain.raiseStopDrives]
  split
  · have ended : modCurtain c.number (fun c => { c.endMotion with state := .stopped })
        (if c.release = .sent ∧ DriveCmd.stop ≠ .release then s
          else s.acted c { c with outstanding := some .stop } [.stop]) =
        s.acted c c.raiseEnded (if c.release = .sent then [] else [.stop]) := by
      by_cases hr : c.release = .sent
      · rw [if_pos ⟨hr, by decide⟩, if_pos hr, modCurtain_eq_acted h hc, Curtain.raiseEnded, if_pos hr]
        rfl
      · rw [if_neg fun hs => hr hs.1, if_neg hr, Curtain.raiseEnded, if_neg hr]
        refine modCurtain_acted ?_ _
        rfl
    rw [ended, segmentEnded_acted (y := c.raiseEnded) found rfl rfl]
  · by_cases hout : c.outstanding = some .raise
    · by_cases hr : c.release = .sent
      · simp [hout, hr, acted_self h hc]
      · simp [hout, hr]
    · simp [hout, acted_self h hc]

theorem evacuateCurtain_eq : evacuateCurtain c.number s = s.acted c c.evacuated c.evacuateDrives := by
  have found := findCurtain_of_mem h hc
  simp only [evacuateCurtain, found, Curtain.evacuated, Curtain.evacuateDrives]
  split
  · rw [stopRaising_eq h hc, modCurtain_acted c.raiseStopped_number]
  · rw [modCurtain_eq_acted h hc]
    refine (issueDrive_acted found ?_ ?_ .release).trans (if_neg (by simp)) <;> rfl

theorem restartCurtain_eq : restartCurtain c.number s = s.acted c c.restarted c.restartDrives := by
  have found := findCurtain_of_mem h hc
  simp only [restartCurtain, found, modCurtain_eq_acted h hc, Curtain.restarted, Curtain.restartDrives]
  split
  · refine (issueDrive_acted found ?_ ?_ .release).trans (if_neg (by simp)) <;> rfl
  · next hr =>
    split
    · refine (issueDrive_acted found ?_ ?_ .stop).trans (if_neg fun hs => hr hs.1) <;> rfl
    · rfl
end

/-! ### Every curtain in turn -/

/-- The drive commands that the curtains hand over, each for its unit. -/
def drivesOf (g : Curtain → List DriveCmd) (l : List Curtain) : List (Nat × DriveCmd) :=
  l.flatMap fun c => (g c).map (c.unit, ·)

section
variable {op : Nat → State → State} {f : Curtain → Curtain} {g : Curtain → List DriveCmd}
  (hn : ∀ c, (f c).number = c.number)
  (hop : ∀ (s : State) (c : Curtain), (s.ctc.curtains.map (·.number)).Nodup → c ∈ s.ctc.curtains →
    op c.number s = s.acted c (f c) (g c))
include hn hop

theorem foldl_acted_append (todo done : List Curtain) (s : State) (hl : s.ctc.curtains = done.map f ++ todo)
    (h : (s.ctc.curtains.map (·.number)).Nodup) :
    (todo.map (·.number)).foldl (fun s n => op n s) s =
      (handAll (drivesOf g todo) s).setCtc { s.ctc with curtains := (done ++ todo).map f } := by
  induction todo generalizing done s with
  | nil =>
    have same : (done ++ []).map f = s.ctc.curtains := by simp [hl]
    rw [same]
    rfl
  | cons c todo ih =>
    have acts := hop s c h (by simp [hl])
    have apart (z : Curtain) (hz : z ∈ done.map f ++ todo) : z.number ≠ c.number := by
      rw [hl, List.map_append, List.map_cons] at h
      have := List.nodup_middle.mp h
      rw [← List.map_append, List.nodup_cons] at this
      exact fun hzc => this.1 (hzc ▸ List.mem_map_of_mem hz)
    have next : (s.acted c (f c) (g c)).ctc.curtains = (done ++ [c]).map f ++ todo := by
      have rest (l : List Curtain) (hsub : ∀ z ∈ l, z ∈ done.map f ++ todo) :
          l.map (fun z => if z.number = c.number then f c else z) = l :=
        (List.map_congr_left fun z hz => if_neg (apart z (hsub z hz))).trans (List.map_id _)
      simp only [State.acted, State.setCtc_ctc, hl, List.map_append, List.map_cons, if_true,
        rest (done.map f) fun z hz => List.mem_append_left _ hz, rest todo fun z hz => List.mem_append_right _ hz]
      simp
    rw [List.map_cons, List.foldl_cons, acts, ih (done ++ [c]) _ next]
    · rw [State.acted, handAll_setCtc, ← handAll_append]
      simp [drivesOf]
    · have numbers : ((done ++ [c]).map f ++ todo).map (·.number) = s.ctc.curtains.map (·.number) := by
        simp [hl, hn]
      rw [next, numbers]
      exact h

/-- An operation at each curtain's number in turn, where each number stands once. -/
theorem foldl_acted (s : State) (h : (s.ctc.curtains.map (·.number)).Nodup) :
    (s.ctc.curtains.map (·.number)).foldl (fun s n => op n s) s =
      (handAll (drivesOf g s.ctc.curtains) s).setCtc { s.ctc with curtains := s.ctc.curtains.map f } :=
  foldl_acted_append hn hop s.ctc.curtains [] s rfl h
end

/-! ### What the units' outstations are handed -/

theorem Station.handed_append (st : Station) (ds es : List (Nat × DriveCmd)) :
    st.handed (ds ++ es) = (st.handed ds).handed es := List.foldl_append ..

theorem Station.handed_address (st : Station) (ds : List (Nat × DriveCmd)) : (st.handed ds).address = st.address := by
  induction ds generalizing st with
  | nil => rfl
  | cons d ds ih =>
    refine (ih _).trans ?_
    dsimp only
    split
    · exact Station.handOver_address _ _
    · rfl

/-- Commands for other addresses are not taken. -/
theorem Station.handed_of_forall_ne {st : Station} {ds : List (Nat × DriveCmd)} (h : ∀ d ∈ ds, d.1 ≠ st.address) :
    st.handed ds = st := by
  induction ds with
  | nil => rfl
  | cons d ds ih =>
    rw [List.forall_mem_cons] at h
    have kept : (if st.address = d.1 then st.handOver (.drive d.2) else st) = st := if_neg h.1.symm
    rw [Station.handed, List.foldl_cons, kept]
    exact ih h.2

/-- Where each unit stands once, an outstation is handed what the curtain of its address hands over. -/
theorem Station.handed_drivesOf (st : Station) (g : Curtain → List DriveCmd) {l : List Curtain}
    (h : (l.map (·.unit)).Nodup) : st.handed (drivesOf g l) =
      match l.find? fun c => c.unit == st.address with
      | some c => st.handed ((g c).map (c.unit, ·))
      | none => st := by
  induction l with
  | nil => rfl
  | cons c l ih =>
    rw [List.map_cons, List.nodup_cons] at h
    obtain ⟨hnot, hrest⟩ := h
    rw [drivesOf, List.flatMap_cons, Station.handed_append, List.find?_cons]
    by_cases hc : c.unit = st.address
    · rw [show (c.unit == st.address) = true from beq_iff_eq.mpr hc]
      refine Station.handed_of_forall_ne fun d hd hda => hnot ?_
      obtain ⟨x, hx, y, hy, rfl⟩ : ∃ x ∈ l, ∃ y ∈ g x, (x.unit, y) = d := by simpa using hd
      rw [Station.handed_address, ← hc] at hda
      exact hda ▸ List.mem_map_of_mem hx
    · have untaken : st.handed ((g c).map (c.unit, ·)) = st := Station.handed_of_forall_ne (by simp [hc])
      rw [show (c.unit == st.address) = false from beq_eq_false_iff_ne.mpr hc, untaken]
      exact ih hrest

end Sys2Proof.Machine
end

section
/-! A change of stage at SRX, FBL and HLU (R27, R33, R114), and what a build reads. -/

namespace Sys2Proof.Machine

/-! ### What a build reads (R32, R33, R40) -/

/-- The two states are the same for a build: the time, the phase, the level table, the house, the stage, the states of the
curtains and the Slot Map. -/
structure SameBuild (s t : State) : Prop where
  time : s.time = t.time
  phc : s.phc = t.phc
  table : s.srx.table = t.srx.table
  valid : s.srx.valid = t.srx.valid
  hlu : s.hlu = t.hlu
  stage : s.asc.stage = t.asc.stage
  curtains : ∀ n, curtainStateOf s n = curtainStateOf t n
  slot : s.tbs.active.slot = t.tbs.active.slot

section
variable {s t : State}

theorem circuitLevel_congr (hphc : s.phc = t.phc) (htable : s.srx.table = t.srx.table)
    (hgroups : s.hlu.groups = t.hlu.groups) (c : Circuit) (now : Nat) : circuitLevel s c now = circuitLevel t c now := by
  simp only [circuitLevel, masterOf, hphc, htable, hgroups]

variable (h : SameBuild s t)
include h

theorem SameBuild.frameSlots : frameSlots s = frameSlots t := by
  simp only [Machine.frameSlots, h.slot, h.valid]

theorem SameBuild.circuitLevel (c : Circuit) (now : Nat) : circuitLevel s c now = circuitLevel t c now :=
  circuitLevel_congr h.phc h.table (by rw [h.hlu]) c now

theorem SameBuild.sent (c : Circuit) : c.sent s = c.sent t := by
  simp only [Circuit.sent, h.slot, h.circuitLevel, h.time]

theorem SameBuild.slotValue (n : Nat) : slotValue s n = slotValue t n := by
  have effect (k : Option Nat) (v : Nat) : effectLevel s k v = effectLevel t k v := by
    simp only [effectLevel, h.stage, h.curtains]
  simp only [Machine.slotValue, h.slot, h.table, h.hlu, h.time, h.stage, h.circuitLevel, effect]

theorem SameBuild.buildLevels : buildLevels s = buildLevels t := by
  simp only [Machine.buildLevels, h.slot, h.table, h.valid, h.frameSlots, h.slotValue]
end

/-! ### The stream is told of a change of stage (R27, R33) -/

/-- What the change of stage leaves of `a`: `asleep`, the stream is LOST and the output starts; `builds`, a frame is built
and begun at once. -/
structure StreamTold (asleep builds : Bool) (a t : State) : Prop where
  srx : t.srx = if asleep then { a.srx with state := .lost, wakePending := false, discardOwed := false } else a.srx
  crg : t.crg = if asleep then { a.crg with previous := none } else a.crg
  hlu : t.hlu = if builds then { a.hlu with circuits := a.hlu.circuits.map (Circuit.sent a) } else a.hlu
  fbl : t.fbl = if builds then { a.fbl with
      running := true
      expiry := some (a.time + 25)
      lastOther := false
      frame := if frameSlots a = 0 then (if sendingLevel a then none else a.fbl.frame)
        else some ⟨false, a.time, buildLevels a, sendingLevel a⟩ }
    else a.fbl
  events : SameEvents t ((if asleep then post .streamLost 0 (some a.srx.state.code) else id) a)
  time : t.time = a.time
  phc : t.phc = a.phc
  zmn : t.zmn = a.zmn
  asc : t.asc = a.asc
  ctc : t.ctc = a.ctc
  clc : t.clc = a.clc
  lpc : t.lpc = a.lpc
  tbs : t.tbs = a.tbs

/-- A part whose output is running, and that is told of a change of stage with its stream awake (R33). -/
theorem rebuildIfSending_told (a : State) :
    StreamTold false (sendingLevel a && a.fbl.running) a (rebuildIfSending a) := by
  obtain ⟨hno, h⟩ | ⟨hsend, hrun, h⟩ := rebuildIfSending_cases a
  · rw [← Bool.and_eq_true, Bool.not_eq_true] at hno
    rw [h, hno]
    exact ⟨rfl, rfl, rfl, rfl, ⟨rfl, rfl, rfl⟩, rfl, rfl, rfl, rfl, rfl, rfl, rfl, rfl⟩
  · rw [h, hsend, hrun, buildAndSend_eq]
    exact ⟨rfl, rfl, rfl, by simp [hsend, hrun], ⟨rfl, rfl, rfl⟩, rfl, rfl, rfl, rfl, rfl, rfl, rfl, rfl⟩

/-- The stage leaves NORMAL in QUIET or NO STREAM (R27). -/
theorem streamAlarm_told {a : State} (h : a.srx.state = .noStream ∨ a.srx.state = .quiet)
    (hrun : a.fbl.running = false) : StreamTold true true a (streamAlarm a) := by
  obtain ⟨b, hb⟩ : ∃ b, b = streamLose (a.setSrx { a.srx with wakePending := false, discardOwed := false }) := ⟨_, rfl⟩
  have alarmed : streamAlarm a = fblStart (sendingLevel a) b := by
    rw [streamAlarm, if_pos h.symm, hb]
  rw [streamLose_eq] at hb
  have same : SameBuild b a := by
    rw [hb]
    constructor <;> simp [curtainStateOf]
  rw [alarmed, fblStart_of_stopped (by simp [hb, hrun]), same.frameSlots, same.buildLevels]
  refine ⟨by simp [hb], by simp [hb], ?_, by simp [hb], ⟨?_, ?_, ?_⟩, by simp [hb], by simp [hb], by simp [hb],
    by simp [hb], by simp [hb], by simp [hb], by simp [hb], by simp [hb]⟩
  · simp [same.hlu, funext same.sent]
  all_goals simp [hb, post_setSrx]

theorem streamTold_told {leaving asleep builds : Bool} {a : State}
    (hasleep : asleep = decide (leaving = true ∧ (a.srx.state = .noStream ∨ a.srx.state = .quiet)))
    (hrun : asleep = true → a.fbl.running = false)
    (hbuilds : builds = (asleep || (sendingLevel a && a.fbl.running))) :
    StreamTold asleep builds a (streamTold leaving a) := by
  cases asleep with
  | true =>
    obtain ⟨hl, h⟩ := of_decide_eq_true hasleep.symm
    have told : streamTold leaving a = streamAlarm a := by
      rw [streamTold, if_pos (by rcases h with h | h <;> simp [hl, h])]
    rw [told, hbuilds]
    exact streamAlarm_told h (hrun rfl)
  | false =>
    have h := of_decide_eq_false hasleep.symm
    have told : streamTold leaving a = rebuildIfSending a := by
      refine if_neg fun hc => h ?_
      simp only [Bool.and_eq_true, Bool.or_eq_true, beq_iff_eq] at hc
      exact ⟨hc.1, hc.2.symm⟩
    rw [told, hbuilds]
    exact rebuildIfSending_told a

/-- The stream leaves the zones. -/
theorem streamTold_zmn (leaving : Bool) (s : State) : (streamTold leaving s).zmn = s.zmn :=
  streamTold_kept (P := fun t => t.zmn = s.zmn)
    ⟨⟨fun h => h, fun h => h⟩, fun h => by simpa using h, fun h => h, fun h => h⟩ leaving s rfl

/-- No window is open, so a change of stage closes none (R94). -/
theorem windowsTold_of_no_window {s : State} (h : ∀ r ∈ s.zmn.zones, r.window = none) (leaving : Bool) :
    windowsTold leaving s = (s, []) := by
  have begins (z : Nat) : closeBegin z s = ⟨s, none, none⟩ := by
    unfold closeBegin
    split
    · rfl
    · next r hr => rw [h r (List.mem_of_find?_eq_some hr)]
  have closes : closeAllWhole s = (s, []) :=
    List.foldl_fixed' (fun z => by simp [closeWhole, begins]) _
  rw [windowsTold, closes]
  exact ite_self _

end Sys2Proof.Machine
end

section
/-! CTC at a change of stage and at a warm restart (R114, R142, R145): the abandoned demonstration, and the whole of each
operation over every curtain. -/

namespace Sys2Proof.Machine

/-! ### The demonstration is abandoned (R142) -/

theorem Demo.running_iff (d : Demo) : d.running = true ↔ d.state ∈ [DemoState.lowering, .dwell, .raising] :=
  ⟨fun h => by_contra fun hn => absurd ((not_running_iff d).mpr hn) (by simp [h]), Demo.running_of_mem⟩

/-- DEMONSTRATION ABANDONED, where a demonstration runs in `s` (R142). -/
def abandonEvent (cause : Nat) (s : State) : State → State :=
  match demoCurtain s with
  | some c => if s.ctc.demo.running then post .demonstrationAbandoned c.number (some cause) else id
  | none => id

/-- The demonstration record after an abandonment (R142). -/
def abandonedDemo (s : State) : Demo :=
  if s.ctc.demo.running = true ∧ (demoCurtain s).isSome = true then s.ctc.demo.ended .notDone none else s.ctc.demo

/-- A running demonstration is abandoned with its event (R142). -/
theorem abandonDemo_eq (cause : Nat) (s : State) :
    abandonDemo cause s = (abandonEvent cause s s).setCtc { s.ctc with demo := abandonedDemo s } := by
  unfold abandonDemo abandonEvent abandonedDemo
  cases demoCurtain s with
  | none => simp; rfl
  | some c =>
    cases s.ctc.demo.running with
    | false => simp; rfl
    | true => exact post_setCtc _ _ _ _

theorem abandonEvent_congr {s t : State} (h : s.ctc = t.ctc) (cause : Nat) :
    abandonEvent cause s = abandonEvent cause t := by
  simp only [abandonEvent, demoCurtain, h]

theorem abandonEvent_of_none {s : State} (h : demoCurtain s = none) (cause : Nat) : abandonEvent cause s = id := by
  simp only [abandonEvent, h]

theorem abandonEvent_of_some {s : State} {c : Curtain} (h : demoCurtain s = some c) (cause : Nat) :
    abandonEvent cause s = if s.ctc.demo.state ∈ [DemoState.lowering, .dwell, .raising] then
      post .demonstrationAbandoned c.number (some cause) else id := by
  simp only [abandonEvent, h, Demo.running_iff]

section
variable (cause : Nat) (s u : State)

theorem abandonEvent_cases : abandonEvent cause s u = u ∨
    ∃ n, abandonEvent cause s u = post .demonstrationAbandoned n (some cause) u := by
  unfold abandonEvent
  cases demoCurtain s with
  | none => exact .inl rfl
  | some c =>
    cases s.ctc.demo.running with
    | false => exact .inl rfl
    | true => exact .inr ⟨_, rfl⟩

theorem abandonEvent_sameCore : SameCore u (abandonEvent cause s u) := by
  obtain h | ⟨n, h⟩ := abandonEvent_cases cause s u <;> rw [h]
  · exact .refl u
  · exact sameCore_postRecord _ u

theorem abandonEvent_clc : (abandonEvent cause s u).clc = u.clc := by
  obtain h | ⟨n, h⟩ := abandonEvent_cases cause s u <;> simp [h]

theorem abandonEvent_lpc : (abandonEvent cause s u).lpc = u.lpc := by
  obtain h | ⟨n, h⟩ := abandonEvent_cases cause s u <;> simp [h]
end

theorem SameEvents.trans {s t u : State} (h : SameEvents s t) (k : SameEvents t u) : SameEvents s u :=
  ⟨h.evq.trans k.evq, h.cmi.trans k.cmi, h.time.trans k.time⟩

theorem SameEvents.abandonEvent {u v : State} (h : SameEvents u v) (cause : Nat) (s : State) :
    SameEvents (abandonEvent cause s u) (abandonEvent cause s v) := by
  unfold Machine.abandonEvent
  cases demoCurtain s with
  | none => exact h
  | some c =>
    cases s.ctc.demo.running with
    | false => exact h
    | true => exact h.post _ _ _

theorem abandonedDemo_of_some {s : State} {c : Curtain} (h : demoCurtain s = some c)
    (hrun : s.ctc.demo.state ∈ [DemoState.lowering, .dwell, .raising]) :
    abandonedDemo s = ⟨.notDone, none, none, none, s.ctc.demo.loweringTime, none⟩ :=
  if_pos ⟨s.ctc.demo.running_iff.mpr hrun, by simp [h]⟩

theorem abandonedDemo_of_idle {s : State} (h : s.ctc.demo.state ∉ [DemoState.lowering, .dwell, .raising]) :
    abandonedDemo s = s.ctc.demo :=
  if_neg fun hc => h (s.ctc.demo.running_iff.mp hc.1)

section
variable (cause : Nat) (s : State)

theorem abandonDemo_sameEvents : SameEvents (abandonDemo cause s) (abandonEvent cause s s) := by
  rw [abandonDemo_eq]
  exact ⟨rfl, rfl, rfl⟩

theorem abandonDemo_ctc : (abandonDemo cause s).ctc = { s.ctc with demo := abandonedDemo s } := by
  rw [abandonDemo_eq]
  rfl

theorem abandonDemo_lpc : (abandonDemo cause s).lpc = s.lpc := by
  rw [abandonDemo_eq]
  exact abandonEvent_lpc cause s s

theorem abandonDemo_clc : (abandonDemo cause s).clc = s.clc := by
  rw [abandonDemo_eq]
  exact abandonEvent_clc cause s s

theorem abandonDemo_demoCurtain : demoCurtain (abandonDemo cause s) = demoCurtain s := by
  simp only [demoCurtain, abandonDemo_ctc]

theorem abandonDemo_sameCore : SameCore s (abandonDemo cause s) := by
  have core := abandonEvent_sameCore cause s s
  rw [abandonDemo_eq]
  exact ⟨core.time, core.phc, core.srx, core.fbl, core.hlu, core.crg, core.zmn, core.asc, core.tbs⟩
end

/-! ### The whole of each operation -/

/-- The segment of the demonstration's curtain ends when `b` holds of it (R142). -/
def endSegmentIf (b : Curtain → Bool) (s : State) : State :=
  match demoCurtain s with
  | some c => if b c then endDemoSegment c.number s else s
  | none => s

theorem endSegmentIf_driven (b : Curtain → Bool) (s : State) : Driven s (endSegmentIf b s) := by
  unfold endSegmentIf
  split
  · split
    · exact endDemoSegment_driven _ s
    · exact .refl s
  · exact .refl s

theorem curtainsInvestigate_eq (s : State) : curtainsInvestigate s =
    (s.ctc.curtains.map (·.number)).foldl (fun s n => stopRaising n s)
      (endSegmentIf (fun _ => s.ctc.demo.state == .dwell) (abandonDemo 1 s)) := rfl

theorem curtainsEvacuate_eq (s : State) : curtainsEvacuate s =
    (s.ctc.curtains.map (·.number)).foldl (fun s n => evacuateCurtain n s)
      (endSegmentIf (fun c => s.ctc.demo.running && c.endsUnreleased) (abandonDemo 2 s)) := rfl

theorem curtainsInvestigate_driven (s : State) : Driven (abandonDemo 1 s) (curtainsInvestigate s) :=
  (endSegmentIf_driven _ _).trans (driven_foldl (fun s n => stopRaising_driven n s) _ _)

theorem curtainsEvacuate_driven (s : State) : Driven (abandonDemo 2 s) (curtainsEvacuate s) :=
  (endSegmentIf_driven _ _).trans (driven_foldl (fun s n => evacuateCurtain_driven n s) _ _)

theorem curtainsRestart_driven (s : State) : Driven (abandonDemo 3 s) (curtainsRestart s) :=
  driven_foldl (fun s n => restartCurtain_driven n s) _ _

/-- The record of a curtain after the end of the demonstration's segment, where `b` holds of it. -/
def Curtain.segmentEndedIf (b : Curtain → Bool) (demo : Option Curtain) (c : Curtain) : Curtain :=
  if b c = true ∧ demo = some c then c.endMotion.afterSegment else c

theorem Curtain.segmentEndedIf_number (b : Curtain → Bool) (demo : Option Curtain) (c : Curtain) :
    (c.segmentEndedIf b demo).number = c.number := by
  unfold Curtain.segmentEndedIf
  split <;> rfl

theorem Curtain.segmentEndedIf_unit (b : Curtain → Bool) (demo : Option Curtain) (c : Curtain) :
    (c.segmentEndedIf b demo).unit = c.unit := by
  unfold Curtain.segmentEndedIf
  split <;> rfl

section
variable {s : State} (h : (s.ctc.curtains.map (·.number)).Nodup)
include h

/-- The end of the demonstration's segment hands drive commands to its unit alone. -/
theorem endSegmentIf_eq (b : Curtain → Bool) : ∃ ds, endSegmentIf b s = (handAll ds s).setCtc
    { s.ctc with curtains := s.ctc.curtains.map (Curtain.segmentEndedIf b (demoCurtain s)) } ∧
    ∀ d ∈ ds, ∃ c, demoCurtain s = some c ∧ b c = true ∧ d.1 = c.unit := by
  have kept (hno : ∀ c, demoCurtain s = some c → b c = false) :
      s = s.setCtc { s.ctc with curtains := s.ctc.curtains.map (Curtain.segmentEndedIf b (demoCurtain s)) } := by
    have same : s.ctc.curtains.map (Curtain.segmentEndedIf b (demoCurtain s)) = s.ctc.curtains :=
      (List.map_congr_left fun c _ => if_neg fun hc => absurd hc.1 (by simp [hno c hc.2])).trans (List.map_id _)
    rw [same]
    rfl
  unfold endSegmentIf
  split
  · next c hc =>
    have hmem : c ∈ s.ctc.curtains := List.mem_of_find?_eq_some hc
    cases hb : b c with
    | false => exact ⟨[], kept fun x hx => by rw [hc] at hx; rwa [← Option.some.inj hx], nofun⟩
    | true =>
      refine ⟨c.endMotion.segmentDrives.map (c.unit, ·), ?_, fun d hd => ⟨c, hc, hb, ?_⟩⟩
      · rw [if_pos rfl, endDemoSegment_eq h hmem, State.acted]
        refine congrArg (State.setCtc _) (congrArg (Curtains.mk · _) (List.map_congr_left fun z hz => ?_))
        by_cases hz' : z.number = c.number
        · obtain rfl := List.inj_on_of_nodup_map h hz hmem hz'
          rw [if_pos rfl, Curtain.segmentEndedIf, if_pos ⟨hb, hc⟩]
        · rw [if_neg hz', Curtain.segmentEndedIf, if_neg fun hc' => hz' ?_]
          rw [Option.some.inj (hc.symm.trans hc'.2)]
      · obtain ⟨y, -, rfl⟩ := List.mem_map.mp hd
        rfl
  · next hnone => exact ⟨[], kept fun c hc => absurd hc (by simp [hnone]), nofun⟩
end

/-! ### An operation over every curtain after an abandonment -/

section
variable {cause : Nat} {s t : State} (h : Driven (abandonDemo cause s) t)
include h

theorem Driven.abandoned_sameCore : SameCore s t := (abandonDemo_sameCore cause s).trans h.sameCore

theorem Driven.abandoned_clc : t.clc = s.clc := h.clc.trans (abandonDemo_clc cause s)

theorem Driven.abandoned_sameEvents : SameEvents t (abandonEvent cause s s) :=
  h.sameEvents.trans (abandonDemo_sameEvents cause s)

theorem Driven.abandoned_demo : t.ctc.demo = abandonedDemo s := by
  rw [h.demo, abandonDemo_ctc]

theorem Driven.abandoned_mem_stations {st : Station} (hst : st ∈ s.lpc.stations) (hk : st.kind ≠ .curtainUnit) :
    st ∈ t.lpc.stations :=
  h.mem_stations (by rwa [abandonDemo_lpc]) hk
end

section
variable {op : Nat → State → State} {f : Curtain → Curtain} {g : Curtain → List DriveCmd}
  (hn : ∀ c, (f c).number = c.number)
  (hop : ∀ (s : State) (c : Curtain), (s.ctc.curtains.map (·.number)).Nodup → c ∈ s.ctc.curtains →
    op c.number s = s.acted c (f c) (g c))
  (b : Curtain → Bool) (cause : Nat) {s t : State} (h : (s.ctc.curtains.map (·.number)).Nodup)
  (ht : t = (s.ctc.curtains.map (·.number)).foldl (fun s n => op n s) (endSegmentIf b (abandonDemo cause s)))
include hn hop h ht

theorem foldl_acted_abandoned : ∃ ds, t =
    (handAll (ds ++ drivesOf g (s.ctc.curtains.map (Curtain.segmentEndedIf b (demoCurtain s))))
      (abandonDemo cause s)).setCtc
      { curtains := s.ctc.curtains.map fun c => f (c.segmentEndedIf b (demoCurtain s)), demo := abandonedDemo s } ∧
    ∀ d ∈ ds, ∃ c, demoCurtain s = some c ∧ b c = true ∧ d.1 = c.unit := by
  have records := abandonDemo_ctc cause s
  obtain ⟨ds, hs, hds⟩ := endSegmentIf_eq (s := abandonDemo cause s) (by rwa [records]) b
  rw [abandonDemo_demoCurtain, records] at hs
  refine ⟨ds, ?_, by rwa [abandonDemo_demoCurtain] at hds⟩
  have numbers : (s.ctc.curtains.map (Curtain.segmentEndedIf b (demoCurtain s))).map (·.number) =
      s.ctc.curtains.map (·.number) := by
    simp [Function.comp_def, Curtain.segmentEndedIf_number]
  have acts := foldl_acted hn hop (endSegmentIf b (abandonDemo cause s))
  rw [hs] at acts ht
  simp only [State.setCtc_ctc, numbers] at acts
  rw [ht, acts h, handAll_setCtc, ← handAll_append]
  simp [Function.comp_def]

/-- The records of the curtains after it. -/
theorem foldl_acted_curtains : t.ctc.curtains = s.ctc.curtains.map fun c => f (c.segmentEndedIf b (demoCurtain s)) := by
  obtain ⟨ds, acts, -⟩ := foldl_acted_abandoned hn hop b cause h ht
  rw [acts]
  rfl

/-- Where each unit stands once, a unit is handed what its curtain hands over. -/
theorem foldl_acted_station {c : Curtain} {st : Station} (hu : (s.ctc.curtains.map (·.unit)).Nodup)
    (hc : c ∈ s.ctc.curtains) (hb : b c = false) (hst : st ∈ s.lpc.stations) (haddr : st.address = c.unit) :
    st.handed ((g c).map (c.unit, ·)) ∈ t.lpc.stations := by
  obtain ⟨ds, acts, hds⟩ := foldl_acted_abandoned hn hop b cause h ht
  have untaken : st.handed ds = st := by
    refine Station.handed_of_forall_ne fun d hd hda => ?_
    obtain ⟨x, hx, hbx, hdx⟩ := hds d hd
    have same : x = c := List.inj_on_of_nodup_map hu (List.mem_of_find?_eq_some hx) hc (by rw [← hdx, hda, haddr])
    exact absurd hbx (by simp [same, hb])
  have units : (s.ctc.curtains.map (Curtain.segmentEndedIf b (demoCurtain s))).map (·.unit) =
      s.ctc.curtains.map (·.unit) := by
    simp [Function.comp_def, Curtain.segmentEndedIf_unit]
  have kept : c.segmentEndedIf b (demoCurtain s) = c := if_neg fun hx => absurd hx.1 (by simp [hb])
  have found := find?_of_nodup (key := Curtain.unit) (by rwa [units])
    (List.mem_map.mpr ⟨c, hc, kept⟩ : c ∈ s.ctc.curtains.map (Curtain.segmentEndedIf b (demoCurtain s)))
  rw [acts, handAll_eq, abandonDemo_lpc]
  refine List.mem_map.mpr ⟨st, hst, ?_⟩
  rw [Station.handed_append, untaken, Station.handed_drivesOf _ _ (by rwa [units]), haddr, found]
end

end Sys2Proof.Machine
end

section
/-! CLC's operations at a change of stage (R151, R158, R160, R161, R162): what they keep of the drive units, and the staff
alert as a placement and a cut. -/

namespace Sys2Proof.Machine

/-! ### What CLC's operations keep, drive commands being none of theirs (R178) -/

/-- `P` is kept by events, by changes of CLC's record and by the handing over of a command that is no drive command. -/
structure KeptBySpeech (P : State → Prop) : Prop where
  posted : ∀ {r s}, P s → P (postRecord r s)
  clc : ∀ {s x}, P s → P (s.setClc x)
  issued : ∀ {a c s}, (∀ d, c ≠ .drive d) → P s → P (issue a c s)

/-- A drive unit's record stands. -/
theorem keptBySpeech_driveUnit {st : Station} (hk : st.kind = .curtainUnit) :
    KeptBySpeech fun t => st ∈ t.lpc.stations where
  posted hs := by simpa using hs
  clc hs := hs
  issued {a c s} hc hs := by
    have untaken : c.takenBy st.kind = false := by
      cases c with
      | drive d => exact absurd rfl (hc d)
      | _ => rw [hk]; rfl
    refine List.mem_map.mpr ⟨st, hs, ?_⟩
    rw [Station.handOver_of_not_takenBy untaken]
    exact ite_self _

section
variable {P : State → Prop} (h : KeptBySpeech P) {s : State} (hs : P s)
include h hs

theorem KeptBySpeech.unitIssue {c : LoopCmd} (hc : ∀ d, c ≠ .drive d) : P (unitIssue c s) := by
  unfold Machine.unitIssue
  split
  · split
    · exact h.issued hc hs
    · exact hs
  · exact hs

theorem KeptBySpeech.startCall (c : Call) : P (startCall c s) := h.posted (h.unitIssue (h.clc hs) nofun)

theorem KeptBySpeech.grantPage (r : Request) : P (grantPage r s) :=
  h.posted (h.issued nofun (h.unitIssue (h.clc hs) nofun))

theorem KeptBySpeech.select : P (select s) := by
  unfold Machine.select
  split
  · split
    · exact hs
    · exact h.startCall hs _
    · exact h.grantPage hs _
    · split
      · exact h.grantPage hs _
      · exact h.startCall hs _
  · exact hs

theorem KeptBySpeech.placeCall (c : Call) : P (placeCall c s).state := by
  obtain ⟨q, hq⟩ | ⟨q, m, p, hq⟩ := placeCall_cases c s <;> rw [hq]
  · exact h.clc hs
  · exact h.clc (h.posted hs)

theorem KeptBySpeech.placeOrDrop (c : Call) : P (placeOrDrop c s) := by
  have placed : P (placeAndSelect c s).state := by
    unfold placeAndSelect
    dsimp only
    split
    · exact h.select (h.placeCall hs c)
    · exact h.placeCall hs c
  unfold Machine.placeOrDrop
  split
  · exact h.posted hs
  · dsimp only
    split
    · exact placed
    · exact h.posted placed
end

/-! ### The staff alert: a placement, and the cut of a lower call (R161) -/

/-- The staff message joins the queue (R151, R161). -/
def staffCalled (s : State) : State :=
  match scheduleEntry? s.tbs.active.schedule with
  | some e =>
    if e.staffMessage = 0 then s else placeOrDrop (newCall s e.staffMessage e.staffZones .alarm .detection) s
  | none => s

/-- A playing call below STAFF is cut by an ALARM (R158). -/
def cutBelowStaff (s : State) : State :=
  match s.clc.channel, s.clc.current with
  | .playing, some c =>
    match c.priority with
    | .routine | .show => cutCall .alarm s
    | .staff | .alarm => s
  | _, _ => s

theorem staffAlert_eq (s : State) : staffAlert s = cutBelowStaff (staffCalled s) := rfl

section
variable {s : State}

theorem cutBelowStaff_cut {c : Call} (hch : s.clc.channel = .playing) (hc : s.clc.current = some c)
    (hp : c.priority ∈ [Priority.routine, .show]) (hcut : s.clc.cut = none) :
    cutBelowStaff s = (unitIssue (.stopPlay true) s).setClc { s.clc with cut := some .alarm } := by
  have cuts : cutBelowStaff s = cutCall .alarm s := by
    simp only [List.mem_cons, List.not_mem_nil, or_false] at hp
    rcases hp with hp | hp <;> simp only [cutBelowStaff, hch, hc, hp]
  rw [cuts, cutCall, hcut, unitIssue_clc]
  rfl

theorem cutBelowStaff_kept (h : s.clc.channel ≠ .playing ∨ s.clc.cut.isSome = true ∨
    ∀ c, s.clc.current = some c → c.priority ∈ [Priority.staff, .alarm]) : cutBelowStaff s = s := by
  unfold cutBelowStaff
  split
  · next c hch hc =>
    have uncut (hp : c.priority ∉ [Priority.staff, .alarm]) : cutCall .alarm s = s :=
      if_pos ((h.resolve_left (not_not.mpr hch)).resolve_right fun all => hp (all c hc))
    split
    · next hp => exact uncut (by simp [hp])
    · next hp => exact uncut (by simp [hp])
    · rfl
    · rfl
  · rfl

theorem KeptBySpeech.staffAlert {P : State → Prop} (h : KeptBySpeech P) (hs : P s) : P (staffAlert s) := by
  have called : P (staffCalled s) := by
    unfold staffCalled
    split
    · split
      · exact hs
      · exact h.placeOrDrop hs _
    · exact hs
  have cut : P (cutCall .alarm (staffCalled s)) := by
    unfold cutCall
    split
    · exact called
    · exact h.clc (h.unitIssue called nofun)
  rw [staffAlert_eq]
  unfold cutBelowStaff
  split
  · split <;> assumption
  · exact called
end

theorem unitIssue_sameEvents (c : LoopCmd) (s : State) : SameEvents (unitIssue c s) s := by
  unfold unitIssue
  split
  · split <;> exact ⟨rfl, rfl, rfl⟩
  · exact ⟨rfl, rfl, rfl⟩

theorem cutBelowStaff_sameEvents (s : State) : SameEvents (cutBelowStaff s) s := by
  have cut : SameEvents (cutCall .alarm s) s := by
    unfold cutCall
    split
    · exact ⟨rfl, rfl, rfl⟩
    · have issued := unitIssue_sameEvents (.stopPlay true) s
      exact ⟨issued.evq, issued.cmi, issued.time⟩
  unfold cutBelowStaff
  split
  · split
    · exact cut
    · exact cut
    · exact ⟨rfl, rfl, rfl⟩
    · exact ⟨rfl, rfl, rfl⟩
  · exact ⟨rfl, rfl, rfl⟩

/-- An entry is added after those that stand before it (R150). -/
theorem insertCall_eq_joined (c : Call) (q : List Call) : insertCall c q = joined c q := by
  induction q with
  | nil => rfl
  | cons e q ih =>
    have ahead : e.before c =
        decide (c.priority.code < e.priority.code ∨ (e.priority = c.priority ∧ e.enqueued ≤ c.enqueued)) :=
      Bool.eq_iff_iff.mpr (by simp [Call.before])
    simp only [insertCall, ih, ahead, joined, List.takeWhile_cons, List.dropWhile_cons]
    split <;> simp

/-- A call joins a queue with a free place and no like call (R151, R158). -/
theorem placeOrDrop_of_new {s : State} {c : Call} (hz : c.zones ≠ 0) (hq : s.clc.queue.length < 16)
    (hnew : ∀ y ∈ s.clc.queue, y.sameKey c = false) :
    placeOrDrop c s = select (s.setClc { s.clc with queue := joined c s.clc.queue }) := by
  have hnone : s.clc.queue.find? (·.sameKey c) = none :=
    List.find?_eq_none.mpr fun y hy => by simp [hnew y hy]
  have placed : placeCall c s = ⟨setQueue (joined c s.clc.queue) s, some c, false⟩ := by
    simp only [placeCall, hnone, if_pos hq, insertCall_eq_joined]
  rw [placeOrDrop, if_neg hz, placeAndSelect, placed]
  rfl

/-- No staff message is configured (R161). -/
theorem staffCalled_of_none {s : State}
    (h : ((scheduleEntry? s.tbs.active.schedule).all fun e => e.staffMessage == 0) = true) : staffCalled s = s := by
  unfold staffCalled
  split
  · next e he => exact if_pos (by simpa [he] using h)
  · rfl

/-- The staff message joins a queue with a free place and no like call (R151, R161). -/
theorem staffCalled_of_joins {s : State} {e : ScheduleEntry} {m : MessageEntry}
    (he : scheduleEntry? s.tbs.active.schedule = some e) (hmsg : e.staffMessage ≠ 0) (hz : e.staffZones ≠ 0)
    (hm : findMessage s.tbs.active.message e.staffMessage = some m) (hq : s.clc.queue.length < 16)
    (hnew : ∀ y ∈ s.clc.queue, ¬ (y.message = e.staffMessage ∧ y.priority = .alarm)) :
    staffCalled s = select (s.setClc { s.clc with
      queue := joined ⟨e.staffMessage, e.staffZones, .alarm, .detection, s.time,
        if m.expiry = 0 then none else some (s.time + m.expiry * 1000)⟩ s.clc.queue }) := by
  have call : newCall s e.staffMessage e.staffZones .alarm .detection =
      ⟨e.staffMessage, e.staffZones, .alarm, .detection, s.time,
        if m.expiry = 0 then none else some (s.time + m.expiry * 1000)⟩ := by
    simp only [newCall, callExpiryTime, hm]
  simp only [staffCalled, he, if_neg hmsg, call]
  exact placeOrDrop_of_new hz hq fun y hy => by simpa [Call.sameKey] using hnew y hy

end Sys2Proof.Machine
end

section
/-! The entry to INVESTIGATE (R27, R33, R107, R132, R134, R138, R142, R151, R158, R161). -/

namespace Sys2Proof.Machine

/-! ### CTC at the entry to INVESTIGATE (R134, R142) -/

theorem Ownership.ended_eq (o : Ownership) : o.ended = if o = .explicit then .implicit else o := by
  cases o <;> rfl

/-- A curtain's record after the entry to INVESTIGATE (R132, R134, R142). -/
theorem raiseStopped_segmentEndedIf (b : Bool) (demo : Option Curtain) (c : Curtain) :
    (c.segmentEndedIf (fun _ => b) demo).raiseStopped =
      if b = true ∧ demo = some c then
        (fun x : Curtain => if x.outstanding = some .raise ∧ x.release ≠ .sent then
          { x with outstanding := some .stop } else x) c.endMotion.afterSegment
      else c.raiseStopped := by
  unfold Curtain.segmentEndedIf
  split
  · exact if_neg nofun
  · rfl

/-! ### The entry (R107) -/

/-- The alarm record and the event of the entry to INVESTIGATE (R107). -/
def investigated (f : Fire) (s : State) : State :=
  post .alarmInvestigate f.zone (some f.group) (s.setAsc { s.asc with
    stage := .investigate
    invStep := some .awaitingAck
    zone := some f.zone
    group := some f.group
    stageStart := s.time
    ackExpiry := some (s.time + s.tbs.auth.ackTime * 1000) })

/-- With no window open, a fire with route INVESTIGATE alerts the staff, the stream and the curtains in turn. -/
theorem takeFire_investigate {f : Fire} {s : State} (hstage : s.asc.stage = .normal) (hroute : f.route = .investigate)
    (hw : ∀ r ∈ s.zmn.zones, r.window = none) :
    takeFire f s = curtainsInvestigate (streamTold true (staffAlert (investigated f s))) := by
  obtain ⟨b, hb⟩ : ∃ b, b = streamTold true (staffAlert (investigated f s)) := ⟨_, rfl⟩
  have zones : b.zmn = s.zmn := by
    rw [hb, streamTold_zmn, (staffAlert_kept (keptByCalls_sameCore _) _ ⟨.refl _, rfl⟩).1.zmn]
    simp [investigated]
  have entry : fireInNormal f s = tellInvestigate (staffAlert (investigated f s)) := by
    unfold fireInNormal
    rw [hroute]
    rfl
  have told : tellInvestigate (staffAlert (investigated f s)) = (curtainsInvestigate b, []) := by
    rw [tellInvestigate, ← hb, windowsTold_of_no_window (by rwa [zones])]
  unfold takeFire
  rw [hstage]
  dsimp only
  rw [entry, told, hb]
  rfl

section
variable (f : Fire) (s : State)

theorem investigated_ctc : (investigated f s).ctc = s.ctc := by simp [investigated]

theorem investigated_clc : (investigated f s).clc = s.clc := by simp [investigated]

theorem investigated_lpc : (investigated f s).lpc = s.lpc := by simp [investigated]

/-- The entry and its staff alert leave the other owners' records. -/
theorem staffAlert_investigated_sameCore :
    SameCore (s.setAsc (investigated f s).asc) (staffAlert (investigated f s)) := by
  have core := (staffAlert_kept (keptByCalls_sameCore (investigated f s)) _ ⟨.refl _, rfl⟩).1
  refine .trans ?_ core
  constructor <;> simp [investigated]

theorem staffAlert_investigated_ctc : (staffAlert (investigated f s)).ctc = s.ctc := by
  rw [(staffAlert_kept (keptByCalls_sameCore (investigated f s)) _ ⟨.refl _, rfl⟩).2, investigated_ctc]
end

/-- An event that is posted where `p` holds is the same after the same events. -/
theorem SameEvents.postIf {u v : State} (h : SameEvents u v) (p : Prop) [Decidable p] (e : Event) (index : Nat)
    (arg : Option Nat) : SameEvents ((if p then Machine.post e index arg else id) u)
      ((if p then Machine.post e index arg else id) v) := by
  split
  · exact h.post _ _ _
  · exact h

/-- A raising segment without a hold waiting is stopped with STOP alone (R123, R134). -/
theorem Curtain.raiseStopDrives_of_raising {c : Curtain} (hm : c.motion.map (·.up) = some true) (hr : c.release ≠ .sent)
    (hw : c.holdWaiting = false) : c.raiseStopDrives = [.stop] := by
  have idle : ¬ c.raiseEnded.owesYield := fun h => absurd (hw.symm.trans (h.1 : c.holdWaiting = true)) (by decide)
  rw [Curtain.raiseStopDrives, if_pos hm, if_neg hr, Curtain.segmentDrives_of_not_owes idle]
  rfl

/-- Outside DWELL, the unit of a raising curtain is handed STOP (R134, R138). -/
theorem curtainsInvestigate_stop {s : State} {c : Curtain} {st : Station} (hu : (s.ctc.curtains.map (·.unit)).Nodup)
    (hn : (s.ctc.curtains.map (·.number)).Nodup) (hc : c ∈ s.ctc.curtains) (hm : c.motion.map (·.up) = some true)
    (hr : c.release ≠ .sent) (hw : c.holdWaiting = false) (hd : s.ctc.demo.state ≠ .dwell)
    (hst : st ∈ s.lpc.stations) (haddr : st.address = c.unit) :
    st.handOver (.drive .stop) ∈ (curtainsInvestigate s).lpc.stations := by
  have handed := foldl_acted_station Curtain.raiseStopped_number (fun _ _ hs hc => stopRaising_eq hs hc) _ 1 hn
    (curtainsInvestigate_eq s) hu hc (beq_eq_false_iff_ne.mpr hd) hst haddr
  simpa [Curtain.raiseStopDrives_of_raising hm hr hw, Station.handed, haddr] using handed

/-- The staff alert as the channel takes it: `w` is the part with the staff message called (R158, R161). -/
theorem cutBelowStaff_clc {w t : State} (hclc : t.clc = (cutBelowStaff w).clc)
    (hlpc : ∀ st ∈ (cutBelowStaff w).lpc.stations, st.kind ≠ .curtainUnit → st ∈ t.lpc.stations) :
    (∀ c, w.clc.channel = .playing → w.clc.current = some c → c.priority ∈ [Priority.routine, .show] →
      w.clc.cut = none → t.clc = { w.clc with cut := some .alarm } ∧
        ∀ st ∈ w.lpc.stations, announcerAddress w = some st.address → w.clc.announcer = .present →
          st.kind = .announcer → st.handOver (.stopPlay true) ∈ t.lpc.stations) ∧
    (w.clc.channel ≠ .playing ∨ w.clc.cut.isSome = true ∨
      (∀ c, w.clc.current = some c → c.priority ∈ [Priority.staff, .alarm]) → t.clc = w.clc) := by
  refine ⟨fun c hch hc hp hcut => ?_, fun h => by rw [hclc, cutBelowStaff_kept h]⟩
  rw [cutBelowStaff_cut hch hc hp hcut] at hclc hlpc
  refine ⟨hclc, fun st hst haddr hpresent hkind => hlpc _ ?_ ?_⟩
  · simp only [unitIssue, hpresent, haddr, if_true]
    exact List.mem_map.mpr ⟨st, hst, if_pos rfl⟩
  · rw [Station.handOver_kind, hkind]
    decide

/-- Settles O29: the staff is alerted, the stream told of the stage, and every curtain stopped; each owner's operation
reads nothing that the one before it changed. -/
theorem entryToInvestigateAlertsAndStopsRaising : Obligations.EntryToInvestigateAlertsAndStopsRaising := by
  intro f s t v asleep builds abandoned held hstage hroute hw hasleep hrun hbuilds ht hv habandoned hheld
  obtain rfl : held = Curtain.afterSegment := funext hheld
  obtain rfl : v = investigated f s := hv
  have core := staffAlert_investigated_sameCore f s
  have records := staffAlert_investigated_ctc f s
  obtain ⟨a, ha⟩ : ∃ a, a = staffAlert (investigated f s) := ⟨_, rfl⟩
  obtain ⟨b, hb⟩ : ∃ b, b = streamTold true a := ⟨_, rfl⟩
  rw [← ha] at core records
  have same : SameBuild a (s.setAsc (investigated f s).asc) :=
    ⟨core.time, core.phc, by rw [core.srx], by rw [core.srx], core.hlu, by rw [core.asc],
      fun n => by simp only [curtainStateOf, records]; rfl, by rw [core.tbs]⟩
  have sends : sendingLevel a = sendingLevel s := by simp [sendingLevel, core.fbl, core.time]
  have told : StreamTold asleep builds a b := by
    rw [hb]
    refine streamTold_told ?_ ?_ ?_
    · rw [hasleep, core.srx]; simp
    · rw [core.fbl]; exact hrun
    · rw [hbuilds, sends, core.fbl]; rfl
  obtain rfl : t = curtainsInvestigate b := by rw [ht, takeFire_investigate hstage hroute hw, hb, ha]
  clear ht
  have driven := curtainsInvestigate_driven b
  have drove := driven.abandoned_sameCore
  have recordsB : b.ctc = s.ctc := told.ctc.trans records
  have demoB : demoCurtain b = demoCurtain s := by simp only [demoCurtain, recordsB]
  refine ⟨?_, ?_, ?_, ?_, ?_, ?_, ?_, ?_, ?_, ?_, ?_, ?_, ?_, ?_, ?_⟩
  · rw [drove.asc, told.asc, core.asc]; rfl
  · rw [drove.phc, told.phc, core.phc]; rfl
  · rw [drove.tbs, told.tbs, core.tbs]; rfl
  · rw [drove.zmn, told.zmn, core.zmn]; rfl
  · rw [drove.time, told.time, core.time]; rfl
  · rw [drove.srx, told.srx, core.srx]; rfl
  · rw [drove.crg, told.crg, core.crg]; rfl
  · rintro rfl
    rw [drove.hlu, told.hlu, core.hlu]; rfl
  · rintro rfl
    rw [drove.hlu, told.hlu, funext same.sent, core.hlu]; rfl
  · rw [drove.fbl, told.fbl, same.frameSlots, same.buildLevels, core.fbl, core.time, sends]; rfl
  · intro c hc hd
    rw [driven.abandoned_demo, abandonedDemo_of_some (demoB.trans hc) (by rwa [recordsB]), recordsB]
  · intro hd
    rw [driven.abandoned_demo, abandonedDemo_of_idle (by rwa [recordsB]), recordsB]
  · intro hn
    rw [foldl_acted_curtains Curtain.raiseStopped_number (fun _ _ hs hc => stopRaising_eq hs hc) _ 1
      (by rwa [recordsB]) (curtainsInvestigate_eq b), demoB, recordsB]
    refine List.map_congr_left fun c _ => (raiseStopped_segmentEndedIf _ _ c).trans ?_
    simp only [beq_iff_eq, ← Ownership.ended_eq]
    rfl
  · intro c st hu hn hc hm hr hwait hd hst haddr hk
    have kept : st ∈ a.lpc.stations := by
      rw [ha]
      exact (keptBySpeech_driveUnit hk).staffAlert (by rwa [investigated_lpc])
    exact curtainsInvestigate_stop (by rwa [recordsB]) (by rwa [recordsB]) (by rwa [recordsB]) hm hr hwait
      (by rwa [recordsB]) (by rwa [told.lpc]) haddr
  · intro w hcases
    obtain rfl : w = staffCalled (investigated f s) := by
      rcases hcases with ⟨rfl, hnone⟩ | ⟨e, m, he, hmsg, hz, hm, hq, hnew, rfl⟩
      · exact (staffCalled_of_none (by simpa [investigated] using hnone)).symm
      · refine ((staffCalled_of_joins (m := m) ?_ hmsg hz ?_ ?_ ?_).trans ?_).symm
        · simpa [investigated] using he
        · simpa [investigated] using hm
        · rwa [investigated_clc]
        · rwa [investigated_clc]
        · simp [investigated]
    have cut : a = cutBelowStaff (staffCalled (investigated f s)) := ha
    have tells : abandoned = fun u =>
        abandonEvent 1 s ((if asleep then post .streamLost 0 (some s.srx.state.code) else id) u) := by
      funext u
      rw [habandoned]
      cases hd : demoCurtain s with
      | none => rw [abandonEvent_of_none hd]
      | some c => rw [abandonEvent_of_some hd]
    have events : SameEvents (curtainsInvestigate b) (abandoned (staffCalled (investigated f s))) := by
      have lost : a.srx.state = s.srx.state := by rw [core.srx]; rfl
      have cutEvents := cutBelowStaff_sameEvents (staffCalled (investigated f s))
      rw [← cut] at cutEvents
      have heard := told.events
      rw [lost] at heard
      rw [tells]
      refine driven.abandoned_sameEvents.trans ?_
      rw [abandonEvent_congr recordsB]
      exact (heard.trans (cutEvents.postIf _ _ _ _)).abandonEvent 1 s
    refine ⟨events.evq, events.cmi, cutBelowStaff_clc ?_ fun st hst hk => ?_⟩
    · rw [driven.abandoned_clc, told.clc, cut]
    · exact driven.abandoned_mem_stations (by rwa [told.lpc, cut]) hk

end Sys2Proof.Machine
end

section
/-! CLC at the entry to EVACUATE (R160, R162): the channel is seized, and the groups' zones join the evacuation. -/

namespace Sys2Proof.Machine

/-! ### What is kept of the drive units and of the announcement unit -/

/-- The evacuation starts with no zones, and nothing refused or taken (R162). -/
def seizeStart (s : State) : State :=
  s.setClc { s.clc with evacZones := 0, evacRefused := false, cutTaken := false }

section
variable {P : State → Prop} (h : KeptBySpeech P) {s : State} (hs : P s)
include h hs

theorem KeptBySpeech.endPage (revoke : Bool) (e : Event) (arg : Nat → Nat) : P (endPage revoke e arg s) := by
  unfold Machine.endPage
  split
  · exact hs
  · have ended : P (Machine.unitIssue .endPage s) := h.unitIssue hs nofun
    refine h.posted (h.clc ?_)
    split
    · exact h.issued nofun ended
    · exact ended

theorem KeptBySpeech.seizeChannel : P (seizeChannel s) := by
  have started : P (seizeStart s) := h.clc hs
  have dropped : P ((dropCurrent (Machine.unitIssue (.stopPlay false) (seizeStart s))).setClc
      { (dropCurrent (Machine.unitIssue (.stopPlay false) (seizeStart s))).clc with channel := .evacuation }) :=
    h.clc (h.clc (h.unitIssue started nofun))
  unfold Machine.seizeChannel
  dsimp only
  split
  · exact h.clc started
  · split
    · exact h.posted dropped
    · exact dropped
  · split
    · exact h.clc started
    · exact h.endPage started _ _ _
  · exact started

theorem KeptBySpeech.issueEvacPlay : P (issueEvacPlay s) := by
  unfold Machine.issueEvacPlay
  split
  · split
    · exact h.unitIssue hs nofun
    · exact hs
  · exact hs

theorem KeptBySpeech.evacuateGroup (g : Nat) : P (evacuateGroup g s) := by
  unfold Machine.evacuateGroup
  dsimp only
  split
  · exact hs
  · exact h.issueEvacPlay (h.clc hs)

theorem KeptBySpeech.groupsTold (gs : List Nat) : P (groupsTold gs s) :=
  foldl_kept (P := P) gs (fun _ g hu => h.evacuateGroup hu g) s hs
end

/-! ### The channel is seized (R160, R162) -/

section
variable {s : State}

theorem seizeChannel_idle (h : s.clc.channel = .idle) : seizeChannel s = s.setClc { s.clc with
    evacZones := 0, evacRefused := false, cutTaken := false, channel := .evacuation } := by
  simp [seizeChannel, h]

/-- A playing call is dropped with CALL DISCARDED. -/
theorem seizeChannel_playing {c : Call} (h : s.clc.channel = .playing) (hc : s.clc.current = some c) :
    (seizeChannel s).clc = { s.clc with
      evacZones := 0, evacRefused := false, cutTaken := false, current := none, playTaken := false, overrun := none
      cut := none, channel := .evacuation } ∧
    SameEvents (seizeChannel s) (post .callDiscarded c.message (some c.priority.code) s) := by
  obtain ⟨u, hu⟩ : ∃ u, u = unitIssue (.stopPlay false) (seizeStart s) := ⟨_, rfl⟩
  have seized : seizeChannel s = post .callDiscarded c.message (some c.priority.code)
      ((dropCurrent u).setClc { (dropCurrent u).clc with channel := .evacuation }) := by
    simp only [seizeChannel, h, hc, hu, State.setClc_clc, seizeStart]
  have issued := unitIssue_sameEvents (.stopPlay false) (seizeStart s)
  have calls : u.clc = (seizeStart s).clc := by rw [hu, unitIssue_clc]
  rw [← hu] at issued
  rw [seized]
  refine ⟨?_, SameEvents.post ?_ _ _ _⟩
  · simp [dropCurrent, calls, seizeStart]
  · exact ⟨issued.evq, issued.cmi, issued.time⟩

/-- A FIRE page goes on, and the evacuation is owed. -/
theorem seizeChannel_fire {a : Nat} (h : s.clc.channel = .paging) (hh : s.clc.holder = some (a, .fire)) :
    seizeChannel s = s.setClc { s.clc with
      evacZones := 0, evacRefused := false, cutTaken := false, evacOwed := true } := by
  simp [seizeChannel, h, hh]

/-- The end of a page with its revocation. -/
theorem endPage_revoke {a : Nat} {cls : PageClass} (hh : s.clc.holder = some (a, cls)) (e : Event) (arg : Nat → Nat) :
    (endPage true e arg s).clc = { s.clc with
      requests := markRequest a .revoked s.clc.requests, holder := none, pageLimit := none
      channel := if s.asc.stage = .evacuate then .evacuation else .idle, evacOwed := false } ∧
    SameEvents (endPage true e arg s) (post e a (some (arg cls.code)) s) := by
  have issued := unitIssue_sameEvents .endPage s
  have stage : (unitIssue .endPage s).asc = s.asc :=
    (unitIssue_kept (keptByCalls_sameCore s).toKeptByLinks .endPage s ⟨.refl s, rfl⟩).1.asc
  simp only [endPage, hh, if_true, issue_clc, issue_asc, unitIssue_clc, stage]
  refine ⟨by simp, SameEvents.post ?_ _ _ _⟩
  exact ⟨issued.evq, issued.cmi, issued.time⟩

/-- A page below FIRE is revoked with PAGE REVOKED. -/
theorem seizeChannel_page {a : Nat} {cls : PageClass} (h : s.clc.channel = .paging)
    (hh : s.clc.holder = some (a, cls)) (hcls : cls ≠ .fire) (hstage : s.asc.stage = .evacuate) :
    (seizeChannel s).clc = { s.clc with
      requests := s.clc.requests.map fun r => if r.station = a then { r with state := .revoked } else r
      evacZones := 0, evacRefused := false, cutTaken := false, holder := none, pageLimit := none, evacOwed := false
      channel := .evacuation } ∧
    SameEvents (seizeChannel s) (post .pageRevoked a (some 3) s) := by
  have seized : seizeChannel s = endPage true .pageRevoked (fun _ => revokedSeizure) (seizeStart s) := by
    unfold seizeChannel
    dsimp only
    split
    · next hc => exact absurd (h.symm.trans hc) nofun
    · next hc => exact absurd (h.symm.trans hc) nofun
    · split
      · next hf => exact absurd (Prod.ext_iff.mp (Option.some.inj (hh.symm.trans hf))).2 hcls
      · rfl
    · next hc => exact absurd (h.symm.trans hc) nofun
  obtain ⟨calls, events⟩ := endPage_revoke (s := seizeStart s) hh .pageRevoked fun _ => revokedSeizure
  rw [seized]
  have stage : (seizeStart s).asc.stage = .evacuate := hstage
  refine ⟨by simp only [calls, stage, if_true]; rfl, events.trans (SameEvents.post ?_ _ _ _)⟩
  exact ⟨rfl, rfl, rfl⟩
end

/-- Only the calls and LPC's records are changed, and in those of the calls neither the unit's state nor the zones. -/
theorem seizeChannel_evacZones (s : State) :
    (seizeChannel s).clc.announcer = s.clc.announcer ∧ (seizeChannel s).clc.evacZones = 0 := by
  cases hch : s.clc.channel with
  | idle => rw [seizeChannel_idle hch]; exact ⟨rfl, rfl⟩
  | playing =>
    cases hc : s.clc.current with
    | some c => rw [(seizeChannel_playing hch hc).1]; exact ⟨rfl, rfl⟩
    | none => simp [seizeChannel, hch, hc, dropCurrent, unitIssue_clc]
  | paging =>
    have ended (x : State) : (endPage true .pageRevoked (fun _ => revokedSeizure) x).clc.announcer = x.clc.announcer ∧
        (endPage true .pageRevoked (fun _ => revokedSeizure) x).clc.evacZones = x.clc.evacZones := by
      cases hh : x.clc.holder with
      | none => simp [endPage, hh]
      | some p => rw [(endPage_revoke hh _ _).1]; exact ⟨rfl, rfl⟩
    simp only [seizeChannel, hch, State.setClc_clc]
    split
    · exact ⟨rfl, rfl⟩
    · exact ended _
  | evacuation => simp [seizeChannel, hch]

/-! ### The groups' zones join (R162) -/

theorem issueEvacPlay_clc (s : State) : (issueEvacPlay s).clc = s.clc := by
  unfold issueEvacPlay
  split
  · split
    · exact unitIssue_clc _ s
    · rfl
  · rfl

theorem issueEvacPlay_sameEvents (s : State) : SameEvents (issueEvacPlay s) s := by
  unfold issueEvacPlay
  split
  · split
    · exact unitIssue_sameEvents _ s
    · exact ⟨rfl, rfl, rfl⟩
  · exact ⟨rfl, rfl, rfl⟩

theorem evacuateGroup_clc (g : Nat) (s : State) : (evacuateGroup g s).clc =
    { s.clc with evacZones := s.clc.evacZones ||| groupFoh s.tbs.active.zone g } := by
  unfold evacuateGroup
  dsimp only
  split
  · next h => rw [h]
  · rw [issueEvacPlay_clc]
    rfl

theorem evacuateGroup_sameEvents (g : Nat) (s : State) : SameEvents (evacuateGroup g s) s := by
  unfold evacuateGroup
  dsimp only
  split
  · exact ⟨rfl, rfl, rfl⟩
  · have issued := issueEvacPlay_sameEvents
      (s.setClc { s.clc with evacZones := s.clc.evacZones ||| groupFoh s.tbs.active.zone g })
    exact ⟨issued.evq, issued.cmi, issued.time⟩

theorem groupsTold_sameCore (gs : List Nat) (s : State) : SameCore s (groupsTold gs s) :=
  (groupsTold_kept (keptByCalls_sameCore s) gs s ⟨.refl s, rfl⟩).1

theorem groupsTold_sameEvents (gs : List Nat) (s : State) : SameEvents (groupsTold gs s) s :=
  foldl_kept gs (fun u g h => (evacuateGroup_sameEvents g u).trans h) s ⟨rfl, rfl, rfl⟩

/-- The zones of the groups told join the evacuation. -/
theorem groupsTold_clc (gs : List Nat) (s : State) : (groupsTold gs s).clc =
    { s.clc with evacZones := (gs.map (groupFoh s.tbs.active.zone)).foldl (· ||| ·) s.clc.evacZones } := by
  induction gs generalizing s with
  | nil => rfl
  | cons g gs ih =>
    have tables : (evacuateGroup g s).tbs = s.tbs :=
      (evacuateGroup_kept (keptByCalls_sameCore s) g s ⟨.refl s, rfl⟩).1.tbs
    refine (ih (evacuateGroup g s)).trans ?_
    rw [tables, evacuateGroup_clc]
    rfl

/-! ### The announcement of the evacuation (R162) -/

/-- The first announcement unit of the loop is that of the address, and holds no RELEASE. -/
def HearsAt (a : Nat) (s : State) : Prop :=
  ∃ x, s.lpc.stations.find? (·.kind == .announcer) = some x ∧ x.address = a ∧
    x.pending.map (·.1) ≠ some (.drive .release)

/-- A command handed over for an address changes the announcement unit found there. -/
theorem issue_find_announcer {s : State} {x : Station} (h : s.lpc.stations.find? (·.kind == .announcer) = some x)
    (a : Nat) (c : LoopCmd) : (issue a c s).lpc.stations.find? (·.kind == .announcer) =
      some (if x.address = a then x.handOver c else x) := by
  have kinds : (fun y : Station => y.kind == .announcer) ∘ (fun y => if y.address = a then y.handOver c else y) =
      (·.kind == .announcer) := by
    funext y
    by_cases hy : y.address = a
    · simp [hy, Station.handOver_kind]
    · simp [hy]
  have stations : (issue a c s).lpc.stations =
      s.lpc.stations.map fun y => if y.address = a then y.handOver c else y := rfl
  rw [stations, List.find?_map, kinds, h]
  rfl

theorem Station.handOver_pending_ne {x : Station} {c : LoopCmd} (hc : ∀ d, c ≠ .drive d)
    (hx : x.pending.map (·.1) ≠ some (.drive .release)) : (x.handOver c).pending.map (·.1) ≠ some (.drive .release) := by
  unfold Station.handOver
  split
  · exact hx
  · exact fun h => hc _ (Option.some.inj h)

/-- CLC's operations hand the announcement unit no RELEASE. -/
theorem keptBySpeech_hearsAt (a : Nat) : KeptBySpeech (HearsAt a) where
  posted hs := by simpa [HearsAt] using hs
  clc hs := hs
  issued {b c s} hc hs := by
    obtain ⟨x, hx, ha, hp⟩ := hs
    refine ⟨_, issue_find_announcer hx b c, ?_, ?_⟩
    · split
      · rw [Station.handOver_address, ha]
      · exact ha
    · split
      · exact Station.handOver_pending_ne hc hp
      · exact hp

/-- The announcement unit carries the repeated PLAY of the zones of the evacuation, once there are any. -/
structure Evacuating (e : ScheduleEntry) (a kind : Nat) (s : State) : Prop where
  entry : scheduleEntry? s.tbs.active.schedule = some e
  kindIs : messageKind s e.evacMessage = kind
  channel : s.clc.channel = .evacuation
  present : s.clc.announcer = .present
  hears : HearsAt a s
  plays : s.clc.evacZones ≠ 0 → ∃ x ∈ s.lpc.stations, x.address = a ∧ x.kind = .announcer ∧
    x.pending.map (·.1) = some (.play e.evacMessage kind s.clc.evacZones true)

/-- PLAY is handed to the announcement unit in EVACUATION. -/
theorem unitIssue_play {a : Nat} {s : State} (h : HearsAt a s) (hp : s.clc.announcer = .present) (m k : Nat)
    (z : FohSet) (r : Bool) : ∃ x ∈ (unitIssue (.play m k z r) s).lpc.stations, x.address = a ∧ x.kind = .announcer ∧
      x.pending.map (·.1) = some (.play m k z r) := by
  obtain ⟨x, hx, rfl, hne⟩ := h
  have kind : x.kind = .announcer := by simpa using List.find?_some hx
  have found := issue_find_announcer hx x.address (.play m k z r)
  rw [if_pos rfl] at found
  have addr : announcerAddress s = some x.address := by rw [announcerAddress, hx]; rfl
  rw [unitIssue, if_pos hp, addr]
  refine ⟨_, List.mem_of_find?_eq_some found, x.handOver_address _, (x.handOver_kind _).trans kind, ?_⟩
  have taken : (LoopCmd.play m k z r).takenBy x.kind = true := by rw [kind]; rfl
  simp [Station.handOver, taken, hne]

theorem evacuateGroup_evacuating {e : ScheduleEntry} {a kind : Nat} (hm : e.evacMessage ≠ 0) {s : State}
    (h : Evacuating e a kind s) (g : Nat) : Evacuating e a kind (evacuateGroup g s) := by
  have tables : (evacuateGroup g s).tbs = s.tbs :=
    (evacuateGroup_kept (keptByCalls_sameCore s) g s ⟨.refl s, rfl⟩).1.tbs
  have calls := evacuateGroup_clc g s
  refine ⟨by rw [tables]; exact h.entry, ?_, by rw [calls]; exact h.channel, by rw [calls]; exact h.present,
    (keptBySpeech_hearsAt a).evacuateGroup h.hears g, ?_⟩
  · rw [← h.kindIs, messageKind, messageKind, tables]
  · unfold evacuateGroup
    dsimp only
    split
    · exact h.plays
    · obtain ⟨u, hu⟩ : ∃ u, u = s.setClc { s.clc with evacZones := s.clc.evacZones ||| groupFoh s.tbs.active.zone g } :=
        ⟨_, rfl⟩
      rw [← hu, issueEvacPlay_clc]
      intro hz
      have entry : scheduleEntry? u.tbs.active.schedule = some e := by rw [hu]; exact h.entry
      have channel : u.clc.channel = .evacuation := by rw [hu]; exact h.channel
      have kindIs : messageKind u e.evacMessage = kind := by rw [hu]; exact h.kindIs
      simp only [issueEvacPlay, entry, channel, hz, hm, kindIs, true_and, ne_eq, not_false_eq_true, if_true]
      exact unitIssue_play (by rw [hu]; exact h.hears) (by rw [hu]; exact h.present) _ _ _ _

/-- Once the channel is seized, the zones of the groups told are announced to by the unit PRESENT (R162). -/
theorem groupsTold_evacuating {e : ScheduleEntry} {a kind : Nat} (hm : e.evacMessage ≠ 0) {s : State}
    (h : Evacuating e a kind s) (gs : List Nat) : Evacuating e a kind (groupsTold gs s) :=
  foldl_kept (P := Evacuating e a kind) gs (fun _ g hu => evacuateGroup_evacuating hm hu g) s h

end Sys2Proof.Machine
end

section
/-! The entry to EVACUATE (R27, R33, R55, R103, R104, R109, R111, R114, R135, R142, R160, R162). -/

namespace Sys2Proof.Machine

/-! ### The record and the events of the entry (R103, R104, R111) -/

/-- The part with the alarm record of the entry, and its events. -/
def evacuationEntered (general : Bool) (cause : Nat) (fireGroup : Option Nat) (s : State) : State :=
  (evacuatingGroups (evacuateRecord general fireGroup s)).foldl (fun s g => postStarted g s)
    (post .alarmEvacuate ((evacuateRecord general fireGroup s).asc.zone.getD 0) (some cause)
      (evacuateRecord general fireGroup s))

theorem postStarted_keeps {P : State → Prop} (h : ∀ {r s}, P s → P (postRecord r s)) (g : Nat) (s : State) (hs : P s) :
    P (postStarted g s) := by
  unfold postStarted
  split
  · exact h hs
  · exact hs

section
variable (general : Bool) (cause : Nat) (fireGroup : Option Nat) (s : State)

theorem evacuationEntered_keeps {P : State → Prop} (h : ∀ {r s}, P s → P (postRecord r s))
    (hs : P (evacuateRecord general fireGroup s)) : P (evacuationEntered general cause fireGroup s) :=
  foldl_kept (P := P) _ (fun u g hu => postStarted_keeps h g u hu) _ (h hs)

theorem evacuationEntered_sameCore :
    SameCore (evacuateRecord general fireGroup s) (evacuationEntered general cause fireGroup s) :=
  evacuationEntered_keeps (P := SameCore (evacuateRecord general fireGroup s)) general cause fireGroup s
    (fun h => h.trans (sameCore_postRecord _ _)) (.refl _)

theorem evacuationEntered_ctc : (evacuationEntered general cause fireGroup s).ctc = s.ctc :=
  evacuationEntered_keeps (P := fun t => t.ctc = s.ctc) general cause fireGroup s (fun h => by simpa using h) rfl

theorem evacuationEntered_clc : (evacuationEntered general cause fireGroup s).clc = s.clc :=
  evacuationEntered_keeps (P := fun t => t.clc = s.clc) general cause fireGroup s (fun h => by simpa using h) rfl

theorem evacuationEntered_lpc : (evacuationEntered general cause fireGroup s).lpc = s.lpc :=
  evacuationEntered_keeps (P := fun t => t.lpc = s.lpc) general cause fireGroup s (fun h => by simpa using h) rfl
end

/-- A group that is EVACUATING at the entry started with it: `general`, by the general evacuation. -/
theorem entryGroup_cause {s : State} {general : Bool} {fireGroup : Option Nat} {g : Nat} {c : StartCause}
    (h : (entryGroup s general fireGroup g).cause? = some c) : c.code = if general then 4 else 1 := by
  unfold entryGroup at h
  cases general with
  | true => obtain rfl : StartCause.general = c := by simpa [GroupState.cause?] using h
            rfl
  | false =>
    simp only [Bool.false_eq_true, if_false] at h
    split at h
    · obtain rfl : StartCause.entry = c := by simpa [GroupState.cause?] using h
      rfl
    · simp [GroupState.cause?] at h

/-- GROUP STARTED is posted for the groups EVACUATING (R104, R111). -/
theorem foldl_postStarted_sameEvents {general : Bool} {fireGroup : Option Nat} {s : State} (gs : List Nat)
    (hgs : ∀ g ∈ gs, g ∈ evacuatingGroups (evacuateRecord general fireGroup s)) {u v : State} (h : SameEvents u v)
    (hu : u.asc = (evacuateRecord general fireGroup s).asc) :
    SameEvents (gs.foldl (fun s g => postStarted g s) u)
      (gs.foldl (fun x g => post .groupStarted g (some (if general then 4 else 1)) x) v) := by
  induction gs generalizing u v with
  | nil => exact h
  | cons g gs ih =>
    obtain ⟨hg, hrest⟩ := List.forall_mem_cons.mp hgs
    obtain ⟨hlt, hcause⟩ := List.mem_filter.mp hg
    rw [List.mem_range] at hlt
    obtain ⟨c, hc⟩ := Option.isSome_iff_exists.mp hcause
    have code : c.code = if general then 4 else 1 := by
      refine entryGroup_cause (s := s) (fireGroup := fireGroup) (g := g) ?_
      simpa [evacuateRecord, hlt] using hc
    have started : postStarted g u = post .groupStarted g (some (if general then 4 else 1)) u := by
      unfold postStarted
      rw [hu, hc, ← code]
    rw [List.foldl_cons, List.foldl_cons, started]
    exact ih hrest (h.post _ _ _) (by rw [post_asc, hu])

theorem evacuationEntered_sameEvents (general : Bool) (cause : Nat) (fireGroup : Option Nat) {s : State} {zone : Nat}
    (hz : s.asc.zone = some zone) {v : State} (h : SameEvents s v) :
    SameEvents (evacuationEntered general cause fireGroup s)
      ((evacuatingGroups (evacuateRecord general fireGroup s)).foldl
        (fun x g => post .groupStarted g (some (if general then 4 else 1)) x)
        (post .alarmEvacuate zone (some cause) v)) := by
  have zoneIs : (evacuateRecord general fireGroup s).asc.zone.getD 0 = zone := by
    have kept : (evacuateRecord general fireGroup s).asc.zone = s.asc.zone := rfl
    rw [kept, hz]
    rfl
  unfold evacuationEntered
  rw [zoneIs]
  refine foldl_postStarted_sameEvents _ (fun g hg => hg) (SameEvents.post ?_ _ _ _) (by simp)
  exact ⟨h.evq, h.cmi, h.time⟩

/-- The groups EVACUATING, as the alarm record shows them. -/
theorem evacuatingGroups_eq (s : State) : evacuatingGroups s =
    (List.range 7).filter (fun g => match s.asc.groups[g]? with
      | some (.evacuating _ _) => true
      | _ => false) := by
  refine List.filter_congr fun g _ => ?_
  rw [List.getD_eq_getElem?_getD]
  cases s.asc.groups[g]? with
  | none => rfl
  | some x => cases x <;> rfl

/-- With no window open, the entry reaches the house, the stream, the curtains and the channel in turn. -/
theorem enterEvacuate_eq (general : Bool) (cause : Nat) (fireGroup : Option Nat) {s : State}
    (hw : ∀ r ∈ s.zmn.zones, r.window = none) : enterEvacuate general cause fireGroup s =
      (groupsTold (evacuatingGroups (evacuateRecord general fireGroup s)) (seizeChannel (curtainsEvacuate
        (streamTold (s.asc.stage == .normal) (houseEvacuate (evacuationEntered general cause fireGroup s))))), []) := by
  obtain ⟨b, hb⟩ : ∃ b, b = streamTold (s.asc.stage == .normal)
    (houseEvacuate (evacuationEntered general cause fireGroup s)) := ⟨_, rfl⟩
  have zones : b.zmn = s.zmn := by
    rw [hb, streamTold_zmn]
    exact (evacuationEntered_sameCore general cause fireGroup s).zmn
  have entry : enterEvacuate general cause fireGroup s = tellEvacuate (s.asc.stage == .normal)
      (evacuatingGroups (evacuateRecord general fireGroup s)) (evacuationEntered general cause fireGroup s) := rfl
  rw [entry, tellEvacuate, ← hb, windowsTold_of_no_window (by rwa [zones])]

end Sys2Proof.Machine
end

section
/-! The entry to EVACUATE by each route, and what it leaves (R27, R33, R55, R103, R104, R109, R111, R135, R142, R160,
R162). -/

namespace Sys2Proof.Machine

/-! ### The routes into EVACUATE (R103, R105, R109) -/

section
variable {f : Fire} {s : State}

theorem takeFire_evacuate (hstage : s.asc.stage = .normal) (hroute : f.route = .evacuate)
    (hw : ∀ r ∈ s.zmn.zones, r.window = none) :
    takeFire f s = (enterEvacuate false 1 (some f.group) (recordOrigin f s)).1 := by
  have entry : fireInNormal f s = enterEvacuate false 1 (some f.group) (recordOrigin f s) := by
    simp only [fireInNormal, hroute, causeFireRoute]
  have quiet := enterEvacuate_eq false 1 (some f.group) (s := recordOrigin f s) hw
  simp only [takeFire, hstage, entry, quiet, List.foldl_nil]

theorem takeFire_general (hstage : s.asc.stage = .normal) (hroute : f.route = .general)
    (hw : ∀ r ∈ s.zmn.zones, r.window = none) :
    takeFire f s = (enterEvacuate true 5 (some f.group) (recordOrigin f s)).1 := by
  have entry : fireInNormal f s = enterEvacuate true 5 (some f.group) (recordOrigin f s) := by
    simp only [fireInNormal, hroute, causeGeneral]
  have quiet := enterEvacuate_eq true 5 (some f.group) (s := recordOrigin f s) hw
  simp only [takeFire, hstage, entry, quiet, List.foldl_nil]

theorem takeFire_investigating (hstage : s.asc.stage = .investigate) :
    takeFire f s = (enterEvacuate (f.route == .general) 2 (some f.group) s).1 := by
  simp only [takeFire, fireUnderAlarm, hstage, causeSecondFire]

theorem exec_ackTimerExpiry_due {e : Nat} (hs : Running s) (hstage : s.asc.stage = .investigate)
    (hstep : s.asc.invStep = some .awaitingAck) (he : s.asc.ackExpiry = some e) (hdue : e ≤ s.time) :
    exec .ackTimerExpiry s = .next (enterEvacuate false 3 none s).1 := by
  have runs : exec .ackTimerExpiry s = .next (running ackExpire s) := rfl
  have expired : ackDue s = true := by simp [ackDue, due, hstage, hstep, he, hdue]
  rw [runs, running_eq hs, ackExpire, if_pos expired, causeAckTimer]

theorem exec_investigationTimerExpiry_due {e : Nat} (hs : Running s) (hstage : s.asc.stage = .investigate)
    (hstep : s.asc.invStep = some .investigating) (he : s.asc.invExpiry = some e) (hdue : e ≤ s.time) :
    exec .investigationTimerExpiry s = .next (enterEvacuate false 4 none s).1 := by
  have runs : exec .investigationTimerExpiry s = .next (running invExpire s) := rfl
  have expired : invDue s = true := by simp [invDue, due, hstage, hstep, he, hdue]
  rw [runs, running_eq hs, invExpire, if_pos expired, causeInvTimer]
end

/-- Each of the five routes is an entry from an alarm record of the same stage, with the zone of the alarm. -/
theorem enterEvacuate_of_route {s t : State} {zone cause : Nat} (hw : ∀ r ∈ s.zmn.zones, r.window = none)
    (hroute : (∃ f : Fire, s.asc.stage = .normal ∧ f.route = .evacuate ∧ zone = f.zone ∧ cause = 1 ∧ t = takeFire f s) ∨
      (∃ f : Fire, s.asc.stage = .normal ∧ f.route = .general ∧ zone = f.zone ∧ cause = 5 ∧ t = takeFire f s) ∨
      (∃ f : Fire, s.asc.stage = .investigate ∧ s.asc.zone = some zone ∧ cause = 2 ∧ t = takeFire f s) ∨
      (∃ e, Running s ∧ s.asc.stage = .investigate ∧ s.asc.zone = some zone ∧ s.asc.invStep = some .awaitingAck ∧
        s.asc.ackExpiry = some e ∧ e ≤ s.time ∧ cause = 3 ∧ exec .ackTimerExpiry s = .next t) ∨
      (∃ e, Running s ∧ s.asc.stage = .investigate ∧ s.asc.zone = some zone ∧ s.asc.invStep = some .investigating ∧
        s.asc.invExpiry = some e ∧ e ≤ s.time ∧ cause = 4 ∧ exec .investigationTimerExpiry s = .next t)) :
    ∃ general fireGroup alarm, alarm.stage = s.asc.stage ∧ alarm.zone = some zone ∧
      t = (enterEvacuate general cause fireGroup (s.setAsc alarm)).1 := by
  rcases hroute with ⟨f, hn, hr, rfl, rfl, rfl⟩ | ⟨f, hn, hr, rfl, rfl, rfl⟩ | ⟨f, hi, hz, rfl, rfl⟩ |
    ⟨e, hs, hi, hz, hstep, he, hdue, rfl, hx⟩ | ⟨e, hs, hi, hz, hstep, he, hdue, rfl, hx⟩
  · exact ⟨_, _, { s.asc with zone := some f.zone, group := some f.group }, rfl, rfl, takeFire_evacuate hn hr hw⟩
  · exact ⟨_, _, { s.asc with zone := some f.zone, group := some f.group }, rfl, rfl, takeFire_general hn hr hw⟩
  · exact ⟨_, _, s.asc, rfl, hz, takeFire_investigating hi⟩
  · rw [exec_ackTimerExpiry_due hs hi hstep he hdue] at hx
    exact ⟨false, none, s.asc, rfl, hz, (Host.Outcome.next.inj hx).symm⟩
  · rw [exec_investigationTimerExpiry_due hs hi hstep he hdue] at hx
    exact ⟨false, none, s.asc, rfl, hz, (Host.Outcome.next.inj hx).symm⟩

/-! ### The house (R55) -/

/-- A circuit under the override of the evacuation: from the level last sent, or from its floor where the phase holds
one and that is higher; its handover is gone (R55). -/
def Circuit.overridden (s : State) (c : Circuit) : Circuit :=
  { c with
    override := some ⟨if s.phc.phase ∈ [Phase.houseOpen, .act, .interval] ∧ c.lastSent < c.floor then c.floor
      else c.lastSent, s.time, s.tbs.auth.alarmFade * 100⟩
    source := match c.source with | .console _ => .console none | .preset f => .preset f }

theorem overrideStart_audience (p : Phase) (c : Circuit) : overrideStart p.audience c =
    if p ∈ [Phase.houseOpen, .act, .interval] ∧ c.lastSent < c.floor then c.floor else c.lastSent := by
  cases p <;> simp [overrideStart, Phase.audience]

theorem houseEvacuate_eq (s : State) : houseEvacuate s =
    s.setHlu { s.hlu with circuits := s.hlu.circuits.map (Circuit.overridden s) } := by
  unfold houseEvacuate mapCircuits
  refine congrArg (fun l => s.setHlu { s.hlu with circuits := l }) (List.map_congr_left fun c _ => ?_)
  rw [overrideStart_audience]
  rfl

/-! ### The curtains (R135, R138, R142) -/

/-- A curtain LOWERED or released, and not raising, keeps its segment; a RAISE outstanding is replaced by STOP. -/
theorem Curtain.evacuated_of_still {c : Curtain} (hl : c.state = .lowered ∨ c.release ≠ .none)
    (hm : c.motion.map (·.up) ≠ some true) : c.evacuated =
      if c.outstanding = some .raise ∧ c.release ≠ .sent then { c with latch := some .fire, outstanding := some .stop }
      else { c with latch := some .fire } := by
  rw [Curtain.evacuated, if_pos hl, Curtain.raiseStopped, if_neg hm]
  split <;> rfl

theorem Curtain.endsUnreleased_iff (c : Curtain) : c.endsUnreleased = true ↔
    (c.state = .lowered ∨ c.release ≠ .none) ∧ c.motion.map (·.up) ≠ some true := by
  simp [Curtain.endsUnreleased]

/-- A curtain's record after the entry to EVACUATE, where the demonstration's segment ends first (R135, R142). -/
theorem evacuated_segmentEndedIf (d : Demo) (demo : Option Curtain) (c : Curtain) :
    (c.segmentEndedIf (fun c => d.running && c.endsUnreleased) demo).evacuated =
      if c.state = .lowered ∨ c.release ≠ .none then
        (if c.motion.map (·.up) = some true then { c.raiseEnded with latch := some .fire }.afterSegment
        else (fun x : Curtain => if x.outstanding = some .raise ∧ x.release ≠ .sent then
              { x with latch := some .fire, outstanding := some .stop }
            else { x with latch := some .fire })
          (if d.state ∈ [DemoState.lowering, .dwell, .raising] ∧ demo = some c then c.endMotion.afterSegment else c))
      else { c.endMotion with
        latch := some .fire
        release := .sent
        releaseRefused := false
        holdWaiting := false
        outstanding := some .release
        state := if c.state = .unknown then .unknown else .emergency } := by
  have ends : (d.running && c.endsUnreleased) = true ↔ d.state ∈ [DemoState.lowering, .dwell, .raising] ∧
      (c.state = .lowered ∨ c.release ≠ .none) ∧ c.motion.map (·.up) ≠ some true := by
    rw [Bool.and_eq_true, d.running_iff, c.endsUnreleased_iff]
  unfold Curtain.segmentEndedIf
  by_cases hl : c.state = .lowered ∨ c.release ≠ .none
  · by_cases hm : c.motion.map (·.up) = some true
    · rw [if_neg fun h => (ends.mp h.1).2.2 hm, if_pos hl, if_pos hm, Curtain.evacuated, if_pos hl, Curtain.raiseStopped,
        if_pos hm]
      rfl
    · rw [if_pos hl, if_neg hm]
      by_cases hd : d.state ∈ [DemoState.lowering, .dwell, .raising] ∧ demo = some c
      · rw [if_pos ⟨ends.mpr ⟨hd.1, hl, hm⟩, hd.2⟩, if_pos hd]
        exact Curtain.evacuated_of_still hl nofun
      · rw [if_neg fun h => hd ⟨(ends.mp h.1).1, h.2⟩, if_neg hd]
        exact Curtain.evacuated_of_still hl hm
  · rw [if_neg fun h => hl (ends.mp h.1).2.1, if_neg hl, Curtain.evacuated, if_neg hl]

/-- A curtain not LOWERED and without a release has its unit handed RELEASE (R135). -/
theorem curtainsEvacuate_release {s : State} {c : Curtain} {st : Station} (hu : (s.ctc.curtains.map (·.unit)).Nodup)
    (hn : (s.ctc.curtains.map (·.number)).Nodup) (hc : c ∈ s.ctc.curtains) (hl : c.state ≠ .lowered)
    (hr : c.release = .none) (hst : st ∈ s.lpc.stations) (haddr : st.address = c.unit) :
    st.handOver (.drive .release) ∈ (curtainsEvacuate s).lpc.stations := by
  have unreleased : ¬ (c.state = .lowered ∨ c.release ≠ .none) := fun h => h.elim hl fun h => h hr
  have held : (s.ctc.demo.running && c.endsUnreleased) = false :=
    Bool.eq_false_iff.mpr fun h => unreleased (c.endsUnreleased_iff.mp (Bool.and_eq_true _ _ ▸ h).2).1
  have handed := foldl_acted_station Curtain.evacuated_number (fun _ _ hs hc => evacuateCurtain_eq hs hc)
    (fun c => s.ctc.demo.running && c.endsUnreleased) 2 hn (curtainsEvacuate_eq s) hu hc held hst haddr
  simpa [Curtain.evacuateDrives, unreleased, Station.handed, haddr] using handed

/-! ### The entry -/

/-- `t` is the part after the entry to EVACUATE from `s`, and `b` is it once the house and the stream are told. -/
structure Entered (general : Bool) (cause : Nat) (fireGroup : Option Nat) (asleep builds : Bool) (s b t : State) :
    Prop where
  told : StreamTold asleep builds (houseEvacuate (evacuationEntered general cause fireGroup s)) b
  taken : t = groupsTold (evacuatingGroups (evacuateRecord general fireGroup s)) (seizeChannel (curtainsEvacuate b))

theorem entered_of_enterEvacuate {general : Bool} {cause : Nat} {fireGroup : Option Nat} {asleep builds : Bool}
    {s t : State} (hw : ∀ r ∈ s.zmn.zones, r.window = none)
    (hasleep : asleep = decide (s.asc.stage = .normal ∧ (s.srx.state = .noStream ∨ s.srx.state = .quiet)))
    (hrun : asleep = true → s.fbl.running = false) (hbuilds : builds = (asleep || (sendingLevel s && s.fbl.running)))
    (ht : t = (enterEvacuate general cause fireGroup s).1) : ∃ b, Entered general cause fireGroup asleep builds s b t := by
  have core := evacuationEntered_sameCore general cause fireGroup s
  refine ⟨_, streamTold_told (leaving := s.asc.stage == .normal) ?_ ?_ ?_, ?_⟩
  · simp [hasleep, houseEvacuate_eq, core.srx, evacuateRecord]
  · simpa [houseEvacuate_eq, core.fbl, evacuateRecord] using hrun
  · simp [hbuilds, houseEvacuate_eq, core.fbl, core.time, evacuateRecord, sendingLevel]
  · rw [ht, enterEvacuate_eq general cause fireGroup hw]

section
variable {general : Bool} {cause : Nat} {fireGroup : Option Nat} {asleep builds : Bool} {s b t : State}
  (h : Entered general cause fireGroup asleep builds s b t)
include h

theorem Entered.sameCore : SameCore b t := by
  rw [h.taken]
  exact ((curtainsEvacuate_driven b).abandoned_sameCore.trans
    (seizeChannel_kept (keptByCalls_sameCore _) _ ⟨.refl _, rfl⟩).1).trans (groupsTold_sameCore _ _)

theorem Entered.asc : t.asc = (evacuateRecord general fireGroup s).asc := by
  rw [h.sameCore.asc, h.told.asc, houseEvacuate_eq, State.setHlu_asc,
    (evacuationEntered_sameCore general cause fireGroup s).asc]

theorem Entered.curtainsBefore : b.ctc = s.ctc := by
  rw [h.told.ctc, houseEvacuate_eq, State.setHlu_ctc, evacuationEntered_ctc]

theorem Entered.callsBefore : b.clc = s.clc := by
  rw [h.told.clc, houseEvacuate_eq, State.setHlu_clc, evacuationEntered_clc]

theorem Entered.loopBefore : b.lpc = s.lpc := by
  rw [h.told.lpc, houseEvacuate_eq, State.setHlu_lpc, evacuationEntered_lpc]

theorem Entered.ctc : t.ctc = (curtainsEvacuate b).ctc := by
  rw [h.taken, (groupsTold_kept (keptByCalls_sameCore _) _ _ ⟨.refl _, rfl⟩).2,
    (seizeChannel_kept (keptByCalls_sameCore _) _ ⟨.refl _, rfl⟩).2]

theorem Entered.sameBuild : SameBuild (houseEvacuate (evacuationEntered general cause fireGroup s))
    ((s.setAsc t.asc).setHlu { s.hlu with circuits := s.hlu.circuits.map (Circuit.overridden s) }) := by
  have core := evacuationEntered_sameCore general cause fireGroup s
  have records := evacuationEntered_ctc general cause fireGroup s
  have house : Circuit.overridden (evacuationEntered general cause fireGroup s) = Circuit.overridden s := by
    funext c
    simp [Circuit.overridden, core.phc, core.time, core.tbs, evacuateRecord]
  rw [houseEvacuate_eq, house]
  constructor
  · exact core.time
  · exact core.phc
  · exact congrArg Stream.table core.srx
  · exact congrArg Stream.valid core.srx
  · exact congrArg (fun x : House => { x with circuits := x.circuits.map (Circuit.overridden s) }) core.hlu
  · exact congrArg Alarm.stage (core.asc.trans h.asc.symm)
  · exact fun n => by simp only [curtainStateOf, State.setHlu_ctc, State.setAsc_ctc, records]
  · exact congrArg (fun x : TableStore => x.active.slot) core.tbs

/-- The events of the entry, before the channel is seized. -/
theorem Entered.events {u : State} (hu : SameEvents (evacuationEntered general cause fireGroup s) u) :
    SameEvents (curtainsEvacuate b)
      (abandonEvent 2 s ((if asleep then post .streamLost 0 (some s.srx.state.code) else id) u)) := by
  have core := evacuationEntered_sameCore general cause fireGroup s
  have heard := h.told.events
  have stream : (houseEvacuate (evacuationEntered general cause fireGroup s)).srx = s.srx := core.srx
  have house : SameEvents (houseEvacuate (evacuationEntered general cause fireGroup s))
      (evacuationEntered general cause fireGroup s) := ⟨rfl, rfl, rfl⟩
  rw [stream] at heard
  refine (curtainsEvacuate_driven b).abandoned_sameEvents.trans ?_
  rw [abandonEvent_congr h.curtainsBefore]
  exact (heard.trans ((house.trans hu).postIf _ _ _ _)).abandonEvent 2 s

theorem Entered.tablesSeized : (seizeChannel (curtainsEvacuate b)).tbs = s.tbs := by
  rw [(seizeChannel_kept (keptByCalls_sameCore _) _ ⟨.refl _, rfl⟩).1.tbs,
    (curtainsEvacuate_driven b).abandoned_sameCore.tbs, h.told.tbs]
  exact (evacuationEntered_sameCore general cause fireGroup s).tbs

/-- The calls and the events, from those of the seizure: the zones of the groups join. -/
theorem Entered.calls {zones : FohSet} (hz : zones = ((evacuatingGroups (evacuateRecord general fireGroup s)).map
      (groupFoh s.tbs.active.zone)).foldl (· ||| ·) 0) :
    t.clc = { (seizeChannel (curtainsEvacuate b)).clc with evacZones := zones } ∧
    SameEvents t (seizeChannel (curtainsEvacuate b)) := by
  rw [h.taken]
  refine ⟨?_, groupsTold_sameEvents _ _⟩
  rw [groupsTold_clc, (seizeChannel_evacZones _).2, h.tablesSeized, hz]

/-- The unit PRESENT is handed the repeated PLAY of the zones of the evacuation (R162). -/
theorem Entered.plays {zones : FohSet} (hz : zones = ((evacuatingGroups (evacuateRecord general fireGroup s)).map
      (groupFoh s.tbs.active.zone)).foldl (· ||| ·) 0) {e : ScheduleEntry} {st : Station}
    (hch : t.clc.channel = .evacuation) (he : scheduleEntry? s.tbs.active.schedule = some e) (hm : e.evacMessage ≠ 0)
    (hne : zones ≠ 0) (hp : s.clc.announcer = .present)
    (hst : s.lpc.stations.find? (fun x => x.kind == .announcer) = some st)
    (hr : st.pending.map (·.1) ≠ some (.drive .release)) :
    ∃ x ∈ t.lpc.stations, x.address = st.address ∧ x.kind = .announcer ∧ x.pending.map (·.1) =
      some (.play e.evacMessage (messageKind s e.evacMessage) zones true) := by
  have driven := curtainsEvacuate_driven b
  have calls := (h.calls hz).1
  have hears : HearsAt st.address (curtainsEvacuate b) :=
    ⟨st, driven.find_announcer (by rwa [abandonDemo_lpc, h.loopBefore]), rfl, hr⟩
  obtain ⟨announcer, none⟩ := seizeChannel_evacZones (curtainsEvacuate b)
  have seized : Evacuating e st.address (messageKind s e.evacMessage) (seizeChannel (curtainsEvacuate b)) :=
    { entry := by rwa [h.tablesSeized]
      kindIs := by simp only [messageKind, h.tablesSeized]
      channel := by rw [calls] at hch; exact hch
      present := by rw [announcer, driven.abandoned_clc, h.callsBefore, hp]
      hears := (keptBySpeech_hearsAt _).seizeChannel hears
      plays := fun hne => absurd none hne }
  have told := (groupsTold_evacuating hm seized (evacuatingGroups (evacuateRecord general fireGroup s))).plays
  rw [← h.taken, calls] at told
  exact told hne
end

/-- Settles O30: each route is an entry from an alarm record, which reaches the house, the stream, the curtains and the
channel in turn. -/
theorem entryToEvacuateReachesTheHouse : Obligations.EntryToEvacuateReachesTheHouse := by
  intro s t u v zone cause gs zones asleep builds lit held hroute hw hasleep hrun hbuilds hgs hzones hu hv hlit hheld
  obtain rfl : held = Curtain.afterSegment := funext hheld
  obtain ⟨general, fireGroup, alarm, hstage, hzone, ht⟩ := enterEvacuate_of_route hw hroute
  obtain ⟨b, h⟩ := entered_of_enterEvacuate (s := s.setAsc alarm) (asleep := asleep) (builds := builds) hw
    (by rw [hasleep, ← hstage]; rfl) hrun hbuilds ht
  have core := evacuationEntered_sameCore general cause fireGroup (s.setAsc alarm)
  obtain ⟨a, ha⟩ : ∃ a, a = houseEvacuate (evacuationEntered general cause fireGroup (s.setAsc alarm)) := ⟨_, rfl⟩
  have same : SameBuild a lit := by
    rw [hlit, ha]
    exact h.sameBuild
  have told : StreamTold asleep builds a b := by
    rw [ha]
    exact h.told
  have output : a.fbl = s.fbl := by rw [ha]; exact core.fbl
  have now : a.time = s.time := by rw [ha]; exact core.time
  have driven := curtainsEvacuate_driven b
  have drove := h.sameCore
  have demoB : demoCurtain b = demoCurtain s := by simp only [demoCurtain, h.curtainsBefore]; rfl
  have generalIs : t.asc.general = general := by rw [h.asc]; rfl
  have gsIs : gs = evacuatingGroups (evacuateRecord general fireGroup (s.setAsc alarm)) := by
    rw [hgs, h.asc]
    exact (evacuatingGroups_eq _).symm
  have zonesIs := hzones
  rw [gsIs] at zonesIs
  obtain ⟨calls, seizes⟩ := h.calls zonesIs
  have before : SameEvents (curtainsEvacuate b) v := by
    have entered : SameEvents (evacuationEntered general cause fireGroup (s.setAsc alarm)) u := by
      rw [hu, gsIs, generalIs]
      exact evacuationEntered_sameEvents general cause fireGroup hzone ⟨rfl, rfl, rfl⟩
    have events := h.events entered
    have tells : v = abandonEvent 2 s ((if asleep then post .streamLost 0 (some s.srx.state.code) else id) u) := by
      rw [hv]
      cases hd : demoCurtain s with
      | none => rw [abandonEvent_of_none hd]
      | some c => rw [abandonEvent_of_some hd]
    rwa [tells]
  have clc : (curtainsEvacuate b).clc = s.clc := driven.abandoned_clc.trans h.callsBefore
  have stage : (curtainsEvacuate b).asc.stage = .evacuate := by
    rw [driven.abandoned_sameCore.asc, told.asc, ha]
    exact congrArg Alarm.stage core.asc
  refine ⟨by rw [h.asc]; rfl, by rw [h.asc]; rfl, by rw [h.asc]; exact hzone, by rw [h.asc]; rfl,
    ?_, ?_, ?_, ?_, ?_, ?_, ?_, ?_, ?_, ?_, ?_, ?_, ?_, ?_, ?_, ?_, ?_, ?_⟩
  · rw [drove.phc, told.phc, ha]; exact core.phc
  · rw [drove.tbs, told.tbs, ha]; exact core.tbs
  · rw [drove.zmn, told.zmn, ha]; exact core.zmn
  · rw [drove.time, told.time, now]
  · have stream : a.srx = s.srx := by rw [ha]; exact core.srx
    rw [drove.srx, told.srx, stream]
  · have cues : a.crg = s.crg := by rw [ha]; exact core.crg
    rw [drove.crg, told.crg, cues]
  · rintro rfl
    rw [drove.hlu, told.hlu, same.hlu]; rfl
  · rintro rfl
    rw [drove.hlu, told.hlu, funext same.sent, same.hlu, hlit]; rfl
  · have sends : sendingLevel a = sendingLevel s := by simp only [sendingLevel, output, now]
    have slots : frameSlots lit = frameSlots s := by rw [hlit]; rfl
    rw [drove.fbl, told.fbl, same.frameSlots, same.buildLevels, output, now, sends, slots]
  · intro c hc hd
    rw [h.ctc, driven.abandoned_demo, abandonedDemo_of_some (demoB.trans hc) (by rwa [h.curtainsBefore]),
      h.curtainsBefore]; rfl
  · intro hd
    rw [h.ctc, driven.abandoned_demo, abandonedDemo_of_idle (by rwa [h.curtainsBefore]), h.curtainsBefore]; rfl
  · intro hn
    rw [h.ctc, foldl_acted_curtains Curtain.evacuated_number (fun _ _ hs hc => evacuateCurtain_eq hs hc) _ 2
      (by rwa [h.curtainsBefore]) (curtainsEvacuate_eq b), demoB, h.curtainsBefore]
    refine List.map_congr_left fun c _ => (evacuated_segmentEndedIf _ _ c).trans ?_
    simp only [← Ownership.ended_eq]
    rfl
  · intro c st hun hn hc hl hr hst haddr hk
    have handed := curtainsEvacuate_release (s := b) (by rwa [h.curtainsBefore]) (by rwa [h.curtainsBefore])
      (by rwa [h.curtainsBefore]) hl hr (by rwa [h.loopBefore]) haddr
    have unit := keptBySpeech_driveUnit ((st.handOver_kind (.drive .release)).trans hk)
    rw [h.taken]
    exact unit.groupsTold (unit.seizeChannel handed) _
  · intro e st hch _ he hm hne hp hst hr
    exact h.plays zonesIs hch he hm hne hp hst hr
  · intro hidle
    have seized := seizeChannel_idle (s := curtainsEvacuate b) (by rwa [clc])
    have events : SameEvents t v := seizes.trans (by rw [seized]; exact ⟨before.evq, before.cmi, before.time⟩)
    refine ⟨events.evq, events.cmi, ?_⟩
    rw [calls, seized, clc]
    rfl
  · intro c hplay hc
    obtain ⟨seized, drops⟩ := seizeChannel_playing (s := curtainsEvacuate b) (by rwa [clc]) (by rwa [clc])
    have events := (seizes.trans drops).trans (before.post _ _ _)
    refine ⟨events.evq, events.cmi, ?_⟩
    rw [calls, seized, clc]
  · intro a hpage hh
    have seized := seizeChannel_fire (s := curtainsEvacuate b) (by rwa [clc]) (by rwa [clc])
    have events : SameEvents t v := seizes.trans (by rw [seized]; exact ⟨before.evq, before.cmi, before.time⟩)
    refine ⟨events.evq, events.cmi, ?_⟩
    rw [calls, seized, clc]
    rfl
  · intro a cls hpage hh hcls
    obtain ⟨seized, revokes⟩ := seizeChannel_page (s := curtainsEvacuate b) (by rwa [clc]) (by rwa [clc]) hcls stage
    have events := (seizes.trans revokes).trans (before.post _ _ _)
    refine ⟨events.evq, events.cmi, ?_⟩
    rw [calls, seized, clc]

end Sys2Proof.Machine
end

section
/-! A warm restart (R36, R60, R142, R145, R166, R178, R182, R191, R202): what each owner's restart leaves. -/

namespace Sys2Proof.Machine

/-! ### TBS: a PENDING commit is ABORTED, and the staging areas emptied (R202) -/

/-- The commit record after a warm restart (R202). -/
def State.commitAborted (s : State) : CommitStatus :=
  if s.tbs.commit.current = .pending then ⟨.aborted, s.tbs.commit.previous, s.tbs.commit.tables, none, s.time⟩
  else s.tbs.commit

theorem post_setTbs (e : Event) (index : Nat) (arg : Option Nat) (s : State) (x : TableStore) :
    post e index arg (s.setTbs x) = (post e index arg s).setTbs x := by
  simp only [post, postAt_eq]
  rfl

theorem reopenQueued_eq (s : State) : ∃ x, reopenQueued s = s.setTbs { s.tbs with staging := x } := by
  unfold reopenQueued
  refine foldl_kept (P := fun u => ∃ x, u = s.setTbs { s.tbs with staging := x }) _ (fun u i hu => ?_) s ⟨_, rfl⟩
  obtain ⟨x, rfl⟩ := hu
  split
  · exact ⟨_, rfl⟩
  · exact ⟨x, rfl⟩

theorem storeRestart_eq (s : State) : storeRestart s =
    ((if s.tbs.commit.current = .pending then post .commitAborted 0 none else id) s).setTbs
      { s.tbs with staging := ⟨{}, {}, {}, {}, {}, {}, {}, {}⟩, commit := s.commitAborted } := by
  unfold storeRestart State.commitAborted
  by_cases h : s.tbs.commit.current = .pending
  · obtain ⟨x, hx⟩ := reopenQueued_eq s
    have aborted : emptyStaging (abortPending s) = s.setTbs { s.tbs with
        staging := ⟨{}, {}, {}, {}, {}, {}, {}, {}⟩
        commit := ⟨.aborted, s.tbs.commit.previous, s.tbs.commit.tables, none, s.time⟩ } := by
      simp only [abortPending, changeCommit, hx, emptyStaging, State.setTbs_tbs, State.setTbs_setTbs, h, if_true]
      rfl
    rw [if_pos (by simp [commitPending, h]), aborted, if_pos h, if_pos h, post_setTbs]
  · rw [if_neg (by simp [commitPending, h]), if_neg h, if_neg h]
    rfl

/-! ### CLC: the channel is given up, or seized in EVACUATE (R166) -/

theorem foldl_or_filter (p : Nat → Bool) (zones : Nat → FohSet) (l : List Nat) (z : FohSet) :
    (l.map fun i => if p i then zones i else 0).foldl (· ||| ·) z = ((l.filter p).map zones).foldl (· ||| ·) z := by
  induction l generalizing z with
  | nil => rfl
  | cons i l ih =>
    rw [List.map_cons, List.foldl_cons, ih, List.filter_cons]
    cases p i with
    | true => rfl
    | false => simp

/-- The union of the zones of the EVACUATING groups, by the group's number. -/
theorem evacuatingZones_eq (s : State) : evacuatingZones s =
    (((List.range s.asc.groups.length).filter fun g => match s.asc.groups[g]? with
      | some (.evacuating _ _) => true
      | _ => false).map (groupFoh s.tbs.active.zone)).foldl (· ||| ·) 0 := by
  rw [← foldl_or_filter, evacuatingZones]
  refine congrArg (List.foldl (· ||| ·) 0) (List.ext_getElem (by simp) fun i hi _ => ?_)
  have hlt : i < s.asc.groups.length := by simpa using hi
  simp only [List.getElem_map, List.getElem_zipIdx, List.getElem_range, Nat.zero_add, List.getElem?_eq_getElem hlt]
  cases s.asc.groups[i] <;> rfl

theorem post_setClc (e : Event) (index : Nat) (arg : Option Nat) (s : State) (x : Calls) :
    post e index arg (s.setClc x) = (post e index arg s).setClc x := by
  simp only [post, postAt_eq]
  rfl

/-- The call record after a warm restart (R166). -/
def State.callsRestarted (s : State) : Calls :=
  { owing := s.clc.showing
    showing := s.clc.showing
    revokeOwed := match s.clc.holder with
      | some (a, _) => a :: s.clc.revokeOwed.filter fun x => x != a
      | none => s.clc.revokeOwed
    channel := if s.asc.stage = .evacuate then .evacuation else .idle
    evacZones := if s.asc.stage = .evacuate then evacuatingZones s else 0
    evacRefused := s.clc.evacRefused
    unitReport := s.clc.unitReport }

/-- PAGE REVOKED, where a station holds the page at a warm restart (R166). -/
def revokeEvent (s : State) : State → State :=
  match s.clc.holder with
  | some (a, _) => post .pageRevoked a (some 4)
  | none => id

theorem callsRestart_eq (s : State) : callsRestart s = (revokeEvent s s).setClc s.callsRestarted := by
  unfold callsRestart State.callsRestarted revokeEvent
  cases s.clc.holder with
  | none => rfl
  | some p =>
    have zones (x : Calls) : evacuatingZones ((post .pageRevoked p.1 (some revokedRestart) s).setClc x) =
        evacuatingZones s := by simp [evacuatingZones]
    simp only [post_setClc, State.setClc_clc, State.setClc_setClc, State.setClc_asc, post_asc, zones]
    rfl

/-! ### CTC: the curtains' states are kept (R145) -/

/-- The numbers of the curtains with their states. -/
def curtainStates (s : State) : List (Nat × CurtainState) := s.ctc.curtains.map fun c => (c.number, c.state)

theorem curtainStateOf_eq (s : State) (n : Nat) :
    curtainStateOf s n = ((curtainStates s).find? fun x => x.1 == n).map (·.2) := by
  simp [curtainStateOf, curtainStates, List.find?_map, Function.comp_def]

theorem modCurtain_curtainStates {f : Curtain → Curtain} (hf : ∀ c, (f c).number = c.number ∧ (f c).state = c.state)
    (n : Nat) (s : State) : curtainStates (modCurtain n f s) = curtainStates s := by
  simp only [curtainStates, modCurtain, State.setCtc_ctc, List.map_map]
  refine List.map_congr_left fun c _ => ?_
  dsimp only [Function.comp_apply]
  split
  · rw [(hf c).1, (hf c).2]
  · rfl

theorem issueDrive_curtainStates (n : Nat) (cmd : DriveCmd) (s : State) :
    curtainStates (issueDrive n cmd s) = curtainStates s := by
  unfold issueDrive
  split
  · rfl
  · split
    · rfl
    · refine modCurtain_curtainStates ?_ n s
      exact fun c => ⟨rfl, rfl⟩

theorem restartCurtain_curtainStates (n : Nat) (s : State) :
    curtainStates (restartCurtain n s) = curtainStates s := by
  have stopped : curtainStates (modCurtain n (fun c => { c.endMotion with holdWaiting := false, outstanding := none }) s) =
      curtainStates s := by
    refine modCurtain_curtainStates ?_ n s
    exact fun c => ⟨rfl, rfl⟩
  unfold restartCurtain
  dsimp only
  split
  · rfl
  · split
    · rw [issueDrive_curtainStates, stopped]
    · split
      · rw [issueDrive_curtainStates, stopped]
      · exact stopped

theorem curtainsRestart_curtainStates (s : State) : curtainStates (curtainsRestart s) = curtainStates s := by
  have begun : curtainStates (abandonDemo abandonRestart s) = curtainStates s := by
    simp only [curtainStates, abandonDemo_ctc]
  exact foldl_kept (P := fun u => curtainStates u = curtainStates s) _
    (fun u n hu => (restartCurtain_curtainStates n u).trans hu) _ begun

/-- A curtain's segment is not ended before a warm restart. -/
theorem curtainsRestart_eq (s : State) : curtainsRestart s = (s.ctc.curtains.map (·.number)).foldl
    (fun s n => restartCurtain n s) (endSegmentIf (fun _ => false) (abandonDemo 3 s)) := by
  have unended (u : State) : endSegmentIf (fun _ => false) u = u := by
    unfold endSegmentIf
    split <;> rfl
  rw [unended]
  rfl

theorem segmentEndedIf_false (demo : Option Curtain) (c : Curtain) : c.segmentEndedIf (fun _ => false) demo = c :=
  if_neg fun h => Bool.false_ne_true h.1

/-! ### FBL and HLU: a frame of the levels built now, where the stream is OK or LOST (R36, R60) -/

theorem fblRestart_of_flying {s : State} (h : s.srx.state = .ok ∨ s.srx.state = .lost) : fblRestart s =
    (s.setHlu { s.hlu with circuits := s.hlu.circuits.map (Circuit.sent s) }).setFbl {
      running := true
      expiry := some (s.time + 25)
      holding := none
      lastOther := false
      frame := if frameSlots s = 0 then (if sendingFrame s then none else s.fbl.frame)
        else some ⟨false, s.time, buildLevels s, sendingFrame s⟩ } := by
  rw [fblRestart, if_pos h, buildAndSend_eq]
  rfl

theorem fblRestart_of_silent {s : State} (h : ¬ (s.srx.state = .ok ∨ s.srx.state = .lost)) :
    fblRestart s = s.setFbl ⟨false, none, none, false, none⟩ := if_neg h

/-! ### The restart before CTC's (R36, R182, R191, R202) -/

/-- `x` is `s` after the restart of the links, LPC, SRX, CRG and TBS: `e` is the part with the records of EVQ and CMI
afresh. -/
structure RestartBegun (s e x : State) : Prop where
  time : x.time = s.time
  phc : x.phc = s.phc
  srx : x.srx = { s.srx with receiving := false }
  fbl : x.fbl = s.fbl
  hlu : x.hlu = s.hlu
  zmn : x.zmn = s.zmn
  asc : x.asc = s.asc
  ctc : x.ctc = s.ctc
  clc : x.clc = s.clc
  active : x.tbs.active = s.tbs.active
  commit : x.tbs.commit = s.commitAborted
  stations : x.lpc.stations = s.lpc.stations.map Station.afresh
  events : SameEvents x ((if s.tbs.commit.current = .pending then post .commitAborted 0 none else id)
    (post .restarted 0 (some 1) e))

theorem restartBegun (s : State) : RestartBegun s (linkRestart s)
    (storeRestart (streamRestart (loopRestart (post .restarted 0 (some 1) (linkRestart s))))) := by
  obtain ⟨w, hw⟩ : ∃ w, w = post .restarted 0 (some 1) (linkRestart s) := ⟨_, rfl⟩
  have linked : SameCore s w ∧ w.ctc = s.ctc ∧ w.clc = s.clc ∧ w.lpc = s.lpc := by
    rw [hw]
    refine ⟨?_, by simp [linkRestart], by simp [linkRestart], by simp [linkRestart]⟩
    constructor <;> simp [linkRestart]
  obtain ⟨core, ctc, clc, lpc⟩ := linked
  rw [← hw]
  obtain ⟨u, hu⟩ : ∃ u, u = streamRestart (loopRestart w) := ⟨_, rfl⟩
  have tables : u.tbs = s.tbs := by rw [hu]; exact core.tbs
  have now : u.time = s.time := by rw [hu]; exact core.time
  obtain ⟨y, hy⟩ : ∃ y, y = (if s.tbs.commit.current = .pending then post .commitAborted 0 none else id) u := ⟨_, rfl⟩
  have posted : SameCore u y ∧ y.ctc = u.ctc ∧ y.clc = u.clc ∧ y.lpc = u.lpc := by
    rw [hy]
    split
    · exact ⟨sameCore_postRecord _ u, by simp, by simp, by simp⟩
    · exact ⟨.refl u, rfl, rfl, rfl⟩
  obtain ⟨coreY, ctcY, clcY, lpcY⟩ := posted
  have heard : SameEvents y ((if s.tbs.commit.current = .pending then post .commitAborted 0 none else id) w) := by
    have same : SameEvents u w := by rw [hu]; exact ⟨rfl, rfl, rfl⟩
    rw [hy]
    exact same.postIf _ _ _ _
  have restarted := storeRestart_eq u
  rw [tables, ← hy] at restarted
  rw [← hu, restarted]
  exact
    { time := coreY.time.trans now
      phc := coreY.phc.trans (by rw [hu]; exact core.phc)
      srx := coreY.srx.trans (by rw [hu, ← core.srx]; rfl)
      fbl := coreY.fbl.trans (by rw [hu]; exact core.fbl)
      hlu := coreY.hlu.trans (by rw [hu]; exact core.hlu)
      zmn := coreY.zmn.trans (by rw [hu]; exact core.zmn)
      asc := coreY.asc.trans (by rw [hu]; exact core.asc)
      ctc := ctcY.trans (by rw [hu]; exact ctc)
      clc := clcY.trans (by rw [hu]; exact clc)
      active := rfl
      commit := by simp only [State.setTbs_tbs, State.commitAborted, tables, now]
      stations := (congrArg Loop.stations lpcY).trans (by rw [hu, ← lpc]; rfl)
      events := by rw [← hw]; exact ⟨heard.evq, heard.cmi, heard.time⟩ }

/-- Where each number and each unit stands once, each unit is handed what its curtain's restart gives (R145). -/
theorem curtainsRestart_stations {s : State} (hn : (s.ctc.curtains.map (·.number)).Nodup)
    (hu : (s.ctc.curtains.map (·.unit)).Nodup) : (curtainsRestart s).lpc.stations = s.lpc.stations.map fun st =>
      match s.ctc.curtains.find? fun c => c.unit == st.address with
      | some c =>
        if c.release = .sent then st.handOver (.drive .release)
        else if c.motion.isSome then st.handOver (.drive .stop)
        else st
      | none => st := by
  obtain ⟨ds, acts, hds⟩ := foldl_acted_abandoned (f := Curtain.restarted) (fun c => rfl)
    (fun _ _ hs hc => restartCurtain_eq hs hc) _ 3 hn (curtainsRestart_eq s)
  obtain rfl : ds = [] := List.eq_nil_iff_forall_not_mem.mpr fun d hd => by
    obtain ⟨_, -, hb, -⟩ := hds d hd
    exact Bool.false_ne_true hb
  rw [acts, handAll_eq, State.setCtc_lpc, State.setLpc_lpc, abandonDemo_lpc,
    funext (segmentEndedIf_false (demoCurtain s)), List.map_id', List.nil_append]
  refine List.map_congr_left fun st _ => ?_
  rw [Station.handed_drivesOf _ _ hu]
  cases hc : s.ctc.curtains.find? fun c => c.unit == st.address with
  | none => rfl
  | some c =>
    have addr : c.unit = st.address := by simpa using List.find?_some hc
    simp only [Curtain.restartDrives, addr]
    split
    · simp [Station.handed]
    · split
      · simp [Station.handed]
      · rfl

theorem SameEvents.revokeEvent {u v : State} (h : SameEvents u v) (s : State) :
    SameEvents (revokeEvent s u) (revokeEvent s v) := by
  unfold Machine.revokeEvent
  cases s.clc.holder with
  | none => exact h
  | some p => exact h.post _ _ _

theorem revokeEvent_lpc (s u : State) : (revokeEvent s u).lpc = u.lpc := by
  unfold revokeEvent
  cases s.clc.holder with
  | none => rfl
  | some p => exact post_lpc _ _ _ _

/-- Attention is evaluated alike after the same events. -/
theorem SameEvents.evaluateAttention {u v : State} (h : SameEvents u v) :
    SameEvents (evaluateAttention u) (evaluateAttention v) := by
  rw [evaluateAttention_eq, evaluateAttention_eq]
  exact ⟨congrArg Events.evaluated h.evq, h.cmi, h.time⟩

/-- FBL's restart changes its own record and HLU's alone. -/
theorem fblRestart_others (s : State) : (fblRestart s).tbs = s.tbs ∧ (fblRestart s).ctc = s.ctc ∧
    (fblRestart s).lpc = s.lpc ∧ (fblRestart s).clc = s.clc ∧ (fblRestart s).zmn = s.zmn ∧
    SameEvents (fblRestart s) s := by
  by_cases h : s.srx.state = .ok ∨ s.srx.state = .lost
  · rw [fblRestart_of_flying h]
    exact ⟨rfl, rfl, rfl, rfl, rfl, rfl, rfl, rfl⟩
  · rw [fblRestart_of_silent h]
    exact ⟨rfl, rfl, rfl, rfl, rfl, rfl, rfl, rfl⟩

/-- With no window open, the zones have no fire held. -/
theorem zonesRestart_of_no_window {s : State} (h : ∀ r ∈ s.zmn.zones, r.window = none) : zonesRestart s =
    s.setZmn { s.zmn with zones := s.zmn.zones.map fun r => { r with deferred := false } } := by
  rw [zonesRestart, closeAllWindows_of_no_window h]

/-- The restart of the links, and of each owner up to CLC, leaves what a build reads (R36). -/
theorem RestartBegun.sameBuild {s e a b : State} (h : RestartBegun s e a) (hb : b = callsRestart (curtainsRestart a)) :
    SameBuild b s ∧ sendingFrame b = sendingFrame s := by
  have drove := (curtainsRestart_driven a).abandoned_sameCore
  obtain ⟨core, records⟩ := callsRestart_kept (keptByCalls_sameCore (curtainsRestart a)) _ ⟨.refl _, rfl⟩
  rw [← hb] at core records
  have output : b.fbl = s.fbl := core.fbl.trans (drove.fbl.trans h.fbl)
  have now : b.time = s.time := core.time.trans (drove.time.trans h.time)
  have stream : b.srx = { s.srx with receiving := false } := core.srx.trans (drove.srx.trans h.srx)
  refine ⟨⟨now, core.phc.trans (drove.phc.trans h.phc), by rw [stream], by rw [stream],
    core.hlu.trans (drove.hlu.trans h.hlu), by rw [core.asc, drove.asc, h.asc], fun n => ?_, ?_⟩, ?_⟩
  · have states : curtainStates b = curtainStates s := by
      rw [curtainStates, records]
      refine (curtainsRestart_curtainStates a).trans ?_
      rw [curtainStates, h.ctc, curtainStates]
    rw [curtainStateOf_eq, curtainStateOf_eq, states]
  · rw [core.tbs, drove.tbs, h.active]
  · simp only [sendingFrame, output, now]

/-- The call record after the restarts before CLC's. -/
theorem RestartBegun.callsRestarted {s e a : State} (h : RestartBegun s e a) :
    (curtainsRestart a).callsRestarted = s.callsRestarted := by
  have driven := curtainsRestart_driven a
  have zones : evacuatingZones (curtainsRestart a) = evacuatingZones s := by
    simp only [evacuatingZones, driven.abandoned_sameCore.asc, driven.abandoned_sameCore.tbs, h.asc, h.active]
  simp only [State.callsRestarted, zones, driven.abandoned_clc, driven.abandoned_sameCore.asc, h.clc, h.asc]

/-- The events of a warm restart, before ATTENTION is evaluated (R142, R166, R191, R202). -/
theorem RestartBegun.callsRestart_events {s e a : State} (h : RestartBegun s e a) {v : State}
    (hv : SameEvents (post .restarted 0 (some 1) e) v) : SameEvents (callsRestart (curtainsRestart a))
      (revokeEvent s (abandonEvent 3 s
        ((if s.tbs.commit.current = .pending then post .commitAborted 0 none else id) v))) := by
  have driven := curtainsRestart_driven a
  have revokes : revokeEvent (curtainsRestart a) = revokeEvent s := by
    simp only [revokeEvent, driven.abandoned_clc, h.clc]
  have told : SameEvents (callsRestart (curtainsRestart a)) (revokeEvent (curtainsRestart a) (curtainsRestart a)) := by
    rw [callsRestart_eq]
    exact ⟨rfl, rfl, rfl⟩
  rw [revokes] at told
  refine told.trans (SameEvents.revokeEvent ?_ s)
  refine driven.abandoned_sameEvents.trans ?_
  rw [abandonEvent_congr h.ctc]
  exact (h.events.trans (hv.postIf _ _ _ _)).abandonEvent 3 s

/-- Settles O5: each owner's restart reads nothing that the restarts before it changed, but for the records of LPC. -/
theorem warmRestartReachesEveryOwner : Obligations.WarmRestartReachesEveryOwner := by
  intro s e flying union hs harmed hw hflying hunion he
  obtain ⟨a, ha⟩ : ∃ a, a = storeRestart (streamRestart (loopRestart (post .restarted 0 (some 1)
    (linkRestart (s.setRestartArmed false))))) := ⟨_, rfl⟩
  have begun : RestartBegun (s.setRestartArmed false) (linkRestart (s.setRestartArmed false)) a := by
    rw [ha]
    exact restartBegun _
  obtain ⟨b, hb⟩ : ∃ b, b = callsRestart (curtainsRestart a) := ⟨_, rfl⟩
  have runs : exec .restartPulse s = .next (evaluateAttention (zonesRestart (fblRestart b))) := by
    have pulse : exec .restartPulse s = .next (restartPulse s) := rfl
    have held : s.resetHeld = false := hs
    rw [pulse, restartPulse, if_pos harmed, if_neg (by simp [held]), hb, ha]
    rfl
  have driven := curtainsRestart_driven a
  obtain ⟨core, records⟩ := callsRestart_kept (keptByCalls_sameCore (curtainsRestart a)) _ ⟨.refl _, rfl⟩
  rw [← hb] at core records
  have stream : b.srx.state = s.srx.state := by
    rw [core.srx, driven.abandoned_sameCore.srx, begun.srx]
    rfl
  obtain ⟨same, sends⟩ := begun.sameBuild hb
  have demoA : demoCurtain a = demoCurtain s := by simp only [demoCurtain, begun.ctc]; rfl
  obtain ⟨tables, curtains, loop, calls, zones, heard⟩ := fblRestart_others b
  have windows : ∀ r ∈ (fblRestart b).zmn.zones, r.window = none := by
    rw [zones, core.zmn, driven.abandoned_sameCore.zmn, begun.zmn]
    exact hw
  refine ⟨_, runs, ?_⟩
  have restarts : evaluateAttention (zonesRestart (fblRestart b)) = ((fblRestart b).setZmn { (fblRestart b).zmn with
      zones := (fblRestart b).zmn.zones.map fun r => { r with deferred := false } }).setEvq
      (fblRestart b).evq.evaluated := by
    rw [evaluateAttention_eq, zonesRestart_of_no_window windows]
    rfl
  rw [restarts]
  dsimp only [State.setEvq_hlu, State.setEvq_fbl, State.setEvq_tbs, State.setEvq_ctc, State.setEvq_lpc, State.setEvq_clc,
    State.setEvq_evq, State.setEvq_cmi, State.setZmn_hlu, State.setZmn_fbl, State.setZmn_tbs, State.setZmn_ctc,
    State.setZmn_lpc, State.setZmn_clc, State.setZmn_evq, State.setZmn_cmi]
  have flies (hf : flying = true) : b.srx.state = .ok ∨ b.srx.state = .lost := by
    rw [stream]
    exact of_decide_eq_true (hflying.symm.trans hf)
  have silent (hf : flying = false) : ¬ (b.srx.state = .ok ∨ b.srx.state = .lost) := by
    rw [stream]
    exact of_decide_eq_false (hflying.symm.trans hf)
  refine ⟨?_, fun hf => ?_, fun hf => ?_, ?_, ?_, fun hn => ?_, fun hn hu => ?_, ?_, fun u hu => ?_⟩
  · cases flying with
    | true =>
      rw [fblRestart_of_flying (flies rfl), State.setFbl_hlu, State.setHlu_hlu, same.hlu, funext same.sent]
      simp only [true_and]
      rfl
    | false =>
      rw [fblRestart_of_silent (silent rfl), State.setFbl_hlu, same.hlu]
      simp
  · have output : b.fbl = s.fbl := core.fbl.trans (driven.abandoned_sameCore.fbl.trans begun.fbl)
    rw [fblRestart_of_flying (flies hf), same.frameSlots, same.buildLevels, sends, same.time, output]
    rfl
  · rw [fblRestart_of_silent (silent hf)]
    rfl
  · rw [tables, core.tbs, driven.abandoned_sameCore.tbs, begun.commit]
    rfl
  · rw [curtains, records, driven.abandoned_demo]
    simp only [abandonedDemo, demoA, begun.ctc, Demo.running_iff]
    rfl
  · rw [curtains, records, foldl_acted_curtains (f := Curtain.restarted) (fun c => rfl)
      (fun _ _ hs hc => restartCurtain_eq hs hc) _ 3 (by rwa [begun.ctc]) (curtainsRestart_eq a), begun.ctc]
    refine List.map_congr_left fun c _ => ?_
    rw [segmentEndedIf_false]
    simp only [← Ownership.ended_eq]
    rfl
  · rw [loop, hb, callsRestart_eq, State.setClc_lpc, revokeEvent_lpc, curtainsRestart_stations (by rwa [begun.ctc])
      (by rwa [begun.ctc]), begun.stations, begun.ctc, List.map_map]
    rfl
  · have zonesIs : union = evacuatingZones s := hunion.trans (evacuatingZones_eq s).symm
    rw [calls, hb, callsRestart_eq, State.setClc_clc, begun.callsRestarted, zonesIs]
    rfl
  · have restarted : SameEvents (post .restarted 0 (some 1) (linkRestart (s.setRestartArmed false)))
        (post .restarted 0 (some 1) e) := by
      refine SameEvents.post ?_ _ _ _
      rw [he]
      exact ⟨rfl, rfl, rfl⟩
    have events := (heard.trans (hb ▸ begun.callsRestart_events restarted)).evaluateAttention
    have told : u = evaluateAttention (revokeEvent s (abandonEvent 3 s
        ((if s.tbs.commit.current = .pending then post .commitAborted 0 none else id)
          (post .restarted 0 (some 1) e)))) := by
      rw [hu]
      refine congrArg (fun y => evaluateAttention (revokeEvent s y)) ?_
      cases hd : demoCurtain s with
      | none => rw [abandonEvent_of_none hd]
      | some c => rw [abandonEvent_of_some hd]
    rw [evaluateAttention_eq] at events
    rw [told]
    exact ⟨events.evq, events.cmi⟩

end Sys2Proof.Machine
end

section
/-! The level of a circuit (R40 to R46): each of the three runs in time goes over a way from one level to another, and the
end of a handover. -/

namespace Sys2Proof.Machine

/-! ### A level on its way (R41, R42, R46) -/

/-- How much of a way of `w` is behind after `e` of `d` ms: rounded half up while it lasts, and then the whole. -/
def covered (w e d : Nat) : Nat := if e < d then (2 * w * e + d) / (2 * d) else w

theorem covered_of_running {w e d : Nat} (h : e < d) : covered w e d = (2 * w * e + d) / (2 * d) := if_pos h

theorem covered_of_over {w e d : Nat} (h : d ≤ e) : covered w e d = w := if_neg (Nat.not_lt.mpr h)

/-- Before the end the rounding half up never passes the whole way. -/
theorem covered_le (w e d : Nat) : covered w e d ≤ w := by
  rcases Nat.lt_or_ge e d with h | h
  · rw [covered_of_running h, ← Nat.lt_succ_iff, Nat.div_lt_iff_lt_mul (by omega)]
    have : w * e ≤ w * d := Nat.mul_le_mul_left w h.le
    calc 2 * w * e + d = 2 * (w * e) + d := by ring
      _ < 2 * (w * d) + 2 * d := by omega
      _ = w.succ * (2 * d) := by rw [Nat.succ_eq_add_one]; ring
  · exact (covered_of_over h).le

theorem covered_mono {w e e' d : Nat} (h : e ≤ e') : covered w e d ≤ covered w e' d := by
  rcases Nat.lt_or_ge e' d with h' | h'
  · rw [covered_of_running h', covered_of_running (h.trans_lt h')]
    gcongr
  · rw [covered_of_over h']
    exact covered_le w e d

/-- The level on the way from `a` to `b` after `e` of `d` ms. -/
def levelAt (a b e d : Nat) : Nat := if a ≤ b then a + covered (b - a) e d else a - covered (a - b) e d

theorem levelAt_rise {a b e d : Nat} (h : a ≤ b) : levelAt a b e d = a + covered (b - a) e d := if_pos h

/-- On a way of no length nothing is covered, so a way down may have equal ends too. -/
theorem levelAt_fall {a b e d : Nat} (h : b ≤ a) : levelAt a b e d = a - covered (a - b) e d := by
  have hc := covered_le (b - a) e d
  have hc' := covered_le (a - b) e d
  unfold levelAt
  split <;> omega

theorem levelAt_eq_glide (a b e d : Nat) : levelAt a b e d = if e < d then glide a b e d else b := by
  unfold levelAt glide
  by_cases h : e < d
  · simp only [covered_of_running h, if_pos h]
  · rw [covered_of_over (Nat.not_lt.mp h), covered_of_over (Nat.not_lt.mp h), if_neg h]
    split <;> omega

theorem levelAt_of_over {a b e d : Nat} (h : d ≤ e) : levelAt a b e d = b := by
  rw [levelAt_eq_glide, if_neg (Nat.not_lt.mpr h)]

/-- While the way lasts, the level is its start, with the sign of the way times what is covered (R41). -/
theorem levelAt_of_running {a b e d : Nat} (h : e < d) : (levelAt a b e d : Int) =
    a + (if a ≤ b then 1 else -1) * ((2 * (max a b - min a b) * e + d) / (2 * d) : Nat) := by
  rcases Nat.le_total a b with hab | hab
  · rw [levelAt_rise hab, covered_of_running h, Nat.max_eq_right hab, Nat.min_eq_left hab, if_pos hab]
    push_cast
    ring
  · have hc := covered_le (a - b) e d
    rw [levelAt_fall hab, Nat.cast_sub (by omega), covered_of_running h, Nat.max_eq_left hab, Nat.min_eq_right hab]
    split
    · obtain rfl : a = b := by omega
      have : (2 * (a - a) * e + d) / (2 * d) = 0 := Nat.div_eq_of_lt (by simp; omega)
      rw [this]
      simp
    · ring

theorem levelAt_rising {a b e e' d : Nat} (h : a ≤ b) (he : e ≤ e') :
    a ≤ levelAt a b e d ∧ levelAt a b e d ≤ levelAt a b e' d ∧ levelAt a b e' d ≤ b := by
  have hm := covered_mono (w := b - a) (d := d) he
  have hc := covered_le (b - a) e' d
  rw [levelAt_rise h, levelAt_rise h]
  omega

theorem levelAt_falling {a b e e' d : Nat} (h : b ≤ a) (he : e ≤ e') :
    b ≤ levelAt a b e' d ∧ levelAt a b e' d ≤ levelAt a b e d ∧ levelAt a b e d ≤ a := by
  have hm := covered_mono (w := a - b) (d := d) he
  have hc := covered_le (a - b) e' d
  rw [levelAt_fall h, levelAt_fall h]
  omega

/-! ### The fade, the handover and the override -/

theorem fadeLevel_eq (f : Fade) (t : Nat) :
    fadeLevel f t = levelAt f.fromLevel f.target (t - f.start) f.duration := by
  unfold fadeLevel
  split
  · exact (levelAt_of_over (by omega)).symm
  · exact (levelAt_eq_glide ..).symm

theorem baseLevel_preset {table : List Nat} {c : Circuit} {f : Fade} (h : c.source = .preset f) (t : Nat) :
    baseLevel table c t = fadeLevel f t := by
  simp only [baseLevel, h]

theorem slotLevel_eq {slot : Nat} (h : 1 ≤ slot) (table : List Nat) : slotLevel table slot = table.getD (slot - 1) 0 :=
  if_neg (by omega)

theorem baseLevel_console {table : List Nat} {c : Circuit} (h : c.source = .console none) (hslot : 1 ≤ c.slot) (t : Nat) :
    baseLevel table c t = table.getD (c.slot - 1) 0 := by
  simp only [baseLevel, h, consoleLevel, slotLevel_eq hslot]

/-- In a handover the base is on its way from the handover's start level to the slot's level (R42). -/
theorem baseLevel_handover {table : List Nat} {c : Circuit} {h : Handover} (hc : c.source = .console (some h))
    (hslot : 1 ≤ c.slot) (t : Nat) : baseLevel table c t =
      levelAt h.fromLevel (table.getD (c.slot - 1) 0) (t - h.start) h.duration := by
  simp only [baseLevel, hc, consoleLevel, slotLevel_eq hslot, levelAt_eq_glide]

theorem overrideLevel_eq {o : Override} (h : o.fromLevel ≤ 255) (t : Nat) :
    overrideLevel o t = levelAt o.fromLevel 255 (t - o.start) o.duration := by
  rw [levelAt_eq_glide, glide, if_pos h, overrideLevel]

/-! ### The stages (R44, R45, R46) -/

theorem scaledLevel_full (b : Nat) : scaledLevel b 255 = b := by
  unfold scaledLevel
  omega

theorem scaledLevel_zero (b : Nat) : scaledLevel b 0 = 0 := by
  simp [scaledLevel]

theorem circuitLevel_override {s : State} {c : Circuit} {o : Override} (h : c.override = some o) (t : Nat) :
    circuitLevel s c t = overrideLevel o t := by
  simp only [circuitLevel, h]

theorem circuitLevel_limited {s : State} {c : Circuit} (h : c.override = none) (t : Nat) : circuitLevel s c t =
    limitedLevel c s.phc.phase.audience (scaledLevel (baseLevel s.srx.table c t) (masterOf s.hlu c.group)) := by
  simp only [circuitLevel, h]

theorem limitedLevel_audience (c : Circuit) {p : Phase} (hp : p = .houseOpen ∨ p = .act ∨ p = .interval) (v : Nat) :
    limitedLevel c p.audience v = max c.floor (min c.ceiling v) := by
  rcases hp with rfl | rfl | rfl <;> rfl

theorem limitedLevel_noAudience (c : Circuit) {p : Phase} (hp : p = .dark ∨ p = .preshow ∨ p = .houseClear) (v : Nat) :
    limitedLevel c p.audience v = min c.ceiling v := by
  rcases hp with rfl | rfl | rfl <;> rfl

/-! ### The end of a handover (R43) -/

theorem mapCircuits_congr {f g : Circuit → Circuit} {s : State} (h : ∀ c ∈ s.hlu.circuits, f c = g c) :
    mapCircuits f s = mapCircuits g s := by
  simp only [mapCircuits, List.map_congr_left h]

/-- The record of circuit `n` without its handover; every other record is kept. -/
def Circuit.handedOver (n : Nat) (c : Circuit) : Circuit :=
  match c.source with
  | .console (some _) => if c.number = n then { c with source := .console none } else c
  | .console none | .preset _ => c

theorem Circuit.handoverDue_eq {c : Circuit} {h : Handover} (hc : c.source = .console (some h)) (now : Nat) :
    c.handoverDue now = decide (h.start + h.duration ≤ now) := by
  simp only [Circuit.handoverDue, hc]

/-- Where the handover of circuit `n` is due, its expiry removes it. -/
theorem handoverExpire_of_due {n : Nat} {s : State} (hdue : ∀ c ∈ s.hlu.circuits, c.number = n → ∀ h,
      c.source = .console (some h) → h.start + h.duration ≤ s.time) :
    handoverExpire n s = mapCircuits (Circuit.handedOver n) s := by
  refine mapCircuits_congr fun c hc => ?_
  rcases hsource : c.source with (_ | h) | f
  · simp [Circuit.handedOver, Circuit.handoverDue, hsource]
  · by_cases hn : c.number = n
    · simp [Circuit.handedOver, Circuit.handoverDue_eq hsource, hsource, hn, hdue c hc hn h hsource]
    · simp [Circuit.handedOver, hsource, hn]
  · simp [Circuit.handedOver, Circuit.handoverDue, hsource]

theorem exec_handoverExpiry {s : State} (hs : Running s) (n : Nat) :
    exec (.handoverExpiry n) s = .next (handoverExpire n s) := by
  rw [← running_eq hs (handoverExpire n)]
  rfl

/-! ### The statement -/

/-- Settles O19: the fade, the handover and the override are levels on their way, and the stages stand one on another. -/
theorem houseLevelIsFormedInStages : Obligations.HouseLevelIsFormedInStages := by
  refine ⟨fun n s hs hdue => ?_, fun f t u => ⟨fun hd => ?_, fun _ hover => ?_, fun hstart hrun => ?_, fun hrise htu => ?_,
    fun hfall htu => ?_⟩, fun s c t b m => ⟨fun f hc => baseLevel_preset hc t, fun hc hslot => baseLevel_console hc hslot t,
    fun h goal hc hslot hgoal => ⟨fun hover => ?_, fun hstart hrun => ?_⟩, rfl, scaledLevel_full b, scaledLevel_zero b,
    fun ho hp => ?_, fun ho hp => ?_, fun o ho hfrom => ⟨fun hover => ?_, fun hstart hrun => ?_⟩⟩⟩
  case refine_1 =>
    rw [exec_handoverExpiry hs, handoverExpire_of_due hdue]
    rfl
  case refine_2 => rw [fadeLevel_eq, levelAt_of_over (by omega)]
  case refine_3 => rw [fadeLevel_eq, levelAt_of_over (by omega)]
  case refine_4 => rw [fadeLevel_eq, levelAt_of_running (by omega)]
  case refine_5 =>
    obtain ⟨hfrom, hmono, htarget⟩ := levelAt_rising (d := f.duration) hrise (Nat.sub_le_sub_right htu f.start)
    simp only [fadeLevel_eq]
    exact ⟨hmono, htarget, fun _ => hfrom⟩
  case refine_6 =>
    obtain ⟨htarget, hmono, hfrom⟩ := levelAt_falling (d := f.duration) hfall (Nat.sub_le_sub_right htu f.start)
    simp only [fadeLevel_eq]
    exact ⟨hmono, htarget, fun _ => hfrom⟩
  case refine_7 => rw [hgoal, baseLevel_handover hc hslot, levelAt_of_over (by omega)]
  case refine_8 => rw [hgoal, baseLevel_handover hc hslot, levelAt_of_running (by omega)]
  case refine_9 => rw [circuitLevel_limited ho, limitedLevel_audience c hp]
  case refine_10 => rw [circuitLevel_limited ho, limitedLevel_noAudience c hp]
  case refine_11 => rw [circuitLevel_override ho, overrideLevel_eq hfrom, levelAt_of_over (by omega)]
  case refine_12 =>
    rw [circuitLevel_override ho, overrideLevel_eq hfrom, levelAt_rise hfrom, covered_of_running (by omega)]

end Sys2Proof.Machine
end

section
/-! HOUSE FADE, HOUSE CONSOLE and HOUSE MASTER (R47 to R51): the checks, and what each does to HLU's records. -/

namespace Sys2Proof.Machine

/-! ### The checks of R47 -/

theorem scopeInRange_iff (scope number : Nat) : scopeInRange scope number = true ↔
    (scope = 1 ∧ 1 ≤ number ∧ number ≤ 8) ∨ (scope = 2 ∧ 1 ≤ number ∧ number ≤ 48) := by
  simp [scopeInRange, and_assoc]

theorem inScope_group (number : Nat) (c : Circuit) : inScope 1 number c = true ↔ c.group = number := by
  simp [inScope]

theorem inScope_circuit (number : Nat) (c : Circuit) : inScope 2 number c = true ↔ c.number = number := by
  simp [inScope]

/-- The scope is in range and has a circuit: the first two checks of R47. -/
def House.Reached (h : House) (scope number : Nat) : Prop :=
  scopeInRange scope number = true ∧ ∃ c ∈ h.circuits, inScope scope number c = true

theorem House.reached_group_iff (h : House) (g : Nat) :
    h.Reached 1 g ↔ (1 ≤ g ∧ g ≤ 8) ∧ ∃ c ∈ h.circuits, c.group = g := by
  simp [House.Reached, scopeInRange_iff, inScope_group]

theorem House.reached_iff (h : House) (scope : Byte) (n : Nat) : h.Reached scope.toNat n ↔
    (scope = 1 ∧ 1 ≤ n ∧ n ≤ 8 ∧ ∃ c ∈ h.circuits, c.group = n) ∨
      (scope = 2 ∧ 1 ≤ n ∧ n ≤ 48 ∧ ∃ c ∈ h.circuits, c.number = n) := by
  have one : scope.toNat = 1 ↔ scope = 1 := (BitVec.toNat_eq (y := 1#8)).symm
  have two : scope.toNat = 2 ↔ scope = 2 := (BitVec.toNat_eq (y := 2#8)).symm
  constructor
  · rintro ⟨hrange, c, hc, hscope⟩
    rcases (scopeInRange_iff _ _).mp hrange with ⟨hk, h1, h8⟩ | ⟨hk, h1, h48⟩
    · exact .inl ⟨one.mp hk, h1, h8, c, hc, (inScope_group n c).mp (hk ▸ hscope)⟩
    · exact .inr ⟨two.mp hk, h1, h48, c, hc, (inScope_circuit n c).mp (hk ▸ hscope)⟩
  · rintro (⟨rfl, h1, h8, c, hc, hg⟩ | ⟨rfl, h1, h48, c, hc, hn⟩)
    · exact ⟨(scopeInRange_iff _ _).mpr (.inl ⟨rfl, h1, h8⟩), c, hc, (inScope_group n c).mpr hg⟩
    · exact ⟨(scopeInRange_iff _ _).mpr (.inr ⟨rfl, h1, h48⟩), c, hc, (inScope_circuit n c).mpr hn⟩

/-- The ways in which a HOUSE FADE misses every circuit (R47). -/
theorem House.not_reached_of_bad {h : House} {scope number : Byte}
    (hbad : (scope ≠ 1 ∧ scope ≠ 2) ∨ number = 0 ∨ (scope = 1 ∧ 8 < number.toNat) ∨ 48 < number.toNat ∨
      (scope = 1 ∧ ∀ c ∈ h.circuits, c.group ≠ number.toNat) ∨
      (scope = 2 ∧ ∀ c ∈ h.circuits, c.number ≠ number.toNat)) : ¬ h.Reached scope.toNat number.toNat := by
  have distinct : (1 : Byte) ≠ 2 := by decide
  have nonzero (h1 : 1 ≤ number.toNat) : number ≠ 0 := by rintro rfl; exact absurd h1 (by decide)
  intro hr
  rcases (h.reached_iff scope _).mp hr with ⟨rfl, h1, h8, c, hc, hg⟩ | ⟨rfl, h1, h48, c, hc, hn⟩
  · have := nonzero h1
    simp only [ne_eq, true_and, not_true_eq_false, false_and, false_or, distinct, this, or_false] at hbad
    rcases hbad with h | h | h
    · omega
    · omega
    · exact h c hc hg
  · have := nonzero h1
    simp only [ne_eq, true_and, not_true_eq_false, and_false, false_and, false_or, distinct.symm, this] at hbad
    rcases hbad with h | h
    · omega
    · exact h c hc hn

/-- A scope that is not reached fails one of the two checks. -/
theorem House.checks_of_not_reached {h : House} {scope number : Nat} (hn : ¬ h.Reached scope number)
    (hrange : scopeInRange scope number = true) : h.circuits.any (inScope scope number) = false := by
  rw [Bool.eq_false_iff, Ne, List.any_eq_true]
  exact fun hc => hn ⟨hrange, hc⟩

theorem House.any_of_reached {h : House} {scope number : Nat} (hr : h.Reached scope number) :
    h.circuits.any (inScope scope number) = true := List.any_eq_true.mpr hr.2

/-! ### HOUSE FADE (R48) -/

section
variable {a : FadeArgs} {s : State}

theorem houseFadeArgs_notReached (h : ¬ s.hlu.Reached a.scope a.number) : houseFadeArgs a s = ⟨s, .badArgument, []⟩ := by
  by_cases hrange : scopeInRange a.scope a.number = true
  · simp [houseFadeArgs, hrange, House.checks_of_not_reached h hrange]
  · simp [houseFadeArgs, hrange]

theorem houseFadeArgs_inEvacuate (h : s.hlu.Reached a.scope a.number) (he : s.asc.stage = .evacuate) :
    houseFadeArgs a s = ⟨s, .refusedState, []⟩ := by
  simp [houseFadeArgs, h.1, House.any_of_reached h, he]

theorem houseFadeArgs_taken (h : s.hlu.Reached a.scope a.number) (he : s.asc.stage ≠ .evacuate) :
    houseFadeArgs a s = ⟨mapCircuits (fun c => if inScope a.scope a.number c then
        c.startFade s.srx.table s.time a.target (settledFade s.hlu a * 100) else c) s,
      if fadeClamped a then .clamped else .done, []⟩ := by
  simp [houseFadeArgs, h.1, House.any_of_reached h, he]
end

/-- The fade that a payload of five bytes asks for: 65 535 is an omitted time (R48, R206). -/
def givenFade (scope number target hi lo : Byte) : FadeArgs :=
  ⟨scope.toNat, number.toNat, target.toNat,
    if hi.toNat * 256 + lo.toNat = 65535 then none else some (hi.toNat * 256 + lo.toNat)⟩

theorem houseFadeCmd_five (scope number target hi lo : Byte) (s : State) :
    houseFadeCmd [scope, number, target, hi, lo] s = houseFadeArgs (givenFade scope number target hi lo) s := rfl

theorem houseFadeCmd_badForm {p : List Byte} (h : p.length ≠ 5) (s : State) :
    houseFadeCmd p s = ⟨s, .badArgument, []⟩ := by
  simp only [houseFadeCmd, readFade, if_neg h]

theorem settledFade_given (h : House) (scope number target hi lo : Byte) :
    settledFade h (givenFade scope number target hi lo) = if hi.toNat * 256 + lo.toNat = 65535
      then defaultFadeOf h (scopeGroup h scope.toNat number.toNat) else min (hi.toNat * 256 + lo.toNat) 6000 := by
  simp only [settledFade, givenFade]
  split_ifs <;> rfl

theorem fadeClamped_given (scope number target hi lo : Byte) : fadeClamped (givenFade scope number target hi lo) = true ↔
    6000 < hi.toNat * 256 + lo.toNat ∧ hi.toNat * 256 + lo.toNat ≠ 65535 := by
  simp only [fadeClamped, givenFade]
  split_ifs <;> simp [*]

/-- Settles O17: the scope passes the checks of R47, and each of its circuits starts a fade. -/
theorem houseFadeStartsFromThePresentBase : Obligations.HouseFadeStartsFromThePresentBase := by
  rintro scope number target hi lo v tenths s hs he hrange hc rfl rfl
  have reached : s.hlu.Reached scope.toNat number.toNat := ⟨(scopeInRange_iff _ _).mpr hrange, hc⟩
  refine next_takeCommand hs ?_
  rw [houseFadeCmd_five, houseFadeArgs_taken reached he, settledFade_given]
  simp only [fadeClamped_given]
  rfl

/-! ### HOUSE CONSOLE (R50) -/

section
variable {g hi lo : Byte} {s : State}

theorem houseConsoleCmd_badForm {p : List Byte} (h : p.length ≠ 3) : houseConsoleCmd p s = ⟨s, .badArgument, []⟩ := by
  simp only [houseConsoleCmd, readConsole, if_neg h]

theorem readConsole_three : readConsole [g, hi, lo] = some (g.toNat, hi.toNat * 256 + lo.toNat) := rfl

theorem houseConsoleCmd_notReached (h : ¬ s.hlu.Reached 1 g.toNat) :
    houseConsoleCmd [g, hi, lo] s = ⟨s, .badArgument, []⟩ := by
  by_cases hrange : scopeInRange 1 g.toNat = true
  · simp [houseConsoleCmd, readConsole_three, hrange, House.checks_of_not_reached h hrange]
  · simp [houseConsoleCmd, readConsole_three, hrange]

theorem houseConsoleCmd_inEvacuate (h : s.hlu.Reached 1 g.toNat) (he : s.asc.stage = .evacuate) :
    houseConsoleCmd [g, hi, lo] s = ⟨s, .refusedState, []⟩ := by
  simp [houseConsoleCmd, readConsole_three, h.1, House.any_of_reached h, he]

theorem houseConsoleCmd_taken (h : s.hlu.Reached 1 g.toNat) (he : s.asc.stage ≠ .evacuate) :
    houseConsoleCmd [g, hi, lo] s = ⟨mapCircuits (fun c => if c.group = g.toNat then
        c.toConsole s.srx.table s.time (min (hi.toNat * 256 + lo.toNat) 6000 * 100) else c) s,
      if 6000 < hi.toNat * 256 + lo.toNat then .clamped else .done, []⟩ := by
  simp [houseConsoleCmd, readConsole_three, h.1, House.any_of_reached h, he, inScope_group]

/-- A handover of no length is asked for by a time of 0 alone (R50). -/
theorem toConsole_tenths (table : List Nat) (now tenths : Nat) (c : Circuit) :
    c.toConsole table now (min tenths 6000 * 100) = { c with
      source := .console (if tenths = 0 then none else some ⟨baseLevel table c now, now, min tenths 6000 * 100⟩) } := by
  have : min tenths 6000 * 100 = 0 ↔ tenths = 0 := by omega
  simp only [Circuit.toConsole, this]

/-! ### HOUSE MASTER (R51) -/

variable {level : Byte}

theorem houseMasterCmd_badForm {p : List Byte} (h : p.length ≠ 2) : houseMasterCmd p s = ⟨s, .badArgument, []⟩ := by
  simp only [houseMasterCmd, readPair, if_neg h]

theorem houseMasterCmd_badGroup (h : ¬ (1 ≤ g.toNat ∧ g.toNat ≤ 8)) :
    houseMasterCmd [g, level] s = ⟨s, .badArgument, []⟩ := by
  have range : scopeInRange 1 g.toNat = false := by
    rw [Bool.eq_false_iff, Ne, scopeInRange_iff]
    omega
  simp [houseMasterCmd, readPair_pair, range]

theorem houseMasterCmd_inEvacuate (h : 1 ≤ g.toNat ∧ g.toNat ≤ 8) (he : s.asc.stage = .evacuate) :
    houseMasterCmd [g, level] s = ⟨s, .refusedState, []⟩ := by
  simp [houseMasterCmd, readPair_pair, (scopeInRange_iff 1 g.toNat).mpr (.inl ⟨rfl, h⟩), he]

theorem houseMasterCmd_taken (h : 1 ≤ g.toNat ∧ g.toNat ≤ 8) (he : s.asc.stage ≠ .evacuate) :
    houseMasterCmd [g, level] s = ⟨s.setHlu { s.hlu with groups := s.hlu.groups.map fun x =>
      if x.number = g.toNat then { x with master := level.toNat } else x }, .done, []⟩ := by
  simp [houseMasterCmd, readPair_pair, (scopeInRange_iff 1 g.toNat).mpr (.inl ⟨rfl, h⟩), he]
end

/-! ### The statement on HOUSE CONSOLE and HOUSE MASTER -/

/-- Settles O18: a group is reached when it is in range and has circuits, and each command refuses what is not. -/
theorem houseConsoleAndMaster : Obligations.HouseConsoleAndMaster := by
  refine ⟨fun g hi lo level s hs he h1 h8 => ⟨fun hc => ?_, ?_, ?_, fun hc => ?_⟩,
    fun scope number target g hi lo level s hs => ⟨fun he hscope => ?_, fun hbad => ?_, fun hbad => ?_, fun hbad => ?_,
      fun p hp => ⟨fun h => ?_, fun h => ?_, fun h => ?_⟩⟩⟩
  case refine_1 =>
    have taken := houseConsoleCmd_taken (hi := hi) (lo := lo) ((s.hlu.reached_group_iff _).mpr ⟨⟨h1, h8⟩, hc⟩) he
    simp only [toConsole_tenths] at taken
    exact next_takeCommand hs taken
  case refine_2 => exact next_takeCommand hs (houseMasterCmd_taken ⟨h1, h8⟩ he)
  case refine_3 => exact next_takeCommand hs (houseMasterCmd_inEvacuate ⟨h1, h8⟩ rfl)
  case refine_4 =>
    exact next_takeCommand hs (houseConsoleCmd_inEvacuate ((s.hlu.reached_group_iff _).mpr ⟨⟨h1, h8⟩, hc⟩) rfl)
  case refine_5 =>
    exact next_takeCommand hs ((houseFadeCmd_five ..).trans
      (houseFadeArgs_inEvacuate ((s.hlu.reached_iff scope _).mpr hscope) he))
  case refine_6 =>
    exact next_takeCommand hs ((houseFadeCmd_five ..).trans
      (houseFadeArgs_notReached (House.not_reached_of_bad (h := s.hlu) hbad)))
  case refine_7 =>
    refine next_takeCommand hs (houseConsoleCmd_notReached fun hr => ?_)
    obtain ⟨⟨h1, h8⟩, c, hc, hg⟩ := (s.hlu.reached_group_iff _).mp hr
    rcases hbad with rfl | hbad | hbad
    · exact absurd h1 (by decide)
    · omega
    · exact hbad c hc hg
  case refine_8 =>
    refine next_takeCommand hs (houseMasterCmd_badGroup fun ⟨h1, h8⟩ => ?_)
    rcases hbad with rfl | hbad
    · exact absurd h1 (by decide)
    · omega
  case refine_9 => exact next_takeCommand hs (houseFadeCmd_badForm h s) hp
  case refine_10 => exact next_takeCommand hs (houseConsoleCmd_badForm h) hp
  case refine_11 => exact next_takeCommand hs (houseMasterCmd_badForm h) hp

end Sys2Proof.Machine
end

section
/-! Validation (R199): the checks of an entry are its conditions, in their order; what is reported, and that every
reference exists when nothing is. -/

namespace Sys2Proof.Machine

/-! ### Reading a bank -/

theorem within_iff {lo hi n : Nat} : within lo hi n = true ↔ lo ≤ n ∧ n ≤ hi := by simp [within]

theorem bankFind_isSome (b : Bank) (n : Nat) : (bankFind b n).isSome = true ↔ EntryAt b n := by
  simp [bankFind]

theorem earlier_eq_false (b : Bank) (e : BankEntry) (p : BankEntry → Bool) :
    earlier b e p = false ↔ ∀ x ∈ b, x.index < e.index → p x = false := by
  simp [earlier]

/-- As `earlier_eq_false`, of the entries but for the header. -/
theorem earlier_slot_eq_false (b : Bank) (e : BankEntry) (p : BankEntry → Bool) :
    (earlier b e fun x => x.index != 0 && p x) = false ↔
      ∀ x ∈ b, x.index ≠ 0 → x.index < e.index → p x = false := by
  simp only [earlier_eq_false, Bool.and_eq_false_imp, bne_iff_ne]
  exact forall₂_congr fun _ _ => forall_comm

/-- No earlier entry shares a field with an entry. -/
theorem not_earlier_iff {α : Type} [DecidableEq α] (b : Bank) (e : BankEntry) (f : BankEntry → α) :
    (!earlier b e fun x => f x == f e) = true ↔ FirstWith b e f := by
  simp [earlier_eq_false]

theorem stationKind_ofCode_zoneUnit (n : Nat) : StationKind.ofCode n = .zoneUnit ↔ n = 1 := by
  unfold StationKind.ofCode
  split <;> simp_all

theorem stationKind_ofCode_curtainUnit (n : Nat) : StationKind.ofCode n = .curtainUnit ↔ n = 2 := by
  unfold StationKind.ofCode
  split <;> simp_all

/-- The kind of an address is that of its first entry's code (log entry 50). -/
theorem pollKindOf_eq (b : Bank) (a : Nat) : pollKindOf b a = (kindCode b a).map StationKind.ofCode := by
  simp [pollKindOf, kindCode, stationOf, Function.comp_def]

theorem pollKindOf_zoneUnit (b : Bank) (a : Nat) :
    (pollKindOf b a == some .zoneUnit) = true ↔ kindCode b a = some 1 := by
  simp [pollKindOf_eq, stationKind_ofCode_zoneUnit]

theorem pollKindOf_curtainUnit (b : Bank) (a : Nat) :
    (pollKindOf b a == some .curtainUnit) = true ↔ kindCode b a = some 2 := by
  simp [pollKindOf_eq, stationKind_ofCode_curtainUnit]

/-- An address of a kind stands in the Poll List. -/
theorem exists_of_kindCode {b : Bank} {a k : Nat} (h : kindCode b a = some k) :
    ∃ x ∈ b, at1 x.bytes 0 = a ∧ at1 x.bytes 1 = k := by
  obtain ⟨x, hx, hk⟩ := Option.map_eq_some_iff.mp h
  exact ⟨x, List.mem_of_find?_eq_some hx, by simpa using List.find?_some hx, hk⟩

/-- A slot number from 1 on lies within the expected length just when a header gives one that it does not pass. -/
theorem le_expectedLength_iff {b : Bank} {n : Nat} (hn : n ≠ 0) :
    decide (n ≤ (expectedLength? b).getD 0) = true ↔ ∃ h, bankFind b 0 = some h ∧ n ≤ at2 h 0 := by
  rw [decide_eq_true_eq, expectedLength?, slotHeader?]
  cases bankFind b 0 <;> simp [slotHeaderOf, hn]

theorem roleSlot_isSome (b : Bank) (role : Nat) :
    (roleSlot b role).isSome = true ↔ ∃ x ∈ b, x.index ≠ 0 ∧ at1 x.bytes 2 = role := by
  simp [roleSlot, slotRoleOf]

/-! ### Checks and conditions -/

/-- A list of checks says what a list of conditions says: the reasons are the same, and each check holds just when its
condition does, where those before it hold. -/
inductive Agree : List Check → List (Prop × Nat) → Prop where
  | nil : Agree [] []
  | cons {h : Bool} {p : Prop} {n : Nat} {cs : List Check} {ds : List (Prop × Nat)} :
      (h = true ↔ p) → (p → Agree cs ds) → Agree (⟨h, n⟩ :: cs) ((p, n) :: ds)

theorem Agree.firstFailing_eq_none {cs : List Check} {ds : List (Prop × Nat)} (h : Agree cs ds) :
    firstFailing cs = none ↔ ∀ d ∈ ds, d.1 := by
  rw [Machine.firstFailing_eq_none]
  induction h with
  | nil => simp
  | cons hp _ ih =>
    simp only [List.forall_mem_cons, hp]
    exact and_congr_right ih

theorem Agree.firstFailing_eq_some {c : Prop × Nat} {rest met : List (Prop × Nat)} :
    ∀ {cs : List Check}, Agree cs (met ++ c :: rest) → (∀ m ∈ met, m.1) → ¬ c.1 → firstFailing cs = some c.2 := by
  induction met with
  | nil =>
    rintro _ (_ | ⟨hp, _⟩) _ hc
    have hf := Bool.eq_false_iff.mpr fun ht => hc (hp.mp ht)
    simp [firstFailing, hf]
  | cons m met ih =>
    rintro _ (_ | ⟨hp, htail⟩) hm hc
    obtain ⟨hm1, hm⟩ := List.forall_mem_cons.mp hm
    have rest := ih (htail hm1) hm hc
    unfold firstFailing at rest ⊢
    simpa only [List.find?_cons, hp.mpr hm1, Bool.not_true] using rest

/-! ### The ranges of the entries -/

theorem slotHeaderInRange_iff (b : List Byte) : slotHeaderInRange b = true ↔
    24 ≤ at2 b 0 ∧ at2 b 0 ≤ 512 ∧ 1 ≤ at1 b 2 ∧ at1 b 2 ≤ 30 ∧
      (at2 b 3 = 0 ∨ (60 ≤ at2 b 3 ∧ at2 b 3 ≤ 3600)) := by
  simp [slotHeaderInRange, slotHeaderOf, within_iff, and_assoc]

theorem slotEntryInRange_iff (b : List Byte) : slotEntryInRange b = true ↔
    ((at1 b 0 = 1 ∧ 1 ≤ at1 b 1 ∧ at1 b 1 ≤ 48) ∨ (at1 b 0 = 3 ∧ at1 b 1 ≤ 4) ∨
      ((at1 b 0 = 0 ∨ at1 b 0 = 2 ∨ at1 b 0 = 4) ∧ at1 b 1 = 0)) ∧ at1 b 2 ≤ 2 := by
  rw [slotEntryInRange, Bool.and_eq_true, decide_eq_true_eq]
  refine and_congr_left fun _ => ?_
  split <;> simp_all [within_iff]

theorem houseHeaderInRange_iff (b : List Byte) : houseHeaderInRange b = true ↔ ∀ g < 8, at2 b (2 * g) ≤ 6000 := by
  simp [houseHeaderInRange]

theorem circuitInRange_iff (b : List Byte) : circuitInRange b = true ↔
    1 ≤ at1 b 0 ∧ at1 b 0 ≤ 8 ∧ 1 ≤ at2 b 1 ∧ at2 b 1 ≤ 512 := by
  simp [circuitInRange, circuitEntryOf, within_iff, and_assoc]

theorem zoneInRange_iff (b : List Byte) : zoneInRange b = true ↔
    1 ≤ at1 b 0 ∧ at1 b 0 ≤ 5 ∧ 1 ≤ at1 b 1 ∧ at1 b 1 ≤ 126 ∧ 1 ≤ at1 b 2 ∧ at1 b 2 ≤ 8 ∧
      1 ≤ at1 b 3 ∧ at1 b 3 ≤ 2 ∧ 1 ≤ at1 b 4 ∧ at1 b 4 ≤ 2 ∧ at1 b 5 ≤ 6 := by
  simp [zoneInRange, within_iff, and_assoc]

theorem curtainInRange_iff (b : List Byte) : curtainInRange b = true ↔
    1 ≤ at1 b 0 ∧ at1 b 0 ≤ 126 ∧ 1 ≤ at1 b 1 ∧ at1 b 1 ≤ 2 ∧ at1 b 2 ≤ 1 := by
  simp [curtainInRange, within_iff, and_assoc]

theorem messageInRange_iff (b : List Byte) : messageInRange b = true ↔
    1 ≤ at1 b 0 ∧ at1 b 0 ≤ 3 ∧ 1 ≤ at1 b 1 ∧ at1 b 1 ≤ 5 ∧ 100 ≤ at2 b 2 ∧ at2 b 2 ≤ 30000 ∧
      1 ≤ at1 b 6 ∧ at1 b 6 ≤ 3 ∧ at2 b 7 ≤ 600 := by
  simp [messageInRange, within_iff, and_assoc]

theorem scheduleInRange_iff (b : List Byte) : scheduleInRange b = true ↔
    5 ≤ at1 b 0 ∧ at1 b 0 ≤ 60 ∧ at1 b 1 ≤ 4 ∧
      (∀ i < 4, if i < at1 b 1 then at1 b (2 + 2 * i) ≤ 60
        else at1 b (2 + 2 * i) = 0 ∧ at1 b (3 + 2 * i) = 0) ∧
      at1 b 10 ≤ 1 ∧ (at1 b 10 = 0 ∨ at1 b 11 ≤ 60) ∧ 10 ≤ at2 b 19 ∧ at2 b 19 ≤ 300 := by
  have bell (i : Nat) : (if i < at1 b 1 then decide (at1 b (2 + 2 * i) ≤ 60)
      else at1 b (2 + 2 * i) == 0 && at1 b (3 + 2 * i) == 0) = true ↔
      if i < at1 b 1 then at1 b (2 + 2 * i) ≤ 60 else at1 b (2 + 2 * i) = 0 ∧ at1 b (3 + 2 * i) = 0 := by
    split <;> simp
  simp only [scheduleInRange, Bool.and_eq_true, within_iff, decide_eq_true_eq, List.all_eq_true, List.mem_range,
    bell, Bool.or_eq_true, beq_iff_eq, and_assoc]

theorem pollInRange_iff (b : List Byte) : pollInRange b = true ↔
    1 ≤ at1 b 0 ∧ at1 b 0 ≤ 126 ∧ 1 ≤ at1 b 1 ∧ at1 b 1 ≤ 4 := by
  simp [pollInRange, within_iff, and_assoc]

/-! ### Actions (R65) -/

theorem actionOf_suppress (p : List Byte) : actionOf ⟨1, p⟩ = if p.length = 3 + at1 p 2 then
    some (.suppress ((p.drop 3).map BitVec.toNat) (at2 p 0)) else none :=
  if_congr (and_iff_right_of_imp fun h => by omega) rfl rfl

theorem actionOf_house (p : List Byte) : actionOf ⟨2, p⟩ = if p.length = 4 then
    some (.house (at1 p 0) (at1 p 1) (if at2 p 2 = 65535 then none else some (at2 p 2))) else none := rfl

theorem actionOf_call (p : List Byte) : actionOf ⟨3, p⟩ = if p.length = 4 then
    some (.call (at1 p 0) (if at2 p 1 = 0 then none else some (atFoh p 1)) (at1 p 3)) else none := rfl

theorem actionOf_phase (p : List Byte) : actionOf ⟨4, p⟩ = if p.length = 2 then
    some (.phase (at1 p 0) (if at1 p 1 = 0 then none else some (at1 p 1))) else none := rfl

theorem actionOf_curtain (p : List Byte) : actionOf ⟨5, p⟩ =
    if p.length = 2 then some (.curtain (at1 p 0) (at1 p 1)) else none := rfl

theorem actionOf_other {k : Nat} (h : k = 0 ∨ 6 ≤ k) (p : List Byte) : actionOf ⟨k, p⟩ = none := by
  unfold actionOf
  split <;> simp_all

/-- The kinds of an action, by the codes of 12.4. -/
theorem kind_cases (k : Nat) : (k = 0 ∨ 6 ≤ k) ∨ k = 1 ∨ k = 2 ∨ k = 3 ∨ k = 4 ∨ k = 5 := by omega

theorem actionInRange_iff (a : RawAction) : actionInRange a = true ↔ ActionInRanges a := by
  obtain ⟨k, p⟩ := a
  rcases kind_cases k with h | rfl | rfl | rfl | rfl | rfl
  · simp only [actionInRange, actionOf_other h, Bool.false_eq_true, ActionInRanges, false_iff]
    omega
  · by_cases h : p.length = 3 + at1 p 2
    · simp [actionInRange, actionOf_suppress, ActionInRanges, within_iff, h, and_assoc, and_comm, and_left_comm,
        -List.map_drop]
    · simp [actionInRange, actionOf_suppress, ActionInRanges, h]
  · by_cases h : p.length = 4
    · by_cases ht : at2 p 2 = 65535 <;>
        simp [actionInRange, actionOf_house, ActionInRanges, within_iff, h, ht, and_assoc]
    · simp [actionInRange, actionOf_house, ActionInRanges, h]
  · by_cases h : p.length = 4 <;> simp [actionInRange, actionOf_call, ActionInRanges, within_iff, h, and_assoc]
  · by_cases h : p.length = 2 <;> simp [actionInRange, actionOf_phase, ActionInRanges, h]
  · by_cases h : p.length = 2 <;> simp [actionInRange, actionOf_curtain, ActionInRanges, within_iff, h, and_assoc]

/-- What an action within its ranges names exists just when the check finds it (R199). -/
theorem actionRefers_iff {t : PerTable Bank} {a : RawAction} (h : ActionInRanges a) :
    actionRefers t a = true ↔ ActionRefers t a := by
  obtain ⟨k, p⟩ := a
  rcases h with ⟨hk, hl, -, -, -, hz⟩ | ⟨hk, hl, -⟩ | ⟨hk, hl, -⟩ | ⟨hk, hl, -⟩ | ⟨hk, hl, -⟩ <;>
    obtain rfl : k = _ := hk
  · have range : ∀ z ∈ p.drop 3, z.toNat ≤ 64 := fun z h => (hz z h).2
    simp only [actionRefers, actionOf_suppress, if_pos hl, ActionRefers, List.all_map, List.all_eq_true,
      Function.comp_apply, bankFind_isSome]
    simpa using forall₂_congr fun z h => (and_iff_right (range z h)).symm
  · simp [actionRefers, actionOf_house, hl, ActionRefers, circuitEntryOf]
  · simp [actionRefers, actionOf_call, hl, ActionRefers, bankFind_isSome]
  · simp [actionRefers, actionOf_phase, hl, ActionRefers]
  · simp [actionRefers, actionOf_curtain, hl, ActionRefers, bankFind_isSome]

/-! ### The conditions of each table -/

theorem slotClassOf_house {b : List Byte} {n : Nat} : slotClassOf b = .house n ↔ at1 b 0 = 1 ∧ at1 b 1 = n := by
  unfold slotClassOf
  split <;> simp_all

theorem slotClassOf_effect {b : List Byte} {k : Option Nat} :
    slotClassOf b = .effect k ↔ at1 b 0 = 3 ∧ (if at1 b 1 = 0 then none else some (at1 b 1)) = k := by
  unfold slotClassOf
  split <;> simp_all

variable (t : PerTable Bank) (e : BankEntry)

theorem checkSlot_agree : Agree (checkEntry .slot t e) (conditionsOf t .slot e) := by
  unfold checkEntry checkSlot conditionsOf
  dsimp only
  split
  · exact .cons (slotHeaderInRange_iff _) fun _ => .nil
  · next hi =>
    refine .cons (slotEntryInRange_iff _) fun hr => .cons (le_expectedLength_iff hi) fun _ => .cons ?cuePair fun _ =>
      .cons ?circuit fun _ => .cons ?houseSlot fun _ => .cons ?curtain fun _ => .nil
    case cuePair =>
      have other (x : BankEntry) : at1 x.bytes 2 = 3 - at1 e.bytes 2 ↔ at1 x.bytes 2 + at1 e.bytes 2 = 3 := by omega
      simp only [Bool.or_eq_true, beq_iff_eq, Bool.and_eq_true, roleSlot_isSome, other, slotRoleOf,
        Bool.not_eq_true', earlier_slot_eq_false, Classical.or_iff_not_imp_left]
      simp
    case circuit =>
      split
      · next c hc =>
        obtain ⟨h0, rfl⟩ := slotClassOf_house.mp hc
        have : at1 e.bytes 1 ≠ 0 := by omega
        simp [h0, this, bankFind_isSome]
      · next hc =>
        simp only [true_iff]
        exact fun h0 => absurd (slotClassOf_house.mpr ⟨h0, rfl⟩) (hc _)
    case houseSlot =>
      split
      · next c hc =>
        obtain ⟨h0, h1⟩ := slotClassOf_house.mp hc
        simp [earlier_slot_eq_false, hc, slotClassOf_house, h0, h1]
      · next hc =>
        simp only [true_iff]
        exact fun h0 => absurd (slotClassOf_house.mpr ⟨h0, rfl⟩) (hc _)
    case curtain =>
      split
      · next k hc =>
        obtain ⟨h0, h1⟩ := slotClassOf_effect.mp hc
        split at h1
        · cases h1
        · next hk => cases h1; simp [h0, hk, bankFind_isSome]
      · next hc =>
        simp only [true_iff]
        exact fun h0 hk => absurd (slotClassOf_effect.mpr ⟨h0, if_neg hk⟩) (hc _)

theorem checkHouse_agree : Agree (checkEntry .house t e) (conditionsOf t .house e) := by
  unfold checkEntry checkHouse conditionsOf
  dsimp only
  split
  · exact .cons (houseHeaderInRange_iff _) fun _ => .nil
  · refine .cons (circuitInRange_iff _) fun ⟨_, _, hslot, _⟩ => .cons ?_ fun _ => .nil
    have slot : (circuitEntryOf e.bytes).slot ≠ 0 := Nat.ne_of_gt hslot
    rw [Bool.or_eq_true, le_expectedLength_iff slot, slotMapEmpty, List.isEmpty_iff]
    exact Classical.or_iff_not_imp_left

theorem checkCue_agree : Agree (checkEntry .cue t e) (conditionsOf t .cue e) := by
  unfold checkEntry checkCue conditionsOf
  refine .cons ?_ fun ⟨_, _, _, hr⟩ => .cons (not_earlier_iff _ _ fun x => (cueEntryOf x.bytes).number) fun _ =>
    .cons ?_ fun _ => .cons ?_ fun _ => .nil
  · simp [cueInRange, within_iff, actionInRange_iff, and_assoc]
  · simp [within_iff]
  · rw [List.all_eq_true]
    exact forall₂_congr fun a ha => actionRefers_iff (hr a ha)

theorem checkZone_agree : Agree (checkEntry .zone t e) (conditionsOf t .zone e) := by
  unfold checkEntry checkZone conditionsOf
  dsimp only
  split
  · refine .cons (zoneInRange_iff _) fun _ => .cons ?_ fun _ => .cons (pollKindOf_zoneUnit _ _) fun _ =>
      .cons ?_ fun _ => .nil
    · simp [slotMapEmpty]
    · simp [earlier_eq_false, FirstWith]
  · exact .nil

theorem checkCurtain_agree : Agree (checkEntry .curtain t e) (conditionsOf t .curtain e) := by
  unfold checkEntry checkCurtain conditionsOf
  refine .cons (curtainInRange_iff _) fun _ => .cons (pollKindOf_curtainUnit _ _) fun _ =>
    .cons (not_earlier_iff _ _ fun x => at1 x.bytes 0) fun _ => .cons ?_ fun _ => .nil
  by_cases hp : at1 e.bytes 1 = 1 <;> by_cases hd : at1 e.bytes 2 = 1 <;>
    simp [curtainEntryOf, earlier_eq_false, FirstWith, hp, hd]

theorem checkMessage_agree : Agree (checkEntry .message t e) (conditionsOf t .message e) :=
  .cons (messageInRange_iff _) fun _ => .nil

theorem checkSchedule_agree : Agree (checkEntry .schedule t e) (conditionsOf t .schedule e) := by
  unfold checkEntry checkSchedule conditionsOf
  refine .cons (scheduleInRange_iff _) fun _ => .cons ?_ fun _ => .nil
  by_cases hb : at1 e.bytes 10 = 1 <;>
    simp [scheduleEntryOf, hb, bankFind_isSome, ScheduleRefers, and_assoc, and_comm, and_left_comm]

theorem checkPoll_agree : Agree (checkEntry .poll t e) (conditionsOf t .poll e) := by
  unfold checkEntry checkPoll conditionsOf
  refine .cons (pollInRange_iff _) fun _ => .cons (not_earlier_iff _ _ fun x => at1 x.bytes 0) fun _ =>
    .cons ?_ fun _ => .nil
  by_cases h : at1 e.bytes 1 = 3 <;> simp [earlier_eq_false, FirstWith, h]

/-- The checks of an entry of any table say what its conditions say, in their order (R199). -/
theorem checkEntry_agree (i : TableId) : Agree (checkEntry i t e) (conditionsOf t i e) := by
  cases i with
  | slot => exact checkSlot_agree t e
  | house => exact checkHouse_agree t e
  | cue => exact checkCue_agree t e
  | zone => exact checkZone_agree t e
  | curtain => exact checkCurtain_agree t e
  | message => exact checkMessage_agree t e
  | schedule => exact checkSchedule_agree t e
  | poll => exact checkPoll_agree t e

/-! ### What validation answers -/

theorem headerMissing_slot (b : Bank) : headerMissing .slot b = true ↔ ¬ (b ≠ [] → EntryAt b 0) := by
  simp [headerMissing, ← bankFind_isSome]

theorem headerMissing_of_present (h : HeaderPresent t) (i : TableId) : headerMissing i (t.get i) = false := by
  cases i
  case slot => exact Bool.eq_false_iff.mpr fun hm => (headerMissing_slot _).mp hm h
  all_goals rfl

theorem validateTable_none_iff (h : HeaderPresent t) (i : TableId) : validateTable t i = none ↔ TableMet t i := by
  rw [validateTable_eq_none, and_iff_right (headerMissing_of_present t h i)]
  exact forall₂_congr fun e _ => (checkEntry_agree t e i).firstFailing_eq_none

theorem validateTable_of_headerMissing (h : ¬ HeaderPresent t) : validateTable t .slot = some ⟨1, 0, 2⟩ :=
  if_pos ((headerMissing_slot _).mpr h)

theorem validate_none_iff : validate t = none ↔ HeaderPresent t ∧ ∀ i, TableMet t i := by
  rw [validate_eq_none]
  constructor
  · intro h
    have header : HeaderPresent t := by
      by_contra hm
      exact nomatch (validateTable_of_headerMissing t hm).symm.trans (h .slot)
    exact ⟨header, fun i => (validateTable_none_iff t header i).mp (h i)⟩
  · exact fun ⟨header, h⟩ i => (validateTable_none_iff t header i).mpr (h i)

/-- What passes validation refers to nothing outside it (R65, R199). -/
theorem referencesExist_of_met (h : ∀ i, TableMet t i) : ReferencesExist t := by
  refine ⟨?slot, ?house, ?cue, ?zone, ?curtain, ?schedule⟩
  case slot =>
    intro e he hi
    have := h .slot e he
    simp only [conditionsOf, if_neg hi, List.forall_mem_cons] at this
    obtain ⟨⟨range, -⟩, -, -, circuit, -, curtain, -⟩ := this
    refine ⟨fun h0 => ⟨?_, circuit h0⟩, curtain⟩
    rcases range with ⟨-, h1, -⟩ | ⟨h3, -⟩ | ⟨hk, -⟩ <;> omega
  case house =>
    intro e he hi hs
    have := h .house e he
    simp only [conditionsOf, if_neg hi, List.forall_mem_cons] at this
    obtain ⟨-, slot, -⟩ := this
    obtain ⟨bs, hf, hle⟩ := slot hs
    obtain ⟨x, hx, rfl⟩ := Option.map_eq_some_iff.mp hf
    exact ⟨x, List.mem_of_find?_eq_some hx, by simpa using List.find?_some hx, hle⟩
  case cue =>
    intro e he
    have := h .cue e he
    simp only [conditionsOf, List.forall_mem_cons] at this
    obtain ⟨-, -, -, refers, -⟩ := this
    exact refers
  case zone =>
    intro e he hi
    have := h .zone e he
    simp only [conditionsOf, if_pos hi, List.forall_mem_cons] at this
    obtain ⟨-, -, kind, -⟩ := this
    exact exists_of_kindCode kind
  case curtain =>
    intro e he
    have := h .curtain e he
    simp only [conditionsOf, List.forall_mem_cons] at this
    obtain ⟨-, kind, -⟩ := this
    exact exists_of_kindCode kind
  case schedule =>
    intro e he
    have := h .schedule e he
    simp only [conditionsOf, List.forall_mem_cons] at this
    obtain ⟨-, refers, -⟩ := this
    exact refers

theorem referencesExist_of_validate (h : validate t = none) : ReferencesExist t :=
  referencesExist_of_met t ((validate_none_iff t).mp h).2

/-- Settles O49: the checks of each entry agree with its conditions, so what `firstFailing` finds is the first of them
that fails. -/
theorem validationReportsTheFirstFailure : Obligations.ValidationReportsTheFirstFailure := by
  refine fun t => ⟨validate_none_iff t, referencesExist_of_validate t, fun header => ?_, ?_⟩
  · refine (validate_eq_some t _).mpr ⟨.slot, validateTable_of_headerMissing t header, fun j hj => ?_⟩
    cases j <;> exact absurd hj (by decide)
  · intro i e c before after met rest header lower hsplit hbefore conditions hmet hc
    refine (validate_eq_some t _).mpr ⟨i, ?_, fun j hj => (validateTable_none_iff t header j).mpr (lower j hj)⟩
    refine (validateTable_eq_some t i _ (headerMissing_of_present t header i)).mpr
      ⟨before, e, after, hsplit, ⟨c.2, ?_, rfl⟩, fun x hx => ?_⟩
    · have agree := checkEntry_agree t e i
      rw [conditions] at agree
      exact agree.firstFailing_eq_some hmet hc
    · exact (checkEntry_agree t x i).firstFailing_eq_none.mpr (hbefore x hx)

end Sys2Proof.Machine
end

section
/-! Cues: recognition at the counted frame (R63 to R68), and GO CUE (R69). -/

namespace Sys2Proof.Machine

/-! ### The counted frame (R64) -/

section
variable {x : Nat} {s : State}

/-- The first frame of a number is noted, and re-opens recognition (R64). -/
theorem countFrame_new (hp : s.crg.previous ≠ some x) (hl : s.crg.last ≠ some x) :
    countFrame x s = s.setCrg { previous := some x, last := none } := by
  simp [countFrame, recognises, reopened, hp, hl]

/-- A further frame of a number recognised last changes nothing (R64). -/
theorem countFrame_held (h : s.crg = ⟨some x, some x⟩) : countFrame x s = s := by
  have same : s.setCrg ⟨some x, some x⟩ = s := by rw [← h]; rfl
  simpa [countFrame, recognises, reopened, h] using same

/-- The second frame of a number in a row recognises it and looks it up (R64). -/
theorem countFrame_second (h1 : 1 ≤ x) (h2 : x ≤ 65534) (hp : s.crg.previous ≠ some x) (hl : s.crg.last ≠ some x) :
    countFrame x (countFrame x s) = lookUp x (s.setCrg { previous := some x, last := some x }) := by
  have h0 : x ≠ 0 := by omega
  have hmax : x ≠ 65535 := by omega
  rw [countFrame_new hp hl]
  simp [countFrame, recognises, reopened, h0, hmax]

theorem lookUp_unknown (h : findCue s.tbs.active.cue x = none) : lookUp x s = post .cueUnknown x none s := by
  simp [lookUp, h]

theorem lookUp_outOfPhase {c : CueEntry} (h : findCue s.tbs.active.cue x = some c)
    (hf : c.filter.testBit s.phc.phase.code = false) :
    lookUp x s = post .cueOutOfPhase x (some s.phc.phase.code) s := by
  simp [lookUp, h, CueEntry.allows, hf]

theorem lookUp_run {c : CueEntry} (h : findCue s.tbs.active.cue x = some c)
    (hf : c.filter.testBit s.phc.phase.code = true) :
    lookUp x s = (runActions x true 1 c.actions (post .cueRun x (some 0) s)).1 := by
  simp [lookUp, h, CueEntry.allows, hf]
end

/-! ### The run of an entry's actions (R67, R68) -/

/-- A run that reports takes each action in order and reports its result at its position (R68). -/
theorem runActions_reported (x n : Nat) (l : List RawAction) (s : State) : (runActions x true n l s).1 =
    (l.zipIdx n).foldl
      (fun t k => reportAction x k.2 (actionAnswer k.1 t).result (actionAnswer k.1 t).state) s := by
  induction l generalizing n s with
  | nil => rfl
  | cons a l ih => exact ih (n + 1) _

/-- A run that does not report takes each action in order and notes its result (R69). -/
theorem runActions_unreported (x n : Nat) (l : List RawAction) (s : State) (rs : List Result) :
    l.foldl (fun (a : State × List Result) k =>
        ((actionAnswer k a.1).state, a.2 ++ [(actionAnswer k a.1).result])) (s, rs) =
      ((runActions x false n l s).1, rs ++ (runActions x false n l s).2) := by
  induction l generalizing n s rs with
  | nil => simp [runActions]
  | cons a l ih => simp [ih (n + 1), runActions]

/-- Settles O20: the second frame comes to the look-up, whose run is a fold of `reportAction`. -/
theorem heldNumberIsRecognisedOnce : Obligations.HeldNumberIsRecognisedOnce := by
  intro x s u h1 h2 hp hl hu
  have second : countFrame x (countFrame x s) = lookUp x u := by rw [countFrame_second h1 h2 hp hl, hu]
  have held {t : State} (ht : t.crg = u.crg) : countFrame x t = t := countFrame_held (by rw [ht, hu]; rfl)
  have cues : u.tbs.active.cue = s.tbs.active.cue := by rw [hu]; rfl
  have phase : u.phc = s.phc := by rw [hu]; rfl
  rw [← cues, ← phase, second]
  refine ⟨countFrame_new hp hl, fun t => countFrame_held, fun hnone => ?unknown, fun c hc hf => ?outOfPhase,
    fun c hc hf => ?run⟩
  case unknown =>
    rw [lookUp_unknown hnone]
    exact ⟨rfl, held (post_crg ..)⟩
  case outOfPhase =>
    rw [lookUp_outOfPhase hc hf]
    exact ⟨rfl, held (post_crg ..)⟩
  case run =>
    rw [lookUp_run hc hf, runActions_reported]
    refine List.foldl_ext _ _ _ fun t k _ => ?_
    generalize actionAnswer k.1 t = a
    obtain ⟨v, r, p⟩ := a
    cases r <;> rfl

/-! ### Actions and the commands that they match (R65, R67) -/

/-- A SUPPRESS names the same zones and duration as the action with the same fields, and each has a bad form just when
the other has. -/
theorem suppressCmd_eq_actionAnswer (n h l : Byte) (zs : List Byte) (s : State) :
    suppressCmd ([n] ++ zs ++ [h, l]) s = actionAnswer ⟨1, [h, l, n] ++ zs⟩ s := by
  have action : actionOf ⟨1, [h, l, n] ++ zs⟩ = if zs.length = n.toNat then
      some (.suppress (zs.map BitVec.toNat) (h.toNat * 256 + l.toNat)) else none := by
    refine (actionOf_suppress _).trans (if_congr ?_ rfl rfl)
    change zs.length + 1 + 1 + 1 = 3 + n.toNat ↔ _
    omega
  have read : readSuppress ([n] ++ zs ++ [h, l]) = if zs.length = n.toNat then
      some (zs.map BitVec.toNat, h.toNat * 256 + l.toNat) else none := by
    rw [readSuppress, show at1 ([n] ++ zs ++ [h, l]) 0 = n.toNat from rfl]
    by_cases hn : zs.length = n.toNat
    · simp [← hn, at2, at1, Nat.add_comm 1, Nat.add_comm 3]
    · rw [if_neg hn, if_neg (by simp; omega)]
  rw [suppressCmd, actionAnswer, read, action]
  by_cases hn : zs.length = n.toNat
  · rw [if_pos hn, if_pos hn]
  · rw [if_neg hn, if_neg hn]

theorem houseFadeCmd_eq_actionAnswer (g target h l : Byte) (s : State) :
    houseFadeCmd [1, g, target, h, l] s = actionAnswer ⟨2, [g, target, h, l]⟩ s := rfl

theorem setPhaseCmd_eq_actionAnswer (code minutes : Byte) (s : State) : setPhaseCmd [code, minutes] s =
    { actionAnswer ⟨4, [code, minutes]⟩ s with payload := showBytes (actionAnswer ⟨4, [code, minutes]⟩ s).state } := rfl

theorem curtainMoveCmd_eq_actionAnswer (n m : Byte) (s : State) :
    curtainMoveCmd [n, m] s = actionAnswer ⟨5, [n, m]⟩ s := rfl

/-! ### CALL from a cue (R149, R151, R153) -/

/-- The fields of a CALL and of the matching action. -/
def givenCall (m zh zl pc : Byte) : CallArgs :=
  ⟨m.toNat, if zh.toNat * 256 + zl.toNat = 0 then none else some (BitVec.ofNat 16 (zh.toNat * 256 + zl.toNat)), pc.toNat⟩

section
variable (m zh zl pc : Byte) (s : State)

theorem callCmd_four : callCmd [m, zh, zl, pc] s = callAt (givenCall m zh zl pc) .command s := rfl

theorem actionAnswer_call : actionAnswer ⟨3, [m, zh, zl, pc]⟩ s = callAt (givenCall m zh zl pc) .cue s := rfl

theorem givenCall_zones (z : FohSet) : (givenCall m zh zl pc).zones.getD z =
    if zh.toNat * 256 + zl.toNat = 0 then z else BitVec.ofNat 16 (zh.toNat * 256 + zl.toNat) := by
  unfold givenCall
  split <;> rfl
end

section
variable {c : Call} {s : State}

theorem find_sameKey_eq_none (h : ∀ y ∈ s.clc.queue, ¬ (y.message = c.message ∧ y.priority = c.priority)) :
    (s.clc.queue.find? fun e => e.sameKey c) = none :=
  List.find?_eq_none.mpr fun y hy => by simpa [Call.sameKey] using h y hy

/-- A call with a like is merged into it (R151). -/
theorem placeCall_merges {e : Call} (h : (s.clc.queue.find? fun e => e.sameKey c) = some e) : placeCall c s =
    ⟨setQueue (s.clc.queue.map fun x => if x.sameKey c then x.merge c else x) s, some (e.merge c), true⟩ := by
  simp only [placeCall, h]

/-- A call with no like in a queue with a free place joins it (R151). -/
theorem placeCall_joins (h : ∀ y ∈ s.clc.queue, ¬ (y.message = c.message ∧ y.priority = c.priority))
    (hq : s.clc.queue.length < 16) : placeCall c s = ⟨setQueue (joined c s.clc.queue) s, some c, false⟩ := by
  simp only [placeCall, find_sameKey_eq_none h, if_pos hq, insertCall_eq_joined]

/-- In a full queue it takes the place of the last entry, when that has a lower priority (R151). -/
theorem placeCall_displaces {y : Call} (h : ∀ y ∈ s.clc.queue, ¬ (y.message = c.message ∧ y.priority = c.priority))
    (hq : 16 ≤ s.clc.queue.length) (hy : s.clc.queue.getLast? = some y) (hp : y.priority.code < c.priority.code) :
    placeCall c s = ⟨(post .callDisplaced y.message (some y.priority.code) s).setClc
      { s.clc with queue := joined c s.clc.queue.dropLast }, some c, false⟩ := by
  simp only [placeCall, find_sameKey_eq_none h, if_neg (Nat.not_lt.mpr hq), hy, if_pos hp, insertCall_eq_joined,
    setQueue, post_clc]

/-- Otherwise it is not placed (R151). -/
theorem placeCall_dropped (h : ∀ y ∈ s.clc.queue, ¬ (y.message = c.message ∧ y.priority = c.priority))
    (hq : 16 ≤ s.clc.queue.length)
    (hp : ∀ y, s.clc.queue.getLast? = some y → ¬ y.priority.code < c.priority.code) : placeCall c s = ⟨s, none, false⟩ := by
  simp only [placeCall, find_sameKey_eq_none h, if_neg (Nat.not_lt.mpr hq)]
  cases hy : s.clc.queue.getLast? with
  | none => rfl
  | some y => exact if_neg (hp y hy)
end

section
variable {m : Nat} {z : FohSet} {p : Priority} {s : State}

/-- A placed call is answered with its entry (R153). -/
theorem callPlaced_of_placed {o : Origin} {t : State} {e : Call} {merged : Bool}
    (h : placeCall (newCall s m z p o) s = ⟨t, some e, merged⟩) :
    callPlaced m z p o s = ⟨select t, .accepted, placedBytes e merged⟩ := by
  simp [callPlaced, placeAndSelect, h]

/-- The origin of a call says nothing where the call is merged into an entry or not placed (R151). -/
theorem callPlaced_origin (o : Origin) (h : (callPlaced m z p .cue s).result ≠ .accepted ∨
    ∃ y ∈ s.clc.queue, y.message = m ∧ y.priority = p) : callPlaced m z p o s = callPlaced m z p .cue s := by
  suffices same : placeCall (newCall s m z p o) s = placeCall (newCall s m z p .cue) s by
    simp only [callPlaced, placeAndSelect, same]
  cases hfind : s.clc.queue.find? fun e => e.sameKey (newCall s m z p .cue) with
  | some e => exact (placeCall_merges (c := newCall s m z p o) hfind).trans (placeCall_merges hfind).symm
  | none =>
    have new : ∀ y ∈ s.clc.queue, ¬ (y.message = m ∧ y.priority = p) := fun y hy => by
      simpa [Call.sameKey, newCall] using List.find?_eq_none.mp hfind y hy
    have refused : (callPlaced m z p .cue s).result ≠ .accepted :=
      h.resolve_right fun ⟨y, hy, like⟩ => new y hy like
    have full : 16 ≤ s.clc.queue.length := Nat.not_lt.mp fun hq =>
      refused (congrArg Answer.result (callPlaced_of_placed (placeCall_joins new hq)))
    have last : ∀ y, s.clc.queue.getLast? = some y → ¬ y.priority.code < p.code := fun y hy hp =>
      refused (congrArg Answer.result (callPlaced_of_placed (placeCall_displaces new full hy hp)))
    rw [placeCall_dropped (c := newCall s m z p o) new full last,
      placeCall_dropped (c := newCall s m z p .cue) new full last]
end

/-- The origin of a CALL says nothing where it is refused or merged (R153). -/
theorem callAt_origin {a : CallArgs} {s : State} (o : Origin) (h : (callAt a .cue s).result ≠ .accepted ∨
    ∀ e p, findMessage s.tbs.active.message a.message = some e → callPriority e a.priority = some p →
      ∃ y ∈ s.clc.queue, y.message = a.message ∧ y.priority = p) : callAt a o s = callAt a .cue s := by
  unfold callAt at h ⊢
  split
  · rfl
  · next e he =>
    split
    · rfl
    · next p hp =>
      split
      · rfl
      · next hz =>
        simp only [he, hp, if_neg hz] at h
        exact callPlaced_origin o (h.imp_right fun all => all e p rfl hp)

section
variable {e : MessageEntry} {prio : Priority} {zones : FohSet} {o : Origin} {s : State}

theorem newCall_eq {m : Nat} (he : findMessage s.tbs.active.message m = some e) : newCall s m zones prio o =
    ⟨m, zones, prio, o, s.time, if e.expiry = 0 then none else some (s.time + e.expiry * 1000)⟩ := by
  simp only [newCall, callExpiryTime, he]

theorem callAt_placed {a : CallArgs} (he : findMessage s.tbs.active.message a.message = some e)
    (hp : callPriority e a.priority = some prio) (hz : a.zones.getD e.zones = zones) (h0 : zones ≠ 0) :
    callAt a o s = callPlaced a.message zones prio o s := by
  simp only [callAt, he, hp, hz, if_neg h0]
end

theorem placedBytes_newCall (m : Byte) (zones : FohSet) (prio : Priority) (o : Origin) (s : State) :
    placedBytes (newCall s m.toNat zones prio o) false = [m] ++ enc1 prio.code ++ enc2 zones.toNat ++ enc1 0 := by
  have message : enc1 m.toNat = [m] := by simp [enc1]
  rw [← message]
  rfl

/-- The priority that a code of a CALL gives (R153). -/
theorem callPriority_of_code {pc : Byte} {e : MessageEntry} {prio : Priority}
    (h : (pc = 0 ∧ prio = e.priority) ∨ (pc = 1 ∧ prio = .routine) ∨ (pc = 2 ∧ prio = .show) ∨
      (pc = 3 ∧ prio = .staff)) : callPriority e pc.toNat = some prio := by
  rcases h with ⟨rfl, rfl⟩ | ⟨rfl, rfl⟩ | ⟨rfl, rfl⟩ | ⟨rfl, rfl⟩ <;> rfl

/-! ### GO CUE (R69) -/

theorem goCueCmd_badForm {p : List Byte} (h : p.length ≠ 2) (s : State) : goCueCmd p s = ⟨s, .badArgument, []⟩ := by
  simp [goCueCmd, readCueNumber, h]

theorem goCueCmd_two (hi lo : Byte) (s : State) : goCueCmd [hi, lo] s = goCueAt (hi.toNat * 256 + lo.toNat) s := rfl

theorem enc2_bytes (hi lo : Byte) : enc2 (hi.toNat * 256 + lo.toNat) = [hi, lo] := by
  have high : BitVec.ofNat 8 ((hi.toNat * 256 + lo.toNat) / 256) = hi := BitVec.eq_of_toNat_eq (by simp; omega)
  have low : BitVec.ofNat 8 (hi.toNat * 256 + lo.toNat) = lo := BitVec.eq_of_toNat_eq (by simp; omega)
  rw [enc2, high, low]

theorem flatten_map_enc1 {α : Type} (f : α → Nat) (l : List α) :
    (l.map fun a => enc1 (f a)).flatten = l.map fun a => BitVec.ofNat 8 (f a) := by
  induction l with
  | nil => rfl
  | cons a l ih => simpa [enc1] using ih

section
variable {x : Nat} {s : State}

theorem goCueAt_unknown (h : x = 0 ∨ x = 65535 ∨ findCue s.tbs.active.cue x = none) :
    goCueAt x s = ⟨s, .badArgument, []⟩ := by
  unfold goCueAt
  split
  · rfl
  · next hx =>
    obtain ⟨h0, hmax⟩ := not_or.mp hx
    rw [(h.resolve_left h0).resolve_left hmax]

variable {c : CueEntry} (h1 : 1 ≤ x) (h2 : x ≤ 65534) (hc : findCue s.tbs.active.cue x = some c)
include h1 h2 hc

theorem goCueAt_outOfPhase (hf : c.filter.testBit s.phc.phase.code = false) : goCueAt x s = ⟨s, .refusedState, []⟩ := by
  have hx : ¬ (x = 0 ∨ x = 65535) := by omega
  simp [goCueAt, hx, hc, CueEntry.allows, hf]

theorem goCueAt_run (hf : c.filter.testBit s.phc.phase.code = true) {t : State} {rs : List Result}
    (hrun : runActions x false 1 c.actions (post .cueRun x (some 1) s) = (t, rs)) : goCueAt x s =
      ⟨t, ((rs.filter fun r => r != .done).head?).getD .done,
        enc2 x ++ enc1 c.actions.length ++ rs.map fun r => BitVec.ofNat 8 r.code⟩ := by
  have hx : ¬ (x = 0 ∨ x = 65535) := by omega
  simp [goCueAt, hx, hc, CueEntry.allows, hf, hrun, runResult, flatten_map_enc1]
end

/-- Settles O21: GO CUE by the look-up and the run without reports; each action by the command with its fields. -/
theorem goCueRunsTheEntry : Obligations.GoCueRunsTheEntry := by
  rintro hi lo x s hs rfl
  refine ⟨fun p hp hlen => next_takeCommand hs (goCueCmd_badForm hp s) hlen,
    fun h => next_takeCommand hs (goCueAt_unknown h),
    fun c h1 h2 hc hf => next_takeCommand hs (goCueAt_outOfPhase h1 h2 hc hf),
    fun c t rs h1 h2 hc hf hfold => next_takeCommand hs ?run,
    fun h l n zs hlen => next_takeCommand hs (suppressCmd_eq_actionAnswer n h l zs s) (by simp; omega),
    fun g target h l => next_takeCommand hs rfl, fun m zh zl pc k hk => ?call,
    fun code minutes => next_takeCommand hs (setPhaseCmd_eq_actionAnswer code minutes s),
    fun n m => next_takeCommand hs rfl⟩
  case run =>
    rw [runActions_unreported _ 1, List.nil_append] at hfold
    rw [goCueCmd_two, goCueAt_run h1 h2 hc hf hfold, enc2_bytes]
  case call =>
    subst hk
    rw [actionAnswer_call]
    refine ⟨fun refused => next_takeCommand hs (callAt_origin .command (.inl refused)), ?_⟩
    rintro e zones prio c he hzones h0 hprio rfl
    have code := callPriority_of_code hprio
    have answer := callAt_placed (a := givenCall m zh zl pc) (o := .cue) he code
      ((givenCall_zones m zh zl pc e.zones).trans hzones.symm) h0
    rw [← newCall_eq he, ← placedBytes_newCall m zones prio .cue s]
    refine ⟨fun like => next_takeCommand hs (callAt_origin .command (.inr fun e' p' he' hp' => ?_)),
      fun new => ⟨fun room => ?_, fun y full hy lower => ?_⟩⟩
    · cases he.symm.trans he'
      cases code.symm.trans hp'
      exact like
    · exact answer.trans (callPlaced_of_placed (placeCall_joins new room))
    · exact answer.trans (callPlaced_of_placed (placeCall_displaces new full hy lower))

end Sys2Proof.Machine
end

section
/-! A law on TBS's records: what TBS keeps, every command and every step keep. The operations in which TBS has no part
leave its records; the others come to its re-examination of a waiting commit, its restart and its commands. -/

namespace Sys2Proof.Machine

/-- `P` speaks of TBS's records alone, and is kept by what TBS does: its re-examination of a waiting commit (R200), its
restart (R197, R202) and its commands (R198, R199, R202, R204, R205). -/
structure StoreLaw (P : State → Prop) : Prop where
  same : ∀ {s t}, P s → t.tbs = s.tbs → P t
  reexamined : ∀ {s}, P s → P (reexamine s)
  restarted : ∀ {s}, P s → P (storeRestart s)
  opened : ∀ {p s}, P s → P (stageOpenCmd p s).state
  written : ∀ {p s}, P s → P (stageWriteCmd p s).state
  queued : ∀ {p s}, P s → P (stageQueueCmd p s).state
  committed : ∀ {p s}, P s → P (commitCmd p s).state
  aborted : ∀ {p s}, P s → P (abortCommitCmd p s).state
  authority : ∀ {p s}, P s → P (setAuthorityCmd p s).state
  locked : ∀ {p s}, P s → P (lockAuthorityCmd p s).state

theorem answer_ite_kept {P : State → Prop} {c : Prop} [Decidable c] {a b : Answer} (ha : P a.state) (hb : P b.state) :
    P (if c then a else b).state := by
  split
  · exact ha
  · exact hb

/-- What speaks of TBS's records alone is kept by the changes that the close of a window makes, and the rest of the
blocks. -/
theorem keptByCloses_of_tbs {P : State → Prop} (same : ∀ {s t}, P s → t.tbs = s.tbs → P t) : KeptByCloses P where
  posted hs := same hs (postRecord_tbs _ _)
  lpc hs := same hs rfl
  ctc hs := same hs rfl
  clc _ hs := same hs rfl
  place hs := same hs (sameCore_placeCall _ _).1.tbs
  hlu hs := same hs rfl
  fbl hs := same hs rfl
  srx hs := same hs rfl
  crg hs := same hs rfl
  asc hs := same hs rfl
  close hs := closeBegin_kept ⟨fun hu => same hu (postRecord_tbs _ _), fun hu => same hu rfl⟩ _ _ hs

/-! ### The owners' operations, TBS apart -/

section
variable {P : State → Prop} (h : StoreLaw P)
include h

theorem StoreLaw.posted {r : EventRecord} {s : State} (hs : P s) : P (postRecord r s) := h.same hs (postRecord_tbs r s)

theorem StoreLaw.zones : KeptByZones P := ⟨h.posted, fun hs => h.same hs rfl⟩

theorem StoreLaw.closes : KeptByCloses P := keptByCloses_of_tbs h.same

theorem StoreLaw.curtains : KeptByCurtains P := h.closes.toKeptByCurtains
theorem StoreLaw.links : KeptByLinks P := h.curtains.toKeptByLinks
theorem StoreLaw.calls : KeptByCalls P := h.closes.toKeptByCalls
theorem StoreLaw.signal : KeptBySignal P := h.closes.toKeptBySignal
theorem StoreLaw.output : KeptByOutput P := h.signal.toKeptByOutput

variable {s : State} (hs : P s)
include hs

theorem StoreLaw.freed : P (freed s) := select_kept h.calls _ (h.reexamined hs)

/-! ### The alarm (chapter 6) and the windows (R90 to R95) -/

theorem StoreLaw.startGroup (g : Nat) (cause : StartCause) : P (startGroup g cause s) :=
  startGroup_keptByCloses h.closes g cause s hs

theorem StoreLaw.enterEvacuate (general : Bool) (cause : Nat) (fireGroup : Option Nat) :
    P (enterEvacuate general cause fireGroup s).1 :=
  enterEvacuate_keptByCloses h.closes general cause fireGroup s hs

theorem StoreLaw.takeFire (f : Fire) : P (takeFire f s) := takeFire_keptByCloses h.closes f s hs

theorem StoreLaw.closeWindow (z : Nat) : P (closeWindow z s) :=
  closeWindow_keptByCloses h.closes z s (h.closes.close hs) fun _ => hs

theorem StoreLaw.closeAllWindows : P (closeAllWindows s) :=
  foldl_kept (P := P) _ (fun _ _ hu => h.closeWindow hu _) _ hs

theorem StoreLaw.ackExpire : P (ackExpire s) := ite_kept (h.enterEvacuate hs _ _ _) hs

theorem StoreLaw.invExpire : P (invExpire s) := ite_kept (h.enterEvacuate hs _ _ _) hs

theorem StoreLaw.offsetExpire (g : Nat) : P (offsetExpire g s) := ite_kept (h.startGroup hs _ _) hs

theorem StoreLaw.returnToNormal : P (returnToNormal s) := h.same hs rfl

theorem StoreLaw.alarmAckCmd (p : List Byte) : P (alarmAckCmd p s).state := by
  unfold Machine.alarmAckCmd
  split
  · exact hs
  · split
    · exact h.posted (h.closes.asc hs)
    · exact hs

theorem StoreLaw.declareFalse : P (declareFalse s) :=
  h.freed (h.returnToNormal (h.posted (h.same hs rfl)))

theorem StoreLaw.alarmFalseCmd (p : List Byte) : P (alarmFalseCmd p s).state := by
  unfold Machine.alarmFalseCmd
  split
  · exact hs
  · split
    · split
      · exact hs
      · exact h.declareFalse hs
    · exact hs

theorem StoreLaw.forceClear : P (forceClear s) := by
  have left : P (s.setPhc { s.phc with phase := .houseClear, start := s.time }) := h.same hs rfl
  exact h.posted (ite_kept (clearSchedule_kept h.calls _ left) left)

theorem StoreLaw.resetAlarm : P (resetAlarm s) :=
  h.freed (channelAlarmReset_kept h.calls _ (h.returnToNormal (h.posted (h.same (h.forceClear hs) rfl))))

theorem StoreLaw.alarmResetCmd (p : List Byte) : P (alarmResetCmd p s).state := by
  unfold Machine.alarmResetCmd
  split
  · exact hs
  · split
    · split
      · exact hs
      · exact h.resetAlarm hs
    · exact hs

theorem StoreLaw.suppressAt (list : List Nat) (d : Nat) : P (suppressAt list d s).state := by
  unfold Machine.suppressAt
  split
  · exact hs
  · split
    · exact hs
    · split
      · exact foldl_pair_kept _ _ (fun _ _ hu => h.closeWindow hu _) hs
      · exact suppressZones_kept h.zones _ _ _ _ hs

theorem StoreLaw.suppressCmd (p : List Byte) : P (suppressCmd p s).state := by
  unfold Machine.suppressCmd
  split
  · exact hs
  · exact h.suppressAt hs _ _

theorem StoreLaw.windowExpire (z : Nat) : P (windowExpire z s) := ite_kept (h.closeWindow hs z) hs

theorem StoreLaw.reportFire (r : Zone) : P (reportFire r s) := by
  unfold Machine.reportFire
  split
  · exact ite_kept hs (h.takeFire (latchZone_kept h.zones _ _ hs) _)
  · exact ite_kept hs (h.posted (h.zones.zmn hs))

theorem StoreLaw.notePrealarm (z : Nat) (before after : Condition) : P (notePrealarm z before after s) :=
  ite_kept (h.closes.asc hs) hs

theorem StoreLaw.zoneReport (r : Zone) (value : Nat) : P (zoneReport r value s) := by
  have noted : P (modZone r.number (fun z => { z with condition := Condition.ofReport value }) s) := h.zones.zmn hs
  have told := postCondition_kept h.links r.number r.condition (Condition.ofReport value) _
    (ite_kept (c := Condition.ofReport value = .fire) (h.reportFire noted r) noted)
  have recorded := h.notePrealarm told r.number r.condition (Condition.ofReport value)
  exact ite_kept recorded (clearDeferred_kept h.zones _ _ recorded)

theorem StoreLaw.zoneReply (unit : Nat) (content : List Byte) : P (zoneReply unit content s) := by
  refine foldl_kept (P := P) _ (fun u i hu => ?_) _ hs
  unfold inputReport
  split
  · exact h.zoneReport hu _ _
  · exact hu

theorem StoreLaw.zoneUnitLost (unit : Nat) : P (zoneUnitLost unit s) := by
  refine foldl_kept (P := P) _ (fun u i hu => ?_) _ hs
  unfold loseZone
  split
  · exact postCondition_kept h.links _ _ _ _ (h.zones.zmn hu)
  · exact hu

/-! ### The phases (chapter 1) -/

theorem StoreLaw.exitPhase (old : Phase) : P (exitPhase old s) := by
  unfold Machine.exitPhase
  split
  · exact h.closeAllWindows hs
  · exact clearSchedule_kept h.calls _ hs
  all_goals exact hs

theorem StoreLaw.enterPhase (new : Phase) : P (enterPhase new s) := by
  unfold Machine.enterPhase
  split
  · exact markIdle_kept h.signal _ hs
  · exact curtainsPreshow_kept h.curtains _ (h.zones.zmn hs)
  · exact rebuildIfSending_kept h.output _ hs
  all_goals exact hs

theorem StoreLaw.transition (new : Phase) (minutes : Option Nat) : P (transition new minutes s) := by
  have stored : P (s.setPhc (enteredRecord s new minutes)) := h.same hs rfl
  have entered := h.reexamined (h.enterPhase (h.exitPhase stored s.phc.phase) new)
  have filled := fillPhase_kept h.calls new _ entered
  unfold Machine.transition
  split
  · exact h.posted (h.posted filled)
  · exact h.posted filled

theorem StoreLaw.setPhaseAt (code : Nat) (minutes : Option Nat) : P (setPhaseAt code minutes s).state := by
  unfold Machine.setPhaseAt
  split
  · exact hs
  · split
    · exact hs
    · split
      · exact hs
      · split
        · exact hs
        · split
          · exact hs
          · exact h.transition hs _ _

theorem StoreLaw.setPhaseCmd (p : List Byte) : P (setPhaseCmd p s).state := by
  unfold Machine.setPhaseCmd
  split
  · exact hs
  · exact h.setPhaseAt hs _ _

/-! ### The curtains (chapter 7) -/

theorem StoreLaw.descentReply (r : DriveReply) (before : Bool) (c : Curtain) : P (descentReply r before c s) := by
  unfold Machine.descentReply
  have moved := modCurtain_kept h.curtains c.number
    (fun x => { x with state := .lowered, lastDescent := some (descentTimeOf c s), descent := none }) _ hs
  refine ite_kept (h.posted (h.same moved rfl)) ?_
  have falling := setCurtainState_kept h.curtains c.number .emergency _ hs
  exact ite_kept (h.posted falling) falling

theorem StoreLaw.takeState (r : DriveReply) (before : Bool) (c : Curtain) : P (takeState r before c s) := by
  unfold Machine.takeState
  refine ite_kept (h.descentReply hs _ _ _) (ite_kept (sentReply_kept h.links _ _ _ _ hs) ?_)
  split
  · exact segmentReply_kept h.curtains _ _ _ _ hs
  · exact ite_kept (pendantReply_kept h.curtains _ _ _ _ hs) (confirmCurtain_kept h.curtains _ _ _ hs)

theorem StoreLaw.driveReply (a : Nat) (r : DriveReply) (ack : Option (DriveCmd × Bool)) : P (driveReply a r ack s) := by
  have positioned := withUnit_kept (P := P) a (notePosition r) (fun c _ hu => notePosition_kept h.curtains r c _ hu) _ hs
  have acked := h.reexamined (withUnit_kept (P := P) a (takeAck r (heededAck a ack s))
    (fun c _ hu => takeAck_kept h.curtains r _ c _ hu) _ positioned)
  have released := h.reexamined (withUnit_kept (P := P) a (takeRelease r)
    (fun c _ hu => takeRelease_kept h.curtains r c _ hu) _ acked)
  have moved := h.reexamined (withUnit_kept (P := P) a
    (Machine.takeState r (((curtainOfUnit s a).map (·.lastObstruction)).getD false))
    (fun c _ hu => h.takeState hu r _ c) _ released)
  exact withUnit_kept (P := P) a (takeHold r (heededAck a ack s)) (fun c _ hu => takeHold_kept h.curtains r _ c _ hu) _ moved

theorem StoreLaw.driveUnitLost (a : Nat) : P (driveUnitLost a s) := h.reexamined (curtainLost_kept h.curtains _ _ hs)

theorem StoreLaw.stopTaken (c : Curtain) : P (stopTaken c s).state := by
  unfold Machine.stopTaken
  split
  · exact h.reexamined (stopSegment_kept h.curtains _ _ hs)
  · exact hs

theorem StoreLaw.moveTaken (c : Curtain) (up : Bool) : P (moveTaken c up s).state := by
  unfold Machine.moveTaken
  exact answer_ite_kept hs (answer_ite_kept hs (h.reexamined (startSegment_kept h.curtains _ _ _ hs)))

theorem StoreLaw.curtainMoveAt (number motion : Nat) : P (curtainMoveAt number motion s).state := by
  unfold Machine.curtainMoveAt
  split
  · exact hs
  · split
    · exact hs
    · split
      · exact hs
      · split
        · exact hs
        · split
          · exact h.stopTaken hs _
          · exact h.moveTaken hs _ _

theorem StoreLaw.curtainMoveCmd (p : List Byte) : P (curtainMoveCmd p s).state := by
  unfold Machine.curtainMoveCmd
  split
  · exact hs
  · exact h.curtainMoveAt hs _ _

theorem StoreLaw.demonstrateCmd (p : List Byte) : P (demonstrateCmd p s).state := by
  unfold Machine.demonstrateCmd
  split
  · exact hs
  · split
    · exact hs
    · split
      · exact hs
      · split
        · exact hs
        · exact h.reexamined (startDemo_kept h.curtains _ _ hs)

theorem StoreLaw.stallExpire (n : Nat) : P (stallExpire n s) := by
  unfold Machine.stallExpire
  split
  · exact ite_kept (h.reexamined (segmentEnded_kept h.curtains _ _ (failDemo_kept h.curtains _ _ _
      (h.posted (modCurtain_kept h.curtains _ _ _ (issueDrive_kept h.curtains _ _ _ hs)))))) hs
  · exact hs

theorem StoreLaw.dwellExpire : P (dwellExpire s) := by
  unfold Machine.dwellExpire
  split
  · exact ite_kept (h.reexamined (setDemo_kept h.curtains _ _ (startSegment_kept h.curtains _ _ _ hs))) hs
  · exact hs

theorem StoreLaw.loweringExpire : P (loweringExpire s) := by
  unfold Machine.loweringExpire
  split
  · exact ite_kept (h.reexamined (segmentEnded_kept h.curtains _ _ (failDemo_kept h.curtains _ _ _
      (modCurtain_kept h.curtains _ _ _ (issueDrive_kept h.curtains _ _ _ hs))))) hs
  · exact hs

/-! ### The calls (chapter 8) -/

theorem StoreLaw.stopped : P (dropCurrent (unitIssue (.stopPlay false) s)) :=
  dropCurrent_kept h.calls _ (unitIssue_kept h.links _ _ hs)

theorem StoreLaw.cancelAt (p : Nat) : P (cancelAt p s) := by
  have left : P (setQueue (s.clc.queue.filter fun c => !decide (c.priority.code ≤ p)) s) := h.same hs rfl
  simp only [Machine.cancelAt]
  split
  · exact h.freed (h.posted (h.stopped left))
  · split
    · exact left
    · exact h.posted left

theorem StoreLaw.cancelCallsCmd (p : List Byte) : P (cancelCallsCmd p s).state := by
  unfold Machine.cancelCallsCmd
  split
  · exact hs
  · split
    · exact h.cancelAt hs _
    · exact hs

theorem StoreLaw.overrunExpire : P (overrunExpire s) := by
  unfold Machine.overrunExpire
  split
  · exact ite_kept (h.freed (h.posted (h.stopped hs))) hs
  · exact hs

theorem StoreLaw.afterPage : P (afterPage s) := ite_kept (resumeEvacuation_kept h.calls _ hs) (h.freed hs)

theorem StoreLaw.pageLimitExpire : P (pageLimitExpire s) :=
  ite_kept (h.afterPage (endPage_kept h.calls _ _ _ _ hs)) hs

theorem StoreLaw.callEnds (c : Call) : P (callEnds c s) := by
  have dropped := dropCurrent_kept h.calls _ hs
  unfold Machine.callEnds
  refine h.freed ?_
  split
  · exact h.posted dropped
  · exact h.posted dropped

theorem StoreLaw.playingReply (r : UnitReply) (ack : Option (LoopCmd × Bool)) (c : Call) :
    P (playingReply r ack c s) := by
  have taken := playIsTaken_kept h.calls c _ hs
  unfold Machine.playingReply
  split
  · exact h.freed (h.posted (dropCurrent_kept h.calls _ hs))
  · exact ite_kept (h.callEnds taken _) taken
  all_goals exact ite_kept (h.callEnds hs _) hs

theorem StoreLaw.announcerReply (r : UnitReply) (ack : Option (LoopCmd × Bool)) : P (announcerReply r ack s) := by
  have noted : P (s.setClc { s.clc with unitReport := some (r.activity, r.part) }) := h.same hs rfl
  unfold Machine.announcerReply
  refine ite_kept (announcerRegained_kept h.calls _ _ noted) ?_
  split
  · exact h.playingReply noted _ _ _
  · exact evacReply_kept h.calls _ _ _ noted
  · exact noted

theorem StoreLaw.requestRose (cls : PageClass) : P (requestRose cls s) := by
  unfold Machine.requestRose
  split
  · exact select_kept h.calls _ hs
  · exact ite_kept (cutCall_kept h.calls _ _ hs) hs
  · exact ite_kept (h.afterPage (endPage_kept h.calls _ _ _ _ hs)) hs
  · exact ite_kept (fireInEvacuation_kept h.calls _ hs) hs

theorem StoreLaw.requestShown (a : Nat) (cls : PageClass) (zones : FohSet) : P (requestShown a cls zones s) := by
  have listed (rs : List Request) : P (setRequests rs s) := setRequests_kept h.calls rs _ hs
  unfold Machine.requestShown
  split
  · exact ite_kept hs (h.requestRose (listed _) _)
  · split
    · exact hs
    · exact hs
    · exact ite_kept (h.requestRose (listed _) _) (listed _)

theorem StoreLaw.requestGone (a : Nat) : P (requestGone a s) := by
  have ended : P (if (s.clc.holder.map fun h => h.1 == a).getD false then endPage false .pageEnded id s else s) :=
    ite_kept (endPage_kept h.calls _ _ _ _ hs) hs
  exact ite_kept (h.afterPage (setRequests_kept h.calls _ _ ended)) (setRequests_kept h.calls _ _ ended)

theorem StoreLaw.pagingReply (a : Nat) (cls : Option PageClass) (zones : FohSet) : P (pagingReply a cls zones s) := by
  have revoked := owedRevoke_kept h.calls a _ hs
  have noted (x : Calls) : P ((owedRevoke a s).setClc x) := h.same revoked rfl
  cases cls with
  | none => exact h.requestGone (noted _) a
  | some k => exact h.requestShown (noted _) a k zones

/-! ### The cues (chapter 4) -/

theorem StoreLaw.actionAnswer (a : RawAction) : P (actionAnswer a s).state := by
  unfold Machine.actionAnswer
  split
  · exact h.suppressAt hs _ _
  · exact houseFadeArgs_kept h.output _ _ hs
  · exact callAt_kept h.calls _ _ _ hs
  · exact h.setPhaseAt hs _ _
  · exact h.curtainMoveAt hs _ _
  · exact hs

theorem StoreLaw.runActions (cue : Nat) (report : Bool) (position : Nat) (l : List RawAction) :
    P (runActions cue report position l s).1 := by
  induction l generalizing position s with
  | nil => exact hs
  | cons a l ih =>
    have answered := h.actionAnswer hs a
    exact ih (ite_kept (reportAction_kept h.links _ _ _ _ answered) answered) _

theorem StoreLaw.countFrame (x : Nat) : P (countFrame x s) := by
  have counted (d : Debounce) : P (s.setCrg d) := h.same hs rfl
  have lookUp {u : State} (hu : P u) : P (Machine.lookUp x u) := by
    unfold Machine.lookUp
    split
    · exact h.posted hu
    · exact ite_kept (h.runActions (h.posted hu) _ _ _ _) (h.posted hu)
  exact ite_kept (lookUp (counted _)) (counted _)

theorem StoreLaw.frameReported (k : Nat) : P (frameReported k s) := by
  unfold Machine.frameReported
  split
  · exact hs
  · exact ite_kept (h.countFrame hs _) (breakPair_kept h.signal _ hs)

theorem StoreLaw.goCueCmd (p : List Byte) : P (goCueCmd p s).state := by
  unfold Machine.goCueCmd
  split
  · exact hs
  · unfold goCueAt
    split
    · exact hs
    · split
      · exact hs
      · split
        · exact h.runActions (h.posted hs) _ _ _ _
        · exact hs

/-! ### The field loop (chapter 9) -/

theorem StoreLaw.goodReply (st : Station) (t : Transaction) (r : ReplyFields) : P (goodReply st t r s) := by
  have answered := postAnswers_kept h.links st _
    (modStation_kept h.links st.address (Station.answered t (foundAck st t r).isSome) _ hs)
  unfold Machine.goodReply deliver
  dsimp only
  split
  · exact h.zoneReply answered _ _
  · exact h.driveReply answered _ _ _
  · exact h.announcerReply answered _ _
  · exact h.pagingReply answered _ _ _

theorem StoreLaw.miss (st : Station) : P (miss st s) := by
  unfold Machine.miss
  refine ite_kept hs (ite_kept (modStation_kept h.links _ _ _ hs) ?_)
  have lost := post_kept h.posted .outstationLost st.address (some st.kind.code) _
    (modStation_kept h.links st.address (fun x => { x with misses := 3, state := .lost }) _ hs)
  unfold tellLoss
  split
  · exact h.zoneUnitLost lost _
  · exact h.driveUnitLost lost _
  · exact announcerLost_kept h.calls _ _ lost
  · exact h.requestGone lost _

theorem StoreLaw.concludeWith (st : Station) (t : Transaction) (f : LoopFaults) (b : List Byte) :
    P (concludeWith st t f b s) := by
  have raised : P (setSticky f.raise s) := h.same hs rfl
  exact ite_kept (h.miss raised _) (h.goodReply hs _ _ _)

theorem StoreLaw.conclude (forced : Bool) (bs : List LoopByte) : P (conclude forced bs s) := by
  have ended := endTransaction_kept h.links _ hs
  unfold Machine.conclude
  split
  · exact hs
  · split
    · exact ended
    · exact h.concludeWith ended _ _ _ _

theorem StoreLaw.windowCloses : P (windowCloses s) := ite_kept (h.conclude hs _ _) hs

theorem StoreLaw.takeReply (t : Transaction) (running : Bool) (bs : List LoopByte) : P (takeReply t running bs s) := by
  unfold Machine.takeReply
  split
  · exact h.conclude hs _ _
  · exact hear_kept h.links _ _ _ _ hs

theorem StoreLaw.bytesCome (running : Bool) (bs : List LoopByte) : P (bytesCome running bs s) := by
  have noted := noteBytes_kept h.links bs _ hs
  unfold Machine.bytesCome
  split
  · exact noted
  · split
    · exact h.takeReply noted _ _ _
    · exact noted

/-! ### The restart (R191) -/

theorem StoreLaw.warmRestart (cause : Nat) : P (warmRestart cause s) := by
  have begun : P (post .restarted 0 (some cause) (linkRestart s)) := h.posted (h.same hs rfl)
  have store := h.restarted (streamRestart_kept h.signal _ (loopRestart_kept h.links _ begun))
  have owners := fblRestart_kept h.output _ (callsRestart_kept h.calls _ (curtainsRestart_kept h.curtains _ store))
  have zones : P (zonesRestart _) := h.zones.zmn (h.closeAllWindows owners)
  exact h.same zones (evaluateAttention_tbs _)

theorem StoreLaw.restartPulse : P (restartPulse s) := by
  have taken : P (s.setRestartArmed false) := h.same hs rfl
  exact ite_kept (ite_kept taken (h.warmRestart taken _)) hs

theorem StoreLaw.replyEnds : P (replyEnds s) := by
  unfold Machine.replyEnds
  split
  · exact hs
  · next r _ =>
    have ended : P (s.setCmi { clearShown r s.cmi with reply := none }) := h.same hs rfl
    exact ite_kept (h.warmRestart ended _) ended

theorem StoreLaw.abandonReply : P (abandonReply s) := by
  refine ite_kept ?_ hs
  have ended : P (setSticky (fun f => { f with collision := true }) (s.setCmi { s.cmi with reply := none })) :=
    h.same hs rfl
  exact ite_kept (h.warmRestart ended _) ended

/-! ### The commands (chapter 10) -/

theorem StoreLaw.readEventCmd (p : List Byte) : P (readEventCmd p s).state := by
  unfold Machine.readEventCmd
  split
  · exact hs
  · split
    · exact hs
    · exact h.same hs rfl

theorem StoreLaw.setMaskCmd (p : List Byte) : P (setMaskCmd p s).state := by
  unfold Machine.setMaskCmd
  split
  · exact hs
  · split
    · exact h.same hs (evaluateAttention_tbs _)
    · exact hs

theorem StoreLaw.ackAttentionCmd (p : List Byte) : P (ackAttentionCmd p s).state := by
  unfold Machine.ackAttentionCmd
  split
  · exact hs
  · exact h.same hs rfl

theorem StoreLaw.restartCmd (p : List Byte) : P (restartCmd p s).state := by
  unfold Machine.restartCmd
  split
  · exact hs
  · exact h.same hs rfl

theorem StoreLaw.gapExpire : P (gapExpire s) := ite_kept (h.same hs (evaluateAttention_tbs _)) hs

theorem StoreLaw.takeCommand {code : Nat} {key : Bool} {owner : List Byte → State → Answer} {p : List Byte}
    (ho : P (owner p s).state) : P (takeCommand code key owner p s) := by
  refine ite_kept hs (ite_kept (h.same hs rfl) (ite_kept ?_ ?_))
  · exact h.same (h.posted hs) rfl
  · exact h.same ho rfl

theorem StoreLaw.takeInstr (i : Instr) : P (takeInstr i s) := by
  cases i
  case setPhase p => exact h.takeCommand hs (h.setPhaseCmd hs p)
  case getShow p => exact h.takeCommand hs (getShowCmd_kept h.links p _ hs)
  case houseFade p => exact h.takeCommand hs (houseFadeCmd_kept h.output p _ hs)
  case houseConsole p => exact h.takeCommand hs (houseConsoleCmd_kept h.output p _ hs)
  case houseMaster p => exact h.takeCommand hs (houseMasterCmd_kept h.output p _ hs)
  case getHouse p => exact h.takeCommand hs (getHouseCmd_kept h.links p _ hs)
  case goCue p => exact h.takeCommand hs (h.goCueCmd hs p)
  case suppress p => exact h.takeCommand hs (h.suppressCmd hs p)
  case getZones p => exact h.takeCommand hs (getZonesCmd_kept h.links p _ hs)
  case alarmAck p => exact h.takeCommand hs (h.alarmAckCmd hs p)
  case alarmFalse p => exact h.takeCommand hs (h.alarmFalseCmd hs p)
  case alarmReset p => exact h.takeCommand hs (h.alarmResetCmd hs p)
  case getAlarm p => exact h.takeCommand hs (getAlarmCmd_kept h.links p _ hs)
  case curtainMove p => exact h.takeCommand hs (h.curtainMoveCmd hs p)
  case demonstrate p => exact h.takeCommand hs (h.demonstrateCmd hs p)
  case clearLatch p => exact h.takeCommand hs (clearLatchCmd_kept h.curtains p _ hs)
  case getCurtains p => exact h.takeCommand hs (getCurtainsCmd_kept h.links p _ hs)
  case call p => exact h.takeCommand hs (callCmd_kept h.calls p _ hs)
  case cancelCalls p => exact h.takeCommand hs (h.cancelCallsCmd hs p)
  case getCalls p => exact h.takeCommand hs (getCallsCmd_kept h.links p _ hs)
  case readEvent p => exact h.takeCommand hs (h.readEventCmd hs p)
  case ackAttention p => exact h.takeCommand hs (h.ackAttentionCmd hs p)
  case setAttentionMask p => exact h.takeCommand hs (h.setMaskCmd hs p)
  case getStatus p => exact h.takeCommand hs (getStatusCmd_kept h.links p _ hs)
  case getIdentity p => exact h.takeCommand hs (getIdentityCmd_kept h.links p _ hs)
  case restart p => exact h.takeCommand hs (h.restartCmd hs p)
  case stageOpen p => exact h.takeCommand hs (h.opened hs)
  case stageWrite p => exact h.takeCommand hs (h.written hs)
  case stageQueue p => exact h.takeCommand hs (h.queued hs)
  case commit p => exact h.takeCommand hs (h.committed hs)
  case abortCommit p => exact h.takeCommand hs (h.aborted hs)
  case getCommit p => exact h.takeCommand hs (getCommitCmd_kept h.links p _ hs)
  case readActive p => exact h.takeCommand hs (readActiveCmd_kept h.links p _ hs)
  case setAuthority p => exact h.takeCommand hs (h.authority hs)
  case lockAuthority p => exact h.takeCommand hs (h.locked hs)
  case getAuthority p => exact h.takeCommand hs (getAuthorityCmd_kept h.links p _ hs)
  case unknownCommand code p => exact h.takeCommand hs (unknownCmd_kept h.links p _ hs)
  all_goals exact hs

/-! ### The frames (chapter 2) -/

theorem StoreLaw.setLength (short long : Bool) : P (setLength short long s) := h.same hs rfl

theorem StoreLaw.framingFrame (start : RxByte) (rest : List RxByte) : P (framingFrame start rest s) := by
  have told : P (setSticky (fun f => { f with framing := true }) (recordFrame .discarded rest false false s)) :=
    h.same hs rfl
  exact ite_kept (discardReported_kept h.signal _ told) told

theorem StoreLaw.takeLevels (c : LengthCheck) (rest : List RxByte) : P (takeLevels c rest s) := by
  unfold Machine.takeLevels
  exact h.frameReported (streamGood_kept h.signal _ (h.signal.srx (recordFrame_kept h.signal _ _ _ _ _ hs))) _

theorem StoreLaw.goodFrame (c : LengthCheck) (rest : List RxByte) : P (goodFrame c rest s) := by
  unfold Machine.goodFrame
  refine ite_kept ?_ (h.takeLevels hs _ _)
  exact ite_kept (wakeDiscard_kept h.signal _ _ _ (wakeBreak_kept h.signal _ hs)) (h.takeLevels hs _ _)

theorem StoreLaw.levelFrame (rest : List RxByte) : P (levelFrame rest s) :=
  ite_kept (discardReported_kept h.signal _ (h.setLength (recordFrame_kept h.signal _ _ _ _ _ hs) _ _))
    (h.goodFrame (h.setLength hs _ _) _ _)

theorem StoreLaw.controlFrame (start : RxByte) (rest : List RxByte) : P (controlFrame start rest s) := by
  have recorded := recordFrame_kept h.signal .control rest false false _ hs
  exact ite_kept (h.takeInstr recorded _) (h.same recorded rfl)

theorem StoreLaw.otherFrame (start : RxByte) (rest : List RxByte) : P (otherFrame start rest s) :=
  holdOther_kept h.output _ _ (h.setLength (recordFrame_kept h.signal _ _ _ _ _ hs) _ _)

theorem StoreLaw.judgeFrame (start : RxByte) (rest : List RxByte) : P (judgeFrame start rest s) := by
  unfold Machine.judgeFrame
  split
  · exact h.framingFrame hs _ _
  · split
    · exact h.levelFrame hs _
    · split
      · exact h.controlFrame hs _ _
      · exact h.otherFrame hs _ _

theorem StoreLaw.frameEnds (frame : List RxByte) : P (frameEnds frame s) := by
  have ended := h.signal.srx (x := { s.srx with receiving := false }) hs
  obtain he | he | ⟨start, rest, -, -, he⟩ := frameEnds_cases frame s
  · rw [he]; exact hs
  · rw [he]; exact ended
  · rw [he]; exact h.judgeFrame ended _ _

theorem StoreLaw.breakArrives (ended : List RxByte) : P (breakArrives ended s) :=
  ite_kept hs (h.signal.srx (wakeBreak_kept h.signal _ (h.abandonReply (h.frameEnds hs ended))))

/-! ### The step -/

theorem StoreLaw.resetRelease (straps : Nat) : P (resetRelease straps s) := ite_kept (h.posted (h.same hs rfl)) hs

/-- Every command but the assertion of RESET keeps the law: an edge of a line or a frame of the input, the end of the
reply, an expiry, an event of the loop, or a command of the control interface. -/
theorem StoreLaw.exec {c : Instr} {t : State} (he : exec c s = .next t) (hc : c ≠ .resetAssertion) : P t := by
  by_cases control : (controlCode c).isSome = true
  · rw [exec_of_controlCode control] at he
    cases he
    exact h.takeInstr hs c
  cases c
  case resetAssertion => exact absurd rfl hc
  case resetRelease n => cases he; exact h.resetRelease hs n
  case authorityKeyChange b => cases he; exact h.same hs rfl
  case restartPulse => cases he; exact h.restartPulse hs
  case restartLineReturnHigh => cases he; exact h.same hs rfl
  case inputBreak => cases he; exact h.breakArrives hs _
  case inputFrameEnd => cases he; exact h.frameEnds hs _
  case replyEnd => cases he; exact running_kept _ _ (h.replyEnds hs) hs
  case streamHoldExpiry => cases he; exact running_kept _ _ (holdExpire_kept h.signal _ hs) hs
  case darkIdleExpiry => cases he; exact running_kept _ _ (idleExpire_kept h.signal _ hs) hs
  case outputIntervalExpiry => cases he; exact running_kept _ _ (ite_kept (intervalExpire_kept h.output _ hs) hs) hs
  case handoverExpiry => cases he; exact running_kept _ _ (handoverExpire_kept h.output _ _ hs) hs
  case windowEndExpiry => cases he; exact running_kept _ _ (h.windowExpire hs _) hs
  case offsetTimerExpiry => cases he; exact running_kept _ _ (h.offsetExpire hs _) hs
  case ackTimerExpiry => cases he; exact running_kept _ _ (h.ackExpire hs) hs
  case investigationTimerExpiry => cases he; exact running_kept _ _ (h.invExpire hs) hs
  case stallTimerExpiry => cases he; exact running_kept _ _ (h.stallExpire hs _) hs
  case descentExpiry => cases he; exact running_kept _ _ (descentExpire_kept h.curtains _ _ hs) hs
  case dwellExpiry => cases he; exact running_kept _ _ (h.dwellExpire hs) hs
  case loweringExpiry => cases he; exact running_kept _ _ (h.loweringExpire hs) hs
  case callExpiry => cases he; exact running_kept _ _ (callExpire_kept h.calls _ _ _ hs) hs
  case scheduledCallDue => cases he; exact running_kept _ _ (scheduleExpire_kept h.calls _ _ hs) hs
  case callOverrunExpiry => cases he; exact running_kept _ _ (h.overrunExpire hs) hs
  case pageLimitExpiry => cases he; exact running_kept _ _ (h.pageLimitExpire hs) hs
  case pollStart => cases he; exact running_kept _ _ (startPoll_kept h.links _ hs) hs
  case replyWindowExpiry => cases he; exact running_kept _ _ (h.windowCloses hs) hs
  case loopReply => cases he; exact running_kept _ _ (h.bytesCome hs _ _) hs
  case loopReplyForcedOver => cases he; exact running_kept _ _ (h.bytesCome hs _ _) hs
  case attentionGapExpiry => cases he; exact running_kept _ _ (h.gapExpire hs) hs
  all_goals exact absurd rfl control

theorem StoreLaw.idle : P (idle s) := ite_kept hs (ite_kept (h.same hs rfl) (h.same hs rfl))

/-- Every step whose front command is not the assertion of RESET keeps the law. -/
theorem StoreLaw.step {t : State} (he : step s = .next t) (hc : ∀ rest, s.pending ≠ .resetAssertion :: rest) : P t := by
  unfold Machine.step at he
  split at he
  next => cases he; exact h.idle hs
  next c rest queued =>
    exact h.exec (h.same (t := s.setPending rest) hs rfl) he fun front => hc rest (by rw [queued, front])
end

end Sys2Proof.Machine
end

section
/-! The table laws (R199, R201, R204, R205): TBS's operations keep them, and so does every step. -/

namespace Sys2Proof.Machine

/-! ### The prospective set -/

theorem perTable_ext {α : Type} {a b : PerTable α} (h : ∀ i, a.get i = b.get i) : a = b := by
  obtain ⟨slot, house, cue, zone, curtain, message, schedule, poll⟩ := a
  congr
  · exact h .slot
  · exact h .house
  · exact h .cue
  · exact h .zone
  · exact h .curtain
  · exact h .message
  · exact h .schedule
  · exact h .poll

theorem perTable_get_set {α : Type} (t : PerTable α) (i j : TableId) (a : α) :
    (t.set i a).get j = if j = i then a else t.get j := by
  cases i <;> cases j <;> rfl

theorem prospective_get (s : State) (i : TableId) : (prospective s).get i =
    if (s.tbs.staging.get i).state = .queued then (s.tbs.staging.get i).bank else s.tbs.active.get i := by
  cases i <;> rfl

theorem prospective_congr {s t : State} (ha : t.tbs.active = s.tbs.active) (hst : t.tbs.staging = s.tbs.staging) :
    prospective t = prospective s := by
  unfold prospective
  rw [ha, hst]

/-- A bank that is not QUEUED has no part in the prospective set (R199). -/
theorem prospective_setStaging {i : TableId} {x : Staging} {s : State} (hx : x.state ≠ .queued)
    (hi : (s.tbs.staging.get i).state ≠ .queued) : prospective (setStaging i x s) = prospective s := by
  refine perTable_ext fun j => ?_
  simp only [prospective_get, setStaging, State.setTbs_tbs, perTable_get_set]
  by_cases hj : j = i
  · subst hj
    simp [hx, hi]
  · simp [hj]

/-! ### The completion (R201) -/

theorem clampEntry_index (limit : Nat) (e : BankEntry) : (clampEntry limit e).index = e.index := by
  unfold clampEntry
  split <;> rfl

theorem clampEntry_of_zone {limit : Nat} {e : BankEntry} (h : e.index ≤ 64) : clampEntry limit e = e :=
  if_neg fun ⟨hg, _⟩ => by omega

/-- No reference hangs on the offset of a group. -/
theorem referencesExist_clamped {t : PerTable Bank} (limit : Nat) (h : ReferencesExist t) :
    ReferencesExist { t with zone := t.zone.map (clampEntry limit) } := by
  obtain ⟨slots, circuits, cues, zones, curtains, schedule⟩ := h
  refine ⟨slots, circuits, fun e he a ha => ?_, fun e he hz => ?_, curtains, schedule⟩
  · obtain ⟨suppressed, rest⟩ := cues e he a ha
    refine ⟨fun hk z hz => ?_, rest⟩
    obtain ⟨hle, x, hx, hi⟩ := suppressed hk z hz
    exact ⟨hle, _, List.mem_map_of_mem hx, (clampEntry_index _ x).trans hi⟩
  · obtain ⟨x, hx, rfl⟩ := List.mem_map.mp he
    rw [clampEntry_index] at hz
    rw [clampEntry_of_zone hz]
    exact zones x hx hz

/-- The tables that a completion makes active: the prospective set, with the offsets clamped. -/
def completedSet (s : State) : PerTable Bank :=
  { prospective s with zone := (prospective s).zone.map (clampEntry s.tbs.auth.stagingLimit) }

theorem activate_active (s : State) : (activate s).tbs.active = completedSet s := by
  unfold activate
  generalize TableId.all = l
  refine foldl_kept (P := fun u => u.tbs.active = completedSet s) _ (fun u i hu => ?_) _ ?_
  · exact ite_kept (P := fun u => u.tbs.active = completedSet s) hu hu
  · rfl

/-- The owners' rebuilds leave TBS's records. -/
theorem rebuildOwners_tbs (q : TableId → Bool) (s : State) : (rebuildOwners q s).tbs = s.tbs := by
  have h : KeptByCloses fun u => u.tbs = s.tbs := keptByCloses_of_tbs fun hu ht => ht.trans hu
  unfold rebuildOwners
  refine whenState_kept (P := fun u => u.tbs = s.tbs) _ _ (reissueOutstanding_kept h.toKeptByLinks) _ ?_
  refine whenState_kept (P := fun u => u.tbs = s.tbs) _ _ (callsLoopRebuilt_kept h.toKeptByCalls) _ ?_
  refine whenState_kept (P := fun u => u.tbs = s.tbs) _ _ (callsCleared_kept h.toKeptByCalls) _ ?_
  refine whenState_kept (P := fun u => u.tbs = s.tbs) _ _ (curtainsRebuild_kept h.toKeptByCurtains) _ ?_
  refine whenState_kept (P := fun u => u.tbs = s.tbs) _ _ (fun u hu => ?_) _ ?_
  · exact foldl_pair_kept (P := fun u => u.tbs = s.tbs) _ _ (fun _ _ hv => closeWhole_keptByCloses h _ _ hv) hu
  refine whenState_kept (P := fun u => u.tbs = s.tbs) _ _ (debounceCommit_kept h.toKeptBySignal) _ ?_
  refine whenState_kept (P := fun u => u.tbs = s.tbs) _ _ (houseRebuild_kept h.toKeptByOutput) _ ?_
  refine whenState_kept (P := fun u => u.tbs = s.tbs) _ _ (streamCommit_kept h.toKeptBySignal) _ ?_
  exact whenState_kept (P := fun u => u.tbs = s.tbs) _ _ (loopRebuild_kept h.toKeptByLinks) _ rfl

theorem changeCommit_active (x : CommitState) (f : Option Failure) (s : State) :
    (changeCommit x f s).tbs.active = s.tbs.active := rfl

theorem changeCommit_current (x : CommitState) (f : Option Failure) (s : State) :
    (changeCommit x f s).tbs.commit.current = x := rfl

theorem complete_active (s : State) : (complete s).tbs.active = completedSet s := by
  rw [complete, rebuildOwners_tbs, changeCommit_active, activate_active]

theorem complete_current (s : State) : (complete s).tbs.commit.current = .passed := by
  rw [complete, rebuildOwners_tbs, changeCommit_current]

/-! ### The law of the references -/

theorem TablesConsistent.of_tbs {s t : State} (hs : TablesConsistent s) (ht : t.tbs = s.tbs) : TablesConsistent t := by
  have same : prospective t = prospective s := prospective_congr (by rw [ht]) (by rw [ht])
  unfold TablesConsistent
  rw [same, ht]
  exact hs

/-- While no commit waits, the active tables alone count. -/
theorem TablesConsistent.of_active {s t : State} (hs : TablesConsistent s) (ha : t.tbs.active = s.tbs.active)
    (hn : t.tbs.commit.current ≠ .pending) : TablesConsistent t :=
  ⟨ha ▸ hs.1, fun hp => absurd hp hn⟩

/-- A change of the staging areas keeps the law when a commit that waits keeps its set. -/
theorem TablesConsistent.of_staging {s t : State} (hs : TablesConsistent s) (ha : t.tbs.active = s.tbs.active)
    (hc : t.tbs.commit = s.tbs.commit) (hp : s.tbs.commit.current = .pending → prospective t = prospective s) :
    TablesConsistent t := by
  refine ⟨ha ▸ hs.1, fun pending => ?_⟩
  rw [hc] at pending
  rw [hp pending]
  exact hs.2 pending

theorem tablesConsistent_complete {s : State} (h : ReferencesExist (prospective s)) : TablesConsistent (complete s) := by
  refine ⟨?_, fun hp => absurd hp (by rw [complete_current]; decide)⟩
  rw [complete_active]
  exact referencesExist_clamped _ h

theorem commitPending_iff (s : State) : commitPending s = true ↔ s.tbs.commit.current = .pending := by
  simp [commitPending]

theorem TablesConsistent.reexamined {s : State} (hs : TablesConsistent s) : TablesConsistent (reexamine s) := by
  unfold reexamine
  split
  next due =>
    rw [Bool.and_eq_true, commitPending_iff] at due
    exact (tablesConsistent_complete (hs.2 due.1)).of_tbs (post_tbs ..)
  next => exact hs

theorem reopenQueued_active (s : State) : (reopenQueued s).tbs.active = s.tbs.active := by
  obtain ⟨x, hx⟩ := reopenQueued_eq s
  rw [hx]
  rfl

/-- A commit that ends without its set: the QUEUED banks are OPEN again and the active tables stand (R199, R202). -/
theorem TablesConsistent.ended {s : State} (hs : TablesConsistent s) {x : CommitState} (hx : x ≠ .pending)
    (f : Option Failure) : TablesConsistent (changeCommit x f (reopenQueued s)) := by
  refine hs.of_active ?_ ?_
  · rw [changeCommit_active, reopenQueued_active]
  · rwa [changeCommit_current]

theorem TablesConsistent.restarted {s : State} (hs : TablesConsistent s) : TablesConsistent (storeRestart s) := by
  unfold storeRestart
  split
  · have aborted : TablesConsistent (abortPending s) := hs.ended (by decide) none
    have current : (abortPending s).tbs.commit.current = .aborted := changeCommit_current _ _ _
    generalize abortPending s = u at aborted current
    exact (aborted.of_active (t := emptyStaging u) rfl (current ▸ nofun)).of_tbs (post_tbs ..)
  next idle => exact hs.of_active rfl fun hp => idle ((commitPending_iff s).mpr hp)

theorem TablesConsistent.opened {p : List Byte} {s : State} (hs : TablesConsistent s) :
    TablesConsistent (stageOpenCmd p s).state := by
  unfold stageOpenCmd
  split
  · exact hs
  · refine answer_ite_kept ?_ hs
    unfold stageOpenAt
    split
    · exact hs
    next i _ free =>
      refine hs.of_staging rfl rfl fun pending => prospective_setStaging (by decide) fun queued => ?_
      exact free ⟨queued, (commitPending_iff s).mpr pending⟩

theorem TablesConsistent.written {p : List Byte} {s : State} (hs : TablesConsistent s) :
    TablesConsistent (stageWriteCmd p s).state := by
  unfold stageWriteCmd
  split
  · exact hs
  · unfold stageWriteAt
    split
    · exact hs
    next i _ opened =>
      split
      · exact hs
      · refine hs.of_staging rfl rfl fun _ => prospective_setStaging nofun ?_
        rw [not_ne_iff.mp opened]
        decide

theorem TablesConsistent.queued {p : List Byte} {s : State} (hs : TablesConsistent s) :
    TablesConsistent (stageQueueCmd p s).state := by
  unfold stageQueueCmd
  split
  · exact hs
  · refine answer_ite_kept ?_ hs
    unfold stageQueueAt
    split
    · exact hs
    · split
      · exact hs
      next idle => exact hs.of_active rfl fun hp => idle ((commitPending_iff s).mpr hp)

/-- A COMMIT makes nothing active and lets nothing wait that it has not validated (R199, R200). -/
theorem TablesConsistent.commitQueued {s : State} (hs : TablesConsistent s) : TablesConsistent (commitQueued s).state := by
  have noted : prospective (noteTables s) = prospective s := prospective_congr rfl rfl
  unfold Machine.commitQueued
  split
  · have stored : TablesConsistent (noteTables s) := ⟨hs.1, fun pending => noted ▸ hs.2 pending⟩
    exact stored.ended (by decide) _
  next valid =>
    have refers : ReferencesExist (prospective s) := referencesExist_of_validate _ valid
    split
    · exact tablesConsistent_complete (noted ▸ refers)
    · exact ⟨hs.1, fun _ => refers⟩

theorem TablesConsistent.committed {p : List Byte} {s : State} (hs : TablesConsistent s) :
    TablesConsistent (commitCmd p s).state := by
  unfold commitCmd
  exact answer_ite_kept hs (answer_ite_kept hs (answer_ite_kept hs hs.commitQueued))

theorem TablesConsistent.aborted {p : List Byte} {s : State} (hs : TablesConsistent s) :
    TablesConsistent (abortCommitCmd p s).state := by
  unfold abortCommitCmd
  exact answer_ite_kept hs (answer_ite_kept (hs.ended (by decide) none) hs)

theorem TablesConsistent.setAuth {s : State} (hs : TablesConsistent s) (a : Authority) : TablesConsistent (setAuth a s) :=
  hs.of_staging rfl rfl fun _ => prospective_congr rfl rfl

theorem TablesConsistent.authority {p : List Byte} {s : State} (hs : TablesConsistent s) :
    TablesConsistent (setAuthorityCmd p s).state := by
  unfold setAuthorityCmd
  refine answer_ite_kept hs ?_
  split
  · exact hs
  · exact hs.setAuth _

theorem TablesConsistent.locked {p : List Byte} {s : State} (hs : TablesConsistent s) :
    TablesConsistent (lockAuthorityCmd p s).state := by
  unfold lockAuthorityCmd
  exact answer_ite_kept hs (answer_ite_kept hs ((hs.setAuth _).of_tbs (post_tbs ..)))

theorem storeLaw_tablesConsistent : StoreLaw TablesConsistent where
  same hs ht := hs.of_tbs ht
  reexamined hs := hs.reexamined
  restarted hs := hs.restarted
  opened hs := hs.opened
  written hs := hs.written
  queued hs := hs.queued
  committed hs := hs.committed
  aborted hs := hs.aborted
  authority hs := hs.authority
  locked hs := hs.locked

/-- RESET empties every table (R190). -/
theorem tablesConsistent_resetAssert (s : State) : TablesConsistent (resetAssert s) := by
  refine ⟨?_, fun hp => absurd hp (by decide : CommitState.none ≠ .pending)⟩
  refine ⟨?_, ?_, ?_, ?_, ?_, ?_⟩
  all_goals exact fun e he => absurd he List.not_mem_nil

/-! ### The locked authority record (R204, R205) -/

/-- A locked authority record is kept by all that a command does, the edges of RESET apart. -/
theorem keptByBlocks_lockedAuthority {a : Authority} (ha : a.locked = true) : KeptByBlocks fun u => u.tbs.auth = a where
  posted hs := by rwa [postRecord_tbs]
  lpc hs := hs
  ctc hs := hs
  clc _ hs := hs
  place hs := by rwa [(sameCore_placeCall _ _).1.tbs]
  hlu hs := hs
  fbl hs := hs
  srx hs := hs
  crg hs := hs
  zmn hs := hs
  tbs hx hs := hx.trans hs
  sticky hs := hs
  fresh hs := hs
  asc hs := hs
  phc hs := hs
  evq _ hs := hs
  eval hs := by rwa [evaluateAttention_tbs]
  cmi hs := hs
  armed hs := hs
  auth unlocked hs := by rw [hs, ha] at unlocked; cases unlocked

theorem resetRelease_tbs (straps : Nat) (s : State) : (resetRelease straps s).tbs = s.tbs := by
  unfold resetRelease
  split
  · rw [post_tbs]
    rfl
  · rfl

theorem idle_tbs (s : State) : (idle s).tbs = s.tbs := by
  unfold idle
  split
  · rfl
  · split <;> rfl

/-- A locked authority record is kept by every step that does not assert RESET. -/
theorem step_keeps_locked_authority {s t : State} (hl : s.tbs.auth.locked = true) (he : step s = .next t)
    (hc : ∀ rest, s.pending ≠ .resetAssertion :: rest) : t.tbs.auth = s.tbs.auth := by
  unfold step at he
  split at he
  next =>
    cases he
    rw [idle_tbs]
  next c rest queued =>
    refine exec_kept (keptByBlocks_lockedAuthority hl) c (s.setPending rest) t he
      (fun front => absurd queued (front ▸ hc rest)) (fun n _ => ?_) (fun _ _ => rfl) rfl
    rw [resetRelease_tbs]
    rfl

/-! ### The step -/

theorem step_keeps_tablesConsistent {s t : State} (hs : TablesConsistent s) (he : step s = .next t) :
    TablesConsistent t := by
  by_cases asserted : ∃ rest, s.pending = .resetAssertion :: rest
  · obtain ⟨rest, front⟩ := asserted
    unfold step at he
    rw [front] at he
    cases he
    exact tablesConsistent_resetAssert _
  · exact storeLaw_tablesConsistent.step hs he fun rest front => asserted ⟨rest, front⟩

/-- Settles O58: TBS's operations keep the references (`storeLaw_tablesConsistent`), a completion because the set that
waits has been validated; the other blocks leave TBS's records, and nothing but RESET writes a locked authority
record. -/
theorem everyStepKeepsTheTableLaws : Obligations.EveryStepKeepsTheTableLaws := by
  intro s t he
  exact ⟨fun hs => step_keeps_tablesConsistent hs he, fun hl hc => step_keeps_locked_authority hl he hc⟩

end Sys2Proof.Machine
end

section
/-! A law on the records that several blocks read: what PHC, ZMN, ASC and TBS keep of the timebase and of their own
records, every command and every step keep. The other blocks have no part in these records but through TBS's
re-examination of a waiting commit, a cue's actions, the loop's replies and the restart. -/

namespace Sys2Proof.Machine

/-- The timebase and the records of PHC, ZMN, ASC and TBS. -/
def State.core (s : State) : Nat × ShowRecord × Zones × Alarm × TableStore := (s.time, s.phc, s.zmn, s.asc, s.tbs)

theorem core_eq_iff {s t : State} : t.core = s.core ↔
    t.time = s.time ∧ t.phc = s.phc ∧ t.zmn = s.zmn ∧ t.asc = s.asc ∧ t.tbs = s.tbs := by
  simp only [State.core, Prod.mk.injEq]

theorem core_of_sameCore {s t : State} (h : SameCore s t) : t.core = s.core := by
  simp only [State.core, h.time, h.phc, h.zmn, h.asc, h.tbs]

theorem evaluateAttention_core (s : State) : (evaluateAttention s).core = s.core := by
  simp only [State.core, evaluateAttention_time, evaluateAttention_phc, evaluateAttention_zmn, evaluateAttention_asc,
    evaluateAttention_tbs]

/-- `P` speaks of the timebase and the records of PHC, ZMN, ASC and TBS alone. -/
structure OfCore (P : State → Prop) : Prop where
  same : ∀ {s t}, P s → t.core = s.core → P t

section
variable {P : State → Prop} (h : OfCore P)
include h

theorem OfCore.posted {r : EventRecord} {s : State} (hs : P s) : P (postRecord r s) :=
  h.same hs (core_of_sameCore (sameCore_postRecord r s))

theorem OfCore.links : KeptByLinks P := ⟨h.posted, fun hs => h.same hs rfl⟩
theorem OfCore.curtains : KeptByCurtains P := ⟨h.links, fun hs => h.same hs rfl⟩
theorem OfCore.calls : KeptByCalls P :=
  ⟨h.links, fun _ hs => h.same hs rfl, fun hs => h.same hs (core_of_sameCore (sameCore_placeCall _ _).1)⟩
theorem OfCore.output : KeptByOutput P := ⟨fun hs => h.same hs rfl, fun hs => h.same hs rfl⟩
theorem OfCore.signal : KeptBySignal P := ⟨h.output, h.posted, fun hs => h.same hs rfl, fun hs => h.same hs rfl⟩

theorem OfCore.closes (asc : ∀ {s x}, P s → P (s.setAsc x)) (close : ∀ {z s}, P s → P (closeBegin z s).state) :
    KeptByCloses P :=
  ⟨h.curtains, fun len hs => h.calls.clc len hs, h.calls.place, h.output, h.signal.srx, h.signal.crg, asc, close⟩
end

/-- `P` speaks of those records alone, and is kept by what their blocks do: TBS's re-examination of a waiting commit, its
restart and its commands (chapter 11); ZMN's SUPPRESS, reports, window ends and restart (chapter 5); PHC's SET PHASE
(chapter 1); ASC's commands and timers (chapter 6); the edges of RESET (R190); and a step with no command waiting. A
`StoreLaw` speaks of TBS's records alone, and so needs none of the other blocks. -/
structure CoreLaw (P : State → Prop) : Prop extends OfCore P where
  reexamined : ∀ {s}, P s → P (reexamine s)
  restarted : ∀ {s}, P s → P (storeRestart s)
  opened : ∀ {p s}, P s → P (stageOpenCmd p s).state
  written : ∀ {p s}, P s → P (stageWriteCmd p s).state
  queued : ∀ {p s}, P s → P (stageQueueCmd p s).state
  committed : ∀ {p s}, P s → P (commitCmd p s).state
  aborted : ∀ {p s}, P s → P (abortCommitCmd p s).state
  authority : ∀ {p s}, P s → P (setAuthorityCmd p s).state
  locked : ∀ {p s}, P s → P (lockAuthorityCmd p s).state
  suppressed : ∀ {zs d s}, P s → P (suppressAt zs d s).state
  reported : ∀ {unit input value s}, P s → P (inputReport unit input value s)
  lost : ∀ {unit input s}, P s → P (loseZone unit input s)
  windowEnded : ∀ {z s}, P s → P (windowExpire z s)
  zonesRestarted : ∀ {s}, P s → P (zonesRestart s)
  phaseSet : ∀ {code minutes s}, P s → P (setPhaseAt code minutes s).state
  acknowledged : ∀ {p s}, P s → P (alarmAckCmd p s).state
  dismissed : ∀ {p s}, P s → P (alarmFalseCmd p s).state
  reset : ∀ {p s}, P s → P (alarmResetCmd p s).state
  ackEnded : ∀ {s}, P s → P (ackExpire s)
  invEnded : ∀ {s}, P s → P (invExpire s)
  offsetEnded : ∀ {g s}, P s → P (offsetExpire g s)
  asserted : ∀ s, P (resetAssert s)
  released : ∀ {n s}, P s → P (resetRelease n s)
  idled : ∀ {s}, P s → P (idle s)

/-! ### The owners' operations, the four blocks apart -/

section
variable {P : State → Prop} (h : CoreLaw P)
include h

variable {s : State} (hs : P s)
include hs

theorem CoreLaw.freed : P (freed s) := select_kept h.calls _ (h.reexamined hs)

/-! ### The curtains (chapter 7) -/

theorem CoreLaw.descentReply (r : DriveReply) (before : Bool) (c : Curtain) : P (descentReply r before c s) := by
  unfold Machine.descentReply
  have moved := modCurtain_kept h.curtains c.number
    (fun x => { x with state := .lowered, lastDescent := some (descentTimeOf c s), descent := none }) _ hs
  refine ite_kept (h.posted (h.same moved rfl)) ?_
  have falling := setCurtainState_kept h.curtains c.number .emergency _ hs
  exact ite_kept (h.posted falling) falling

theorem CoreLaw.takeState (r : DriveReply) (before : Bool) (c : Curtain) : P (takeState r before c s) := by
  unfold Machine.takeState
  refine ite_kept (h.descentReply hs _ _ _) (ite_kept (sentReply_kept h.links _ _ _ _ hs) ?_)
  split
  · exact segmentReply_kept h.curtains _ _ _ _ hs
  · exact ite_kept (pendantReply_kept h.curtains _ _ _ _ hs) (confirmCurtain_kept h.curtains _ _ _ hs)

theorem CoreLaw.driveReply (a : Nat) (r : DriveReply) (ack : Option (DriveCmd × Bool)) : P (driveReply a r ack s) := by
  have positioned := withUnit_kept (P := P) a (notePosition r) (fun c _ hu => notePosition_kept h.curtains r c _ hu) _ hs
  have acked := h.reexamined (withUnit_kept (P := P) a (takeAck r (heededAck a ack s))
    (fun c _ hu => takeAck_kept h.curtains r _ c _ hu) _ positioned)
  have released := h.reexamined (withUnit_kept (P := P) a (takeRelease r)
    (fun c _ hu => takeRelease_kept h.curtains r c _ hu) _ acked)
  have moved := h.reexamined (withUnit_kept (P := P) a
    (Machine.takeState r (((curtainOfUnit s a).map (·.lastObstruction)).getD false))
    (fun c _ hu => h.takeState hu r _ c) _ released)
  exact withUnit_kept (P := P) a (takeHold r (heededAck a ack s)) (fun c _ hu => takeHold_kept h.curtains r _ c _ hu) _ moved

theorem CoreLaw.driveUnitLost (a : Nat) : P (driveUnitLost a s) := h.reexamined (curtainLost_kept h.curtains _ _ hs)

theorem CoreLaw.stopTaken (c : Curtain) : P (stopTaken c s).state := by
  unfold Machine.stopTaken
  split
  · exact h.reexamined (stopSegment_kept h.curtains _ _ hs)
  · exact hs

theorem CoreLaw.moveTaken (c : Curtain) (up : Bool) : P (moveTaken c up s).state := by
  unfold Machine.moveTaken
  exact answer_ite_kept hs (answer_ite_kept hs (h.reexamined (startSegment_kept h.curtains _ _ _ hs)))

theorem CoreLaw.curtainMoveAt (number motion : Nat) : P (curtainMoveAt number motion s).state := by
  unfold Machine.curtainMoveAt
  split
  · exact hs
  · split
    · exact hs
    · split
      · exact hs
      · split
        · exact hs
        · split
          · exact h.stopTaken hs _
          · exact h.moveTaken hs _ _

theorem CoreLaw.curtainMoveCmd (p : List Byte) : P (curtainMoveCmd p s).state := by
  unfold Machine.curtainMoveCmd
  split
  · exact hs
  · exact h.curtainMoveAt hs _ _

theorem CoreLaw.demonstrateCmd (p : List Byte) : P (demonstrateCmd p s).state := by
  unfold Machine.demonstrateCmd
  split
  · exact hs
  · split
    · exact hs
    · split
      · exact hs
      · split
        · exact hs
        · exact h.reexamined (startDemo_kept h.curtains _ _ hs)

theorem CoreLaw.stallExpire (n : Nat) : P (stallExpire n s) := by
  unfold Machine.stallExpire
  split
  · exact ite_kept (h.reexamined (segmentEnded_kept h.curtains _ _ (failDemo_kept h.curtains _ _ _
      (h.posted (modCurtain_kept h.curtains _ _ _ (issueDrive_kept h.curtains _ _ _ hs)))))) hs
  · exact hs

theorem CoreLaw.dwellExpire : P (dwellExpire s) := by
  unfold Machine.dwellExpire
  split
  · exact ite_kept (h.reexamined (setDemo_kept h.curtains _ _ (startSegment_kept h.curtains _ _ _ hs))) hs
  · exact hs

theorem CoreLaw.loweringExpire : P (loweringExpire s) := by
  unfold Machine.loweringExpire
  split
  · exact ite_kept (h.reexamined (segmentEnded_kept h.curtains _ _ (failDemo_kept h.curtains _ _ _
      (modCurtain_kept h.curtains _ _ _ (issueDrive_kept h.curtains _ _ _ hs))))) hs
  · exact hs

/-! ### The calls (chapter 8) -/

theorem CoreLaw.stopped : P (dropCurrent (unitIssue (.stopPlay false) s)) :=
  dropCurrent_kept h.calls _ (unitIssue_kept h.links _ _ hs)

theorem CoreLaw.cancelAt (p : Nat) : P (cancelAt p s) := by
  have left : P (setQueue (s.clc.queue.filter fun c => !decide (c.priority.code ≤ p)) s) := h.same hs rfl
  simp only [Machine.cancelAt]
  split
  · exact h.freed (h.posted (h.stopped left))
  · split
    · exact left
    · exact h.posted left

theorem CoreLaw.cancelCallsCmd (p : List Byte) : P (cancelCallsCmd p s).state := by
  unfold Machine.cancelCallsCmd
  split
  · exact hs
  · split
    · exact h.cancelAt hs _
    · exact hs

theorem CoreLaw.overrunExpire : P (overrunExpire s) := by
  unfold Machine.overrunExpire
  split
  · exact ite_kept (h.freed (h.posted (h.stopped hs))) hs
  · exact hs

theorem CoreLaw.afterPage : P (afterPage s) := ite_kept (resumeEvacuation_kept h.calls _ hs) (h.freed hs)

theorem CoreLaw.pageLimitExpire : P (pageLimitExpire s) :=
  ite_kept (h.afterPage (endPage_kept h.calls _ _ _ _ hs)) hs

theorem CoreLaw.callEnds (c : Call) : P (callEnds c s) := by
  have dropped := dropCurrent_kept h.calls _ hs
  unfold Machine.callEnds
  refine h.freed ?_
  split
  · exact h.posted dropped
  · exact h.posted dropped

theorem CoreLaw.playingReply (r : UnitReply) (ack : Option (LoopCmd × Bool)) (c : Call) :
    P (playingReply r ack c s) := by
  have taken := playIsTaken_kept h.calls c _ hs
  unfold Machine.playingReply
  split
  · exact h.freed (h.posted (dropCurrent_kept h.calls _ hs))
  · exact ite_kept (h.callEnds taken _) taken
  all_goals exact ite_kept (h.callEnds hs _) hs

theorem CoreLaw.announcerReply (r : UnitReply) (ack : Option (LoopCmd × Bool)) : P (announcerReply r ack s) := by
  have noted : P (s.setClc { s.clc with unitReport := some (r.activity, r.part) }) := h.same hs rfl
  unfold Machine.announcerReply
  refine ite_kept (announcerRegained_kept h.calls _ _ noted) ?_
  split
  · exact h.playingReply noted _ _ _
  · exact evacReply_kept h.calls _ _ _ noted
  · exact noted

theorem CoreLaw.requestRose (cls : PageClass) : P (requestRose cls s) := by
  unfold Machine.requestRose
  split
  · exact select_kept h.calls _ hs
  · exact ite_kept (cutCall_kept h.calls _ _ hs) hs
  · exact ite_kept (h.afterPage (endPage_kept h.calls _ _ _ _ hs)) hs
  · exact ite_kept (fireInEvacuation_kept h.calls _ hs) hs

theorem CoreLaw.requestShown (a : Nat) (cls : PageClass) (zones : FohSet) : P (requestShown a cls zones s) := by
  have listed (rs : List Request) : P (setRequests rs s) := setRequests_kept h.calls rs _ hs
  unfold Machine.requestShown
  split
  · exact ite_kept hs (h.requestRose (listed _) _)
  · split
    · exact hs
    · exact hs
    · exact ite_kept (h.requestRose (listed _) _) (listed _)

theorem CoreLaw.requestGone (a : Nat) : P (requestGone a s) := by
  have ended : P (if (s.clc.holder.map fun h => h.1 == a).getD false then endPage false .pageEnded id s else s) :=
    ite_kept (endPage_kept h.calls _ _ _ _ hs) hs
  exact ite_kept (h.afterPage (setRequests_kept h.calls _ _ ended)) (setRequests_kept h.calls _ _ ended)

theorem CoreLaw.pagingReply (a : Nat) (cls : Option PageClass) (zones : FohSet) : P (pagingReply a cls zones s) := by
  have revoked := owedRevoke_kept h.calls a _ hs
  have noted (x : Calls) : P ((owedRevoke a s).setClc x) := h.same revoked rfl
  cases cls with
  | none => exact h.requestGone (noted _) a
  | some k => exact h.requestShown (noted _) a k zones

/-! ### The cues (chapter 4) -/

theorem CoreLaw.actionAnswer (a : RawAction) : P (actionAnswer a s).state := by
  unfold Machine.actionAnswer
  split
  · exact h.suppressed hs
  · exact houseFadeArgs_kept h.output _ _ hs
  · exact callAt_kept h.calls _ _ _ hs
  · exact h.phaseSet hs
  · exact h.curtainMoveAt hs _ _
  · exact hs

theorem CoreLaw.runActions (cue : Nat) (report : Bool) (position : Nat) (l : List RawAction) :
    P (runActions cue report position l s).1 := by
  induction l generalizing position s with
  | nil => exact hs
  | cons a l ih =>
    have answered := h.actionAnswer hs a
    exact ih (ite_kept (reportAction_kept h.links _ _ _ _ answered) answered) _

theorem CoreLaw.countFrame (x : Nat) : P (countFrame x s) := by
  have counted (d : Debounce) : P (s.setCrg d) := h.same hs rfl
  have lookUp {u : State} (hu : P u) : P (Machine.lookUp x u) := by
    unfold Machine.lookUp
    split
    · exact h.posted hu
    · exact ite_kept (h.runActions (h.posted hu) _ _ _ _) (h.posted hu)
  exact ite_kept (lookUp (counted _)) (counted _)

theorem CoreLaw.frameReported (k : Nat) : P (frameReported k s) := by
  unfold Machine.frameReported
  split
  · exact hs
  · exact ite_kept (h.countFrame hs _) (breakPair_kept h.signal _ hs)

theorem CoreLaw.goCueCmd (p : List Byte) : P (goCueCmd p s).state := by
  unfold Machine.goCueCmd
  split
  · exact hs
  · unfold goCueAt
    split
    · exact hs
    · split
      · exact hs
      · split
        · exact h.runActions (h.posted hs) _ _ _ _
        · exact hs

/-! ### The field loop (chapter 9) -/

theorem CoreLaw.goodReply (st : Station) (t : Transaction) (r : ReplyFields) : P (goodReply st t r s) := by
  have answered := postAnswers_kept h.links st _
    (modStation_kept h.links st.address (Station.answered t (foundAck st t r).isSome) _ hs)
  unfold Machine.goodReply deliver
  dsimp only
  split
  · exact foldl_kept (P := P) _ (fun _ _ hu => h.reported hu) _ answered
  · exact h.driveReply answered _ _ _
  · exact h.announcerReply answered _ _
  · exact h.pagingReply answered _ _ _

theorem CoreLaw.miss (st : Station) : P (miss st s) := by
  unfold Machine.miss
  refine ite_kept hs (ite_kept (modStation_kept h.links _ _ _ hs) ?_)
  have lost := post_kept h.posted .outstationLost st.address (some st.kind.code) _
    (modStation_kept h.links st.address (fun x => { x with misses := 3, state := .lost }) _ hs)
  unfold tellLoss
  split
  · exact foldl_kept (P := P) _ (fun _ _ hu => h.lost hu) _ lost
  · exact h.driveUnitLost lost _
  · exact announcerLost_kept h.calls _ _ lost
  · exact h.requestGone lost _

theorem CoreLaw.concludeWith (st : Station) (t : Transaction) (f : LoopFaults) (b : List Byte) :
    P (concludeWith st t f b s) := by
  have raised : P (setSticky f.raise s) := h.same hs rfl
  exact ite_kept (h.miss raised _) (h.goodReply hs _ _ _)

theorem CoreLaw.conclude (forced : Bool) (bs : List LoopByte) : P (conclude forced bs s) := by
  have ended := endTransaction_kept h.links _ hs
  unfold Machine.conclude
  split
  · exact hs
  · split
    · exact ended
    · exact h.concludeWith ended _ _ _ _

theorem CoreLaw.windowCloses : P (windowCloses s) := ite_kept (h.conclude hs _ _) hs

theorem CoreLaw.takeReply (t : Transaction) (running : Bool) (bs : List LoopByte) : P (takeReply t running bs s) := by
  unfold Machine.takeReply
  split
  · exact h.conclude hs _ _
  · exact hear_kept h.links _ _ _ _ hs

theorem CoreLaw.bytesCome (running : Bool) (bs : List LoopByte) : P (bytesCome running bs s) := by
  have noted := noteBytes_kept h.links bs _ hs
  unfold Machine.bytesCome
  split
  · exact noted
  · split
    · exact h.takeReply noted _ _ _
    · exact noted

/-! ### The restart (R191) -/

theorem CoreLaw.warmRestart (cause : Nat) : P (warmRestart cause s) := by
  have begun : P (post .restarted 0 (some cause) (linkRestart s)) := h.posted (h.same hs rfl)
  have store := h.restarted (streamRestart_kept h.signal _ (loopRestart_kept h.links _ begun))
  have owners := fblRestart_kept h.output _ (callsRestart_kept h.calls _ (curtainsRestart_kept h.curtains _ store))
  exact h.same (h.zonesRestarted owners) (evaluateAttention_core _)

theorem CoreLaw.restartPulse : P (restartPulse s) := by
  have taken : P (s.setRestartArmed false) := h.same hs rfl
  exact ite_kept (ite_kept taken (h.warmRestart taken _)) hs

theorem CoreLaw.replyEnds : P (replyEnds s) := by
  unfold Machine.replyEnds
  split
  · exact hs
  · next r _ =>
    have ended : P (s.setCmi { clearShown r s.cmi with reply := none }) := h.same hs rfl
    exact ite_kept (h.warmRestart ended _) ended

theorem CoreLaw.abandonReply : P (abandonReply s) := by
  refine ite_kept ?_ hs
  have ended : P (setSticky (fun f => { f with collision := true }) (s.setCmi { s.cmi with reply := none })) :=
    h.same hs rfl
  exact ite_kept (h.warmRestart ended _) ended

/-! ### The commands (chapter 10) -/

theorem CoreLaw.readEventCmd (p : List Byte) : P (readEventCmd p s).state := by
  unfold Machine.readEventCmd
  split
  · exact hs
  · split
    · exact hs
    · exact h.same hs rfl

theorem CoreLaw.setMaskCmd (p : List Byte) : P (setMaskCmd p s).state := by
  unfold Machine.setMaskCmd
  split
  · exact hs
  · split
    · exact h.same (h.same hs rfl) (evaluateAttention_core _)
    · exact hs

theorem CoreLaw.ackAttentionCmd (p : List Byte) : P (ackAttentionCmd p s).state := by
  unfold Machine.ackAttentionCmd
  split
  · exact hs
  · exact h.same hs rfl

theorem CoreLaw.restartCmd (p : List Byte) : P (restartCmd p s).state := by
  unfold Machine.restartCmd
  split
  · exact hs
  · exact h.same hs rfl

theorem CoreLaw.gapExpire : P (gapExpire s) := ite_kept (h.same (h.same hs rfl) (evaluateAttention_core _)) hs

theorem CoreLaw.takeCommand {code : Nat} {key : Bool} {owner : List Byte → State → Answer} {p : List Byte}
    (ho : P (owner p s).state) : P (takeCommand code key owner p s) := by
  refine ite_kept hs (ite_kept (h.same hs rfl) (ite_kept ?_ ?_))
  · exact h.same (h.posted hs) rfl
  · exact h.same ho rfl

theorem CoreLaw.setPhaseCmd (p : List Byte) : P (setPhaseCmd p s).state := by
  unfold Machine.setPhaseCmd
  split
  · exact hs
  · exact h.phaseSet hs

theorem CoreLaw.suppressCmd (p : List Byte) : P (suppressCmd p s).state := by
  unfold Machine.suppressCmd
  split
  · exact hs
  · exact h.suppressed hs

theorem CoreLaw.takeInstr (i : Instr) : P (takeInstr i s) := by
  cases i
  case setPhase p => exact h.takeCommand hs (h.setPhaseCmd hs p)
  case getShow p => exact h.takeCommand hs (getShowCmd_kept h.links p _ hs)
  case houseFade p => exact h.takeCommand hs (houseFadeCmd_kept h.output p _ hs)
  case houseConsole p => exact h.takeCommand hs (houseConsoleCmd_kept h.output p _ hs)
  case houseMaster p => exact h.takeCommand hs (houseMasterCmd_kept h.output p _ hs)
  case getHouse p => exact h.takeCommand hs (getHouseCmd_kept h.links p _ hs)
  case goCue p => exact h.takeCommand hs (h.goCueCmd hs p)
  case suppress p => exact h.takeCommand hs (h.suppressCmd hs p)
  case getZones p => exact h.takeCommand hs (getZonesCmd_kept h.links p _ hs)
  case alarmAck p => exact h.takeCommand hs (h.acknowledged hs)
  case alarmFalse p => exact h.takeCommand hs (h.dismissed hs)
  case alarmReset p => exact h.takeCommand hs (h.reset hs)
  case getAlarm p => exact h.takeCommand hs (getAlarmCmd_kept h.links p _ hs)
  case curtainMove p => exact h.takeCommand hs (h.curtainMoveCmd hs p)
  case demonstrate p => exact h.takeCommand hs (h.demonstrateCmd hs p)
  case clearLatch p => exact h.takeCommand hs (clearLatchCmd_kept h.curtains p _ hs)
  case getCurtains p => exact h.takeCommand hs (getCurtainsCmd_kept h.links p _ hs)
  case call p => exact h.takeCommand hs (callCmd_kept h.calls p _ hs)
  case cancelCalls p => exact h.takeCommand hs (h.cancelCallsCmd hs p)
  case getCalls p => exact h.takeCommand hs (getCallsCmd_kept h.links p _ hs)
  case readEvent p => exact h.takeCommand hs (h.readEventCmd hs p)
  case ackAttention p => exact h.takeCommand hs (h.ackAttentionCmd hs p)
  case setAttentionMask p => exact h.takeCommand hs (h.setMaskCmd hs p)
  case getStatus p => exact h.takeCommand hs (getStatusCmd_kept h.links p _ hs)
  case getIdentity p => exact h.takeCommand hs (getIdentityCmd_kept h.links p _ hs)
  case restart p => exact h.takeCommand hs (h.restartCmd hs p)
  case stageOpen p => exact h.takeCommand hs (h.opened hs)
  case stageWrite p => exact h.takeCommand hs (h.written hs)
  case stageQueue p => exact h.takeCommand hs (h.queued hs)
  case commit p => exact h.takeCommand hs (h.committed hs)
  case abortCommit p => exact h.takeCommand hs (h.aborted hs)
  case getCommit p => exact h.takeCommand hs (getCommitCmd_kept h.links p _ hs)
  case readActive p => exact h.takeCommand hs (readActiveCmd_kept h.links p _ hs)
  case setAuthority p => exact h.takeCommand hs (h.authority hs)
  case lockAuthority p => exact h.takeCommand hs (h.locked hs)
  case getAuthority p => exact h.takeCommand hs (getAuthorityCmd_kept h.links p _ hs)
  case unknownCommand code p => exact h.takeCommand hs (unknownCmd_kept h.links p _ hs)
  all_goals exact hs

/-! ### The frames (chapter 2) -/

theorem CoreLaw.setLength (short long : Bool) : P (setLength short long s) := h.same hs rfl

theorem CoreLaw.framingFrame (start : RxByte) (rest : List RxByte) : P (framingFrame start rest s) := by
  have told : P (setSticky (fun f => { f with framing := true }) (recordFrame .discarded rest false false s)) :=
    h.same hs rfl
  exact ite_kept (discardReported_kept h.signal _ told) told

theorem CoreLaw.takeLevels (c : LengthCheck) (rest : List RxByte) : P (takeLevels c rest s) := by
  unfold Machine.takeLevels
  exact h.frameReported (streamGood_kept h.signal _ (h.signal.srx (recordFrame_kept h.signal _ _ _ _ _ hs))) _

theorem CoreLaw.goodFrame (c : LengthCheck) (rest : List RxByte) : P (goodFrame c rest s) := by
  unfold Machine.goodFrame
  refine ite_kept ?_ (h.takeLevels hs _ _)
  exact ite_kept (wakeDiscard_kept h.signal _ _ _ (wakeBreak_kept h.signal _ hs)) (h.takeLevels hs _ _)

theorem CoreLaw.levelFrame (rest : List RxByte) : P (levelFrame rest s) :=
  ite_kept (discardReported_kept h.signal _ (h.setLength (recordFrame_kept h.signal _ _ _ _ _ hs) _ _))
    (h.goodFrame (h.setLength hs _ _) _ _)

theorem CoreLaw.controlFrame (start : RxByte) (rest : List RxByte) : P (controlFrame start rest s) := by
  have recorded := recordFrame_kept h.signal .control rest false false _ hs
  exact ite_kept (h.takeInstr recorded _) (h.same recorded rfl)

theorem CoreLaw.otherFrame (start : RxByte) (rest : List RxByte) : P (otherFrame start rest s) :=
  holdOther_kept h.output _ _ (h.setLength (recordFrame_kept h.signal _ _ _ _ _ hs) _ _)

theorem CoreLaw.judgeFrame (start : RxByte) (rest : List RxByte) : P (judgeFrame start rest s) := by
  unfold Machine.judgeFrame
  split
  · exact h.framingFrame hs _ _
  · split
    · exact h.levelFrame hs _
    · split
      · exact h.controlFrame hs _ _
      · exact h.otherFrame hs _ _

theorem CoreLaw.frameEnds (frame : List RxByte) : P (frameEnds frame s) := by
  have ended := h.signal.srx (x := { s.srx with receiving := false }) hs
  obtain he | he | ⟨start, rest, -, -, he⟩ := frameEnds_cases frame s
  · rw [he]; exact hs
  · rw [he]; exact ended
  · rw [he]; exact h.judgeFrame ended _ _

theorem CoreLaw.breakArrives (ended : List RxByte) : P (breakArrives ended s) :=
  ite_kept hs (h.signal.srx (wakeBreak_kept h.signal _ (h.abandonReply (h.frameEnds hs ended))))

/-! ### The step -/

/-- Every command keeps the law: an edge of a line or a frame of the input, the end of the reply, an expiry, an event of
the loop, or a command of the control interface. -/
theorem CoreLaw.exec {c : Instr} {t : State} (he : exec c s = .next t) : P t := by
  by_cases control : (controlCode c).isSome = true
  · rw [exec_of_controlCode control] at he
    cases he
    exact h.takeInstr hs c
  cases c
  case resetAssertion => cases he; exact h.asserted s
  case resetRelease n => cases he; exact h.released hs
  case authorityKeyChange b => cases he; exact h.same hs rfl
  case restartPulse => cases he; exact h.restartPulse hs
  case restartLineReturnHigh => cases he; exact h.same hs rfl
  case inputBreak => cases he; exact h.breakArrives hs _
  case inputFrameEnd => cases he; exact h.frameEnds hs _
  case replyEnd => cases he; exact running_kept _ _ (h.replyEnds hs) hs
  case streamHoldExpiry => cases he; exact running_kept _ _ (holdExpire_kept h.signal _ hs) hs
  case darkIdleExpiry => cases he; exact running_kept _ _ (idleExpire_kept h.signal _ hs) hs
  case outputIntervalExpiry => cases he; exact running_kept _ _ (ite_kept (intervalExpire_kept h.output _ hs) hs) hs
  case handoverExpiry => cases he; exact running_kept _ _ (handoverExpire_kept h.output _ _ hs) hs
  case windowEndExpiry => cases he; exact running_kept _ _ (h.windowEnded hs) hs
  case offsetTimerExpiry => cases he; exact running_kept _ _ (h.offsetEnded hs) hs
  case ackTimerExpiry => cases he; exact running_kept _ _ (h.ackEnded hs) hs
  case investigationTimerExpiry => cases he; exact running_kept _ _ (h.invEnded hs) hs
  case stallTimerExpiry => cases he; exact running_kept _ _ (h.stallExpire hs _) hs
  case descentExpiry => cases he; exact running_kept _ _ (descentExpire_kept h.curtains _ _ hs) hs
  case dwellExpiry => cases he; exact running_kept _ _ (h.dwellExpire hs) hs
  case loweringExpiry => cases he; exact running_kept _ _ (h.loweringExpire hs) hs
  case callExpiry => cases he; exact running_kept _ _ (callExpire_kept h.calls _ _ _ hs) hs
  case scheduledCallDue => cases he; exact running_kept _ _ (scheduleExpire_kept h.calls _ _ hs) hs
  case callOverrunExpiry => cases he; exact running_kept _ _ (h.overrunExpire hs) hs
  case pageLimitExpiry => cases he; exact running_kept _ _ (h.pageLimitExpire hs) hs
  case pollStart => cases he; exact running_kept _ _ (startPoll_kept h.links _ hs) hs
  case replyWindowExpiry => cases he; exact running_kept _ _ (h.windowCloses hs) hs
  case loopReply => cases he; exact running_kept _ _ (h.bytesCome hs _ _) hs
  case loopReplyForcedOver => cases he; exact running_kept _ _ (h.bytesCome hs _ _) hs
  case attentionGapExpiry => cases he; exact running_kept _ _ (h.gapExpire hs) hs
  all_goals exact absurd rfl control

/-- Every step keeps the law. -/
theorem CoreLaw.step {t : State} (he : step s = .next t) : P t := by
  unfold Machine.step at he
  split at he
  next => cases he; exact h.idled hs
  next c rest queued => exact h.exec (h.same (t := s.setPending rest) hs rfl) he
end

end Sys2Proof.Machine
end

section
/-! The close of a window (R93, R94): steps 1 to 3 as one equation, and that a change of stage leaves no window open. -/

namespace Sys2Proof.Machine

/-! ### Steps 1 to 3 of a close, whole -/

/-- The part with the window of zone `z` removed and `charge` added to its budget-used count (R93). -/
def State.windowRemoved (z charge : Nat) (s : State) : State :=
  s.setZmn { zones := s.zmn.zones.map (Zone.shut z), used := s.zmn.used.set (z - 1) (usedOf s z + charge) }

section
variable {z : Nat} {s : State}

theorem closeBegin_of_window {r : Zone} {w : Window} (hr : findZone s z = some r) (hw : r.window = some w) :
    closeBegin z s = if latchesAtClose r then
        ⟨latchZone r (s.windowRemoved z (chargeOf w s.time)), some (fireOf r s), some (chargeOf w s.time)⟩
      else ⟨s.windowRemoved z (chargeOf w s.time), none, some (chargeOf w s.time)⟩ := by
  simp only [closeBegin, hr, hw]
  rfl

theorem closeBegin_of_shut (h : ∀ r, findZone s z = some r → r.window = none) : closeBegin z s = ⟨s, none, none⟩ := by
  unfold closeBegin
  split
  · rfl
  · next r hr => rw [h r hr]

/-- A zone has no window to close, or has one in its record. -/
theorem closeBegin_shut_or_window (z : Nat) (s : State) : closeBegin z s = ⟨s, none, none⟩ ∨
    ∃ r w, findZone s z = some r ∧ r.window = some w := by
  by_cases h : ∀ r, findZone s z = some r → r.window = none
  · exact .inl (closeBegin_of_shut h)
  · push Not at h
    obtain ⟨r, hr, hw⟩ := h
    exact .inr ⟨r, _, hr, Option.eq_some_of_isSome (Option.isSome_iff_ne_none.mpr hw)⟩

theorem usedOf_windowRemoved_of_ne {n charge : Nat} (hz : 1 ≤ z) (hn : 1 ≤ n) (h : n ≠ z) :
    usedOf (s.windowRemoved z charge) n = usedOf s n := by
  simp only [usedOf, State.windowRemoved, State.setZmn_zmn, List.getD_eq_getElem?_getD]
  rw [List.getElem?_set_ne (by omega)]

theorem usedOf_windowRemoved_le (charge : Nat) :
    usedOf (s.windowRemoved z charge) z ≤ usedOf s z + charge := by
  simp only [usedOf, State.windowRemoved, State.setZmn_zmn, List.getD_eq_getElem?_getD, List.getElem?_set]
  split
  · split <;> simp
  · contradiction
end

/-! ### No window is open -/

/-- No window stands. -/
def NoWindow (s : State) : Prop := ∀ r ∈ s.zmn.zones, r.window = none

theorem NoWindow.of_zmn {s t : State} (h : NoWindow s) (hz : t.zmn = s.zmn) : NoWindow t := by rwa [NoWindow, hz]

theorem NoWindow.closeBegin {s : State} (h : NoWindow s) (z : Nat) : closeBegin z s = ⟨s, none, none⟩ :=
  closeBegin_of_shut fun r hr => h r (List.mem_of_find?_eq_some hr)

/-- The taking of fires opens no window. -/
theorem keptByCloses_noWindow : KeptByCloses NoWindow :=
  OfCore.closes ⟨fun h same => h.of_zmn (core_eq_iff.mp same).2.2.1⟩ id fun {z s} h => by rwa [h.closeBegin z]

section
variable {b : TableStore} {ns zs : List Nat} {s : State}

theorem closeWhole_shuts {z : Nat} (hns : ns.Nodup) (h : ShutZones b ns zs s) :
    ShutZones b ns (z :: zs) (closeWhole z s).1 := by
  have begun := closeBegin_shuts (z := z) hns h
  unfold closeWhole
  dsimp only
  split
  · exact closeReport_kept keptByCloses_shutZones.toKeptByLinks _ _ _ begun
  · exact begun

theorem foldl_closeWhole_shuts (hns : ns.Nodup) (l : List Nat) (fires : List Fire) (h : ShutZones b ns zs s) :
    ShutZones b ns (l.reverse ++ zs) (l.foldl (fun (acc : State × List Fire) z =>
      ((closeWhole z acc.1).1, acc.2 ++ (closeWhole z acc.1).2.toList)) (s, fires)).1 := by
  induction l generalizing zs s fires with
  | nil => exact h
  | cons z l ih => simpa using ih _ (closeWhole_shuts (z := z) hns h)
end

section
variable {s : State} (h : (zoneNumbers s).Nodup)
include h

/-- After the close of all windows none stands, when each zone number stands once (R94). -/
theorem closeAllWhole_noWindow : NoWindow (closeAllWhole s).1 := by
  have shut := foldl_closeWhole_shuts (b := s.tbs) (zs := []) (s := s) h (zoneNumbers s) [] ⟨rfl, rfl, by simp⟩
  obtain ⟨-, hns, hw⟩ := shut
  intro r hr
  exact hw r hr (by simpa using hns ▸ List.mem_map_of_mem hr)

/-- A change of stage that leaves NORMAL leaves no window open (R94). -/
theorem windowsTold_noWindow {u : State} {leaving : Bool} (hu : u.zmn = s.zmn) (hl : leaving = false → NoWindow s) :
    NoWindow (windowsTold leaving u).1 := by
  cases leaving with
  | true => exact closeAllWhole_noWindow (s := u) (by rwa [zoneNumbers, hu])
  | false => exact (hl rfl).of_zmn hu

theorem enterInvestigate_noWindow : NoWindow (enterInvestigate s).1 := by
  refine curtainsInvestigate_kept keptByCloses_noWindow.toKeptByCurtains _ (windowsTold_noWindow h ?_ nofun)
  rw [streamTold_zmn]
  exact (staffAlert_kept (keptByCalls_sameCore (investigateRecord s)) _ ⟨sameCore_postRecord _ _, by simp⟩).1.zmn

theorem enterEvacuate_noWindow (general : Bool) (cause : Nat) (fireGroup : Option Nat)
    (hn : s.asc.stage ≠ .normal → NoWindow s) : NoWindow (enterEvacuate general cause fireGroup s).1 := by
  refine groupsTold_kept keptByCloses_noWindow.toKeptByCalls _ _ (seizeChannel_kept keptByCloses_noWindow.toKeptByCalls _
    (curtainsEvacuate_kept keptByCloses_noWindow.toKeptByCurtains _ (windowsTold_noWindow h ?_ fun hl => hn ?_)))
  · rw [streamTold_zmn]
    exact (foldl_kept (P := fun u => u.zmn = s.zmn) _ (fun _ _ hu => postStarted_keeps (P := fun u => u.zmn = s.zmn)
      (fun hu => (postRecord_zmn _ _).trans hu) _ _ hu) _ (post_zmn _ _ _ _))
  · intro normal
    rw [normal] at hl
    exact absurd hl (by decide)

/-- A fire that is taken leaves no window open (R94). -/
theorem takeFire_noWindow (f : Fire) (hn : s.asc.stage ≠ .normal → NoWindow s) : NoWindow (takeFire f s) := by
  have under {u : State} (hu : NoWindow u) (g : Fire) : NoWindow (fireUnderAlarm g u) :=
    fireUnderAlarm_keptByCloses keptByCloses_noWindow g u hu
  unfold takeFire
  split
  next normal =>
    refine foldl_kept (P := NoWindow) _ (fun _ _ hu => under hu _) _ ?_
    have origin : (recordOrigin f s).asc.stage ≠ .normal → NoWindow (recordOrigin f s) := fun ne => absurd normal ne
    unfold fireInNormal
    split
    · exact enterInvestigate_noWindow (s := recordOrigin f s) h
    · exact enterEvacuate_noWindow (s := recordOrigin f s) h _ _ _ origin
    · exact enterEvacuate_noWindow (s := recordOrigin f s) h _ _ _ origin
  next stage => exact under (hn (by rw [stage]; decide)) f
  next stage => exact under (hn (by rw [stage]; decide)) f
end

end Sys2Proof.Machine
end

section
/-! The staged entries stand in rising index, none below the table's first: what STAGE WRITE places (R198), and what every
operation of TBS keeps (R197). -/

namespace Sys2Proof.Machine

/-- The entries of a bank stand in rising index, from `first` on (R197). -/
def InOrder (first : Nat) (b : Bank) : Prop := (b.Pairwise fun x y => x.index < y.index) ∧ ∀ e ∈ b, first ≤ e.index

/-- The staged entries of a table stand in rising index, from its first on. -/
def StagedInOrder (i : TableId) (s : State) : Prop := InOrder i.first (s.tbs.staging.get i).bank

theorem inOrder_nil (first : Nat) : InOrder first [] := ⟨.nil, nofun⟩

theorem mem_bankPut {e : BankEntry} {n : Nat} {bs : List Byte} {b : Bank} (h : e ∈ bankPut b n bs) :
    e = ⟨n, bs⟩ ∨ e ∈ b := by
  induction b with
  | nil => exact .inl (List.mem_singleton.mp h)
  | cons x rest ih =>
    unfold bankPut at h
    split at h
    · rcases List.mem_cons.mp h with rfl | h
      · exact .inr List.mem_cons_self
      · exact (ih h).imp_right (List.mem_cons_of_mem _)
    · split at h
      · exact (List.mem_cons.mp h).imp_right (List.mem_cons_of_mem _)
      · exact List.mem_cons.mp h

theorem inOrder_bankPut {first n : Nat} {b : Bank} (h : InOrder first b) (hn : first ≤ n) (bs : List Byte) :
    InOrder first (bankPut b n bs) := by
  refine ⟨?_, fun e he => ?_⟩
  · obtain ⟨rising, -⟩ := h
    induction b with
    | nil => exact List.pairwise_singleton _ _
    | cons x rest ih =>
      obtain ⟨above, tail⟩ := List.pairwise_cons.mp rising
      unfold bankPut
      split
      next lt =>
        refine List.pairwise_cons.mpr ⟨fun y hy => ?_, ih tail⟩
        rcases mem_bankPut hy with rfl | hy
        · exact lt
        · exact above y hy
      next =>
        split
        next eq => exact List.pairwise_cons.mpr ⟨fun y hy => eq ▸ above y hy, tail⟩
        next =>
          refine List.pairwise_cons.mpr ⟨fun y hy => ?_, rising⟩
          rcases List.mem_cons.mp hy with rfl | hy
          · show n < y.index
            omega
          · have := above y hy
            show n < y.index
            omega
  · rcases mem_bankPut he with rfl | he
    · exact hn
    · exact h.2 e he

theorem inOrder_placeEntries {first n : Nat} {b : Bank} (h : InOrder first b) (hn : first ≤ n) (es : List (List Byte)) :
    InOrder first (placeEntries b n es) := by
  unfold placeEntries
  induction es generalizing n b with
  | nil => exact h
  | cons e es ih => exact ih (inOrder_bankPut h hn e) (Nat.le_succ_of_le hn)

theorem writeEntries_first {i : TableId} {p : List Byte} {n : Nat} {es : List (List Byte)}
    (h : writeEntries i p = some (n, es)) : i.first ≤ n := by
  unfold writeEntries at h
  split at h
  · cases h
  · dsimp only at h
    split at h
    · cases h
    · split at h
      · cases h
      · cases h
        simp_all

section
variable {i : TableId} {s : State}

theorem StagedInOrder.of_staging {t : State} (h : StagedInOrder i s) (ht : t.tbs.staging = s.tbs.staging) :
    StagedInOrder i t := by rwa [StagedInOrder, ht]

theorem StagedInOrder.setStaging {j : TableId} {x : Staging} (h : StagedInOrder i s)
    (hx : j = i → InOrder i.first x.bank) : StagedInOrder i (setStaging j x s) := by
  unfold StagedInOrder
  rw [Machine.setStaging, State.setTbs_tbs, perTable_get_set]
  split
  next eq => exact hx eq.symm
  next => exact h

/-- The bank of a table with another state. -/
theorem StagedInOrder.setState {j : TableId} (h : StagedInOrder i s) (x : BankState) :
    StagedInOrder i (Machine.setStaging j { s.tbs.staging.get j with state := x } s) :=
  h.setStaging fun eq => eq ▸ h

theorem StagedInOrder.empty {j : TableId} (h : StagedInOrder i s) (x : BankState) :
    StagedInOrder i (Machine.setStaging j ⟨x, []⟩ s) :=
  h.setStaging fun _ => inOrder_nil _

theorem StagedInOrder.reopenQueued (h : StagedInOrder i s) : StagedInOrder i (reopenQueued s) :=
  foldl_kept (P := StagedInOrder i) _ (fun _ _ hu => ite_kept (P := StagedInOrder i) (hu.setState _) hu) _ h

theorem StagedInOrder.changeCommit (h : StagedInOrder i s) (x : CommitState) (f : Option Failure) :
    StagedInOrder i (changeCommit x f s) := h.of_staging rfl

theorem StagedInOrder.noteTables (h : StagedInOrder i s) : StagedInOrder i (noteTables s) := h.of_staging rfl

theorem StagedInOrder.activate (h : StagedInOrder i s) : StagedInOrder i (activate s) :=
  foldl_kept (P := StagedInOrder i) _ (fun _ _ hu => ite_kept (P := StagedInOrder i) (hu.empty _) hu) _ h

theorem StagedInOrder.complete (h : StagedInOrder i s) : StagedInOrder i (complete s) := by
  have passed := h.activate.changeCommit .passed none
  exact passed.of_staging (by rw [Machine.complete, rebuildOwners_tbs])

theorem StagedInOrder.commitQueued (h : StagedInOrder i s) : StagedInOrder i (commitQueued s).state := by
  unfold Machine.commitQueued
  split
  · exact h.noteTables.reopenQueued.changeCommit _ _
  · split
    · exact h.noteTables.complete
    · exact h.noteTables.changeCommit _ _

theorem StagedInOrder.written {p : List Byte} (h : StagedInOrder i s) : StagedInOrder i (stageWriteCmd p s).state := by
  unfold stageWriteCmd
  split
  · exact h
  next j _ =>
    unfold stageWriteAt
    split
    · exact h
    · split
      · exact h
      next writes =>
        refine h.setStaging fun eq => ?_
        subst eq
        exact inOrder_placeEntries h (writeEntries_first writes) _
end

theorem storeLaw_stagedInOrder (i : TableId) : StoreLaw (StagedInOrder i) where
  same h ht := h.of_staging (by rw [ht])
  reexamined h := ite_kept (P := StagedInOrder i) (h.complete.of_staging (by rw [post_tbs])) h
  restarted {s} h := by
    rw [storeRestart_eq]
    cases i <;> exact inOrder_nil _
  opened {p s} h := by
    unfold stageOpenCmd
    split
    · exact h
    · exact answer_ite_kept (answer_ite_kept h (h.empty _)) h
  written h := h.written
  queued {p s} h := by
    unfold stageQueueCmd
    split
    · exact h
    · exact answer_ite_kept (answer_ite_kept h (answer_ite_kept h (h.setState _))) h
  committed h := answer_ite_kept h (answer_ite_kept h (answer_ite_kept h h.commitQueued))
  aborted h := answer_ite_kept h (answer_ite_kept (h.reopenQueued.changeCommit _ _) h)
  authority {p s} h := by
    unfold setAuthorityCmd
    refine answer_ite_kept h ?_
    split
    · exact h
    · exact h.of_staging rfl
  locked h := answer_ite_kept h (answer_ite_kept h (h.of_staging (by rw [post_tbs]; rfl)))

end Sys2Proof.Machine
end

section
/-! The zone laws record by record (R74, R76, R77, R86 to R88, R92): what each operation of ZMN keeps of them. The phase and
the stage under which a window stands are apart from the rest, for while the windows are closed the phase or the stage
has changed already. -/

namespace Sys2Proof.Machine

/-! ### The laws, apart from phase and stage -/

/-- A zone record agrees with its rules, phase and stage apart (R74, R76, R86 to R88, R92). -/
def ZoneSound (s : State) (r : Zone) : Prop :=
  1 ≤ r.number ∧ r.number ≤ 64 ∧ (r.deferred = true → r.window.isSome = true) ∧
    ∀ w, r.window = some w → (r.kind = .smoke ∨ r.kind = .flame) ∧ r.latch = false ∧ s.tbs.auth.locked = true ∧
      s.time ≤ w.finish ∧ w.finish ≤ w.start + (budgetOf s r.number - usedOf s r.number) * 1000

/-- The zone records and the used counts agree with their rules, phase and stage apart. -/
structure ZonesSound (s : State) : Prop where
  once : (zoneNumbers s).Nodup
  each : ∀ r ∈ s.zmn.zones, ZoneSound s r
  within : ∀ z, 1 ≤ z → z ≤ 64 → usedOf s z ≤ budgetOf s z
  unspent : s.tbs.auth.locked = false → ∀ z, 1 ≤ z → z ≤ 64 → usedOf s z = 0

/-- A window stands in ACT and NORMAL alone (R86). -/
def WindowsInAct (s : State) : Prop :=
  ∀ r ∈ s.zmn.zones, r.window.isSome = true → s.phc.phase = .act ∧ s.asc.stage = .normal

theorem zonesConsistent_iff (s : State) :
    ZonesConsistent s ↔ ZonesSound s ∧ WindowsInAct s ∧ StagedInOrder .zone s := by
  constructor
  · rintro ⟨once, each, within, unspent, staged⟩
    refine ⟨⟨once, fun r hr => ?_, within, unspent⟩, fun r hr hw => ?_, staged⟩
    · obtain ⟨lo, hi, deferred, window⟩ := each r hr
      refine ⟨lo, hi, deferred, fun w hw => ?_⟩
      obtain ⟨kind, latch, -, -, locked, finish⟩ := window w hw
      exact ⟨kind, latch, locked, finish⟩
    · obtain ⟨-, -, -, window⟩ := each r hr
      obtain ⟨-, -, act, normal, -⟩ := window _ (Option.eq_some_of_isSome hw)
      exact ⟨act, normal⟩
  · rintro ⟨⟨once, each, within, unspent⟩, inAct, staged⟩
    refine ⟨once, fun r hr => ?_, within, unspent, staged⟩
    obtain ⟨lo, hi, deferred, window⟩ := each r hr
    refine ⟨lo, hi, deferred, fun w hw => ?_⟩
    obtain ⟨kind, latch, locked, finish⟩ := window w hw
    obtain ⟨act, normal⟩ := inAct r hr (by rw [hw]; rfl)
    exact ⟨kind, latch, act, normal, locked, finish⟩

theorem NoWindow.inAct {s : State} (h : NoWindow s) : WindowsInAct s := fun r hr hw => by simp [h r hr] at hw

theorem WindowsInAct.of_same {s t : State} (h : WindowsInAct s) (hz : t.zmn.zones = s.zmn.zones)
    (hp : t.phc.phase = s.phc.phase) (ha : t.asc.stage = s.asc.stage) : WindowsInAct t := by
  rwa [WindowsInAct, hz, hp, ha]

/-- The change of every record by a function that opens no window. -/
theorem WindowsInAct.map {s t : State} (h : WindowsInAct s) (g : Zone → Zone) (hz : t.zmn.zones = s.zmn.zones.map g)
    (hg : ∀ r ∈ s.zmn.zones, (g r).window.isSome = true → r.window.isSome = true) (hp : t.phc.phase = s.phc.phase)
    (ha : t.asc.stage = s.asc.stage) : WindowsInAct t := by
  rw [WindowsInAct, hz, hp, ha]
  intro x hx hw
  obtain ⟨r, hr, rfl⟩ := List.mem_map.mp hx
  exact h r hr (hg r hr hw)

/-! ### What a change of the records keeps -/

section
variable {s t : State}

/-- The law reads the authority record, the used counts, and the time, which may only go back. -/
theorem ZoneSound.of_same {r : Zone} (h : ZoneSound s r) (hu : usedOf t r.number = usedOf s r.number)
    (ha : t.tbs.auth = s.tbs.auth) (ht : t.time ≤ s.time) : ZoneSound t r := by
  obtain ⟨lo, hi, deferred, window⟩ := h
  refine ⟨lo, hi, deferred, fun w hw => ?_⟩
  obtain ⟨kind, latch, locked, finish, budget⟩ := window w hw
  have same : budgetOf t r.number = budgetOf s r.number := by rw [budgetOf, ha, budgetOf]
  exact ⟨kind, latch, by rw [ha, locked], ht.trans finish, by rw [same, hu]; exact budget⟩

/-- A record without a window meets the law whatever the budget. -/
theorem ZoneSound.shut {r : Zone} (hlo : 1 ≤ r.number) (hhi : r.number ≤ 64) (hd : r.deferred = false)
    (hw : r.window = none) : ZoneSound s r :=
  ⟨hlo, hhi, fun h => by simp [hd] at h, fun w h => by simp [hw] at h⟩

/-- The change of every record by a function that keeps the numbers and the law. -/
theorem ZonesSound.map (h : ZonesSound s) (g : Zone → Zone) (hz : t.zmn.zones = s.zmn.zones.map g)
    (hu : t.zmn.used = s.zmn.used) (ha : t.tbs.auth = s.tbs.auth) (ht : t.time ≤ s.time)
    (hg : ∀ r ∈ s.zmn.zones, ZoneSound s r → (g r).number = r.number ∧ ZoneSound s (g r)) : ZonesSound t := by
  have used (z : Nat) : usedOf t z = usedOf s z := by rw [usedOf, hu, usedOf]
  have budget (z : Nat) : budgetOf t z = budgetOf s z := by rw [budgetOf, ha, budgetOf]
  refine ⟨?_, ?_, fun z => by rw [used, budget]; exact h.within z, fun hl z => by
    rw [used]; exact h.unspent (ha ▸ hl) z⟩
  · have numbers : zoneNumbers t = zoneNumbers s := by
      rw [zoneNumbers, hz, List.map_map]
      exact List.map_congr_left fun r hr => (hg r hr (h.each r hr)).1
    rw [numbers]
    exact h.once
  · rw [hz]
    intro x hx
    obtain ⟨r, hr, rfl⟩ := List.mem_map.mp hx
    exact (hg r hr (h.each r hr)).2.of_same (used _) ha ht

theorem ZonesSound.of_same (h : ZonesSound s) (hz : t.zmn = s.zmn) (ha : t.tbs.auth = s.tbs.auth) (ht : t.time ≤ s.time) :
    ZonesSound t :=
  h.map id (by rw [hz, List.map_id]) (by rw [hz]) ha ht fun _ _ hr => ⟨rfl, hr⟩

/-- The change of one record, found by its number. -/
theorem ZonesSound.modZone (h : ZonesSound s) {z : Nat} {f : Zone → Zone}
    (hf : ∀ r ∈ s.zmn.zones, r.number = z → ZoneSound s r → (f r).number = r.number ∧ ZoneSound s (f r)) :
    ZonesSound (modZone z f s) := by
  refine h.map _ rfl rfl rfl le_rfl fun r hr hs => ?_
  split
  next eq => exact hf r hr eq hs
  next => exact ⟨rfl, hs⟩
end

/-! ### Windows are closed -/

section
variable {s : State} (h : ZonesSound s)
include h

/-- The charge of a close does not pass the budget, for a window ends before the budget is spent (R88, R93). -/
theorem ZonesSound.windowRemoved {z : Nat} {r : Zone} {w : Window} (hr : findZone s z = some r)
    (hw : r.window = some w) : ZonesSound (s.windowRemoved z (chargeOf w s.time)) := by
  have hz : r.number = z := findZone_number hr
  obtain ⟨lo, hi, -, window⟩ := h.each r (List.mem_of_find?_eq_some hr)
  obtain ⟨-, -, locked, finish, budget⟩ := window w hw
  rw [hz] at lo hi budget
  have spent : usedOf s z + chargeOf w s.time ≤ budgetOf s z := by
    have := h.within z lo hi
    unfold chargeOf
    omega
  refine ⟨?_, ?_, fun n hlo hhi => ?_, fun hl => absurd (locked.symm.trans hl) (by decide)⟩
  · have numbers : zoneNumbers (s.windowRemoved z (chargeOf w s.time)) = zoneNumbers s := by
      rw [zoneNumbers, State.windowRemoved, State.setZmn_zmn, List.map_map]
      exact List.map_congr_left fun x _ => Zone.shut_number z x
    rw [numbers]
    exact h.once
  · intro x hx
    obtain ⟨y, hy, rfl⟩ := List.mem_map.mp hx
    obtain ⟨ylo, yhi, -⟩ := h.each y hy
    by_cases hn : y.number = z
    · have shut : y.shut z = { y with window := none, deferred := false } := if_pos hn
      rw [shut]
      exact .shut ylo yhi rfl rfl
    · have kept : y.shut z = y := if_neg hn
      rw [kept]
      exact (h.each y hy).of_same (usedOf_windowRemoved_of_ne lo ylo hn) rfl le_rfl
  · by_cases hn : n = z
    · subst hn
      exact (usedOf_windowRemoved_le _).trans spent
    · rw [usedOf_windowRemoved_of_ne lo hlo hn]
      exact h.within n hlo hhi

/-- A zone without a window may be latched (R76, R86). -/
theorem ZonesSound.latchZone {r : Zone} (hw : ∀ x ∈ s.zmn.zones, x.number = r.number → x.window = none) :
    ZonesSound (latchZone r s) := by
  have latched : ZonesSound (Machine.modZone r.number (fun x => { x with latch := true }) s) := by
    refine h.modZone fun x hx hn hs => ⟨rfl, ?_⟩
    obtain ⟨lo, hi, deferred, -⟩ := hs
    exact ⟨lo, hi, deferred, fun w hx' => by simp [hw x hx hn] at hx'⟩
  exact latched.of_same (post_zmn ..) (by rw [Machine.latchZone, post_tbs]) (post_time ..).le

theorem ZonesSound.closeBegin (z : Nat) : ZonesSound (closeBegin z s).state := by
  obtain shut | ⟨r, w, hr, hw⟩ := closeBegin_shut_or_window z s
  · rw [shut]
    exact h
  · have removed := h.windowRemoved hr hw
    rw [closeBegin_of_window hr hw]
    split
    · refine removed.latchZone fun x hx hn => ?_
      obtain ⟨y, -, rfl⟩ := List.mem_map.mp hx
      rw [Zone.shut_window, if_pos]
      rw [← Zone.shut_number z y, hn, findZone_number hr]
    · exact removed
end

theorem ofCore_zonesSound : OfCore ZonesSound where
  same h same := by
    obtain ⟨time, -, zmn, -, tbs⟩ := core_eq_iff.mp same
    exact h.of_same zmn (by rw [tbs]) time.le

/-- The taking of fires, with the closes that it brings, keeps the laws. -/
theorem keptByCloses_zonesSound : KeptByCloses ZonesSound :=
  ofCore_zonesSound.closes (fun h => h.of_same rfl rfl le_rfl) fun h => h.closeBegin _

end Sys2Proof.Machine
end

section
/-! Every operation of ZMN, ASC, PHC and TBS keeps the zone laws (R74, R76, R77, R86 to R88, R92, R197), and so does every
step. -/

namespace Sys2Proof.Machine

/-! ### States that meet the laws -/

section
variable {s t : State}

theorem ofCore_zonesConsistent : OfCore ZonesConsistent where
  same {s t} h same := by
    obtain ⟨time, phc, zmn, asc, tbs⟩ := core_eq_iff.mp same
    obtain ⟨sound, inAct, staged⟩ := (zonesConsistent_iff s).mp h
    exact (zonesConsistent_iff t).mpr ⟨sound.of_same zmn (by rw [tbs]) time.le,
      inAct.of_same (by rw [zmn]) (by rw [phc]) (by rw [asc]), staged.of_staging (by rw [tbs])⟩

/-- The laws of a state in which no window stands hold in any phase and stage. -/
def ShutSound (s : State) : Prop := ZonesSound s ∧ NoWindow s ∧ StagedInOrder .zone s

theorem ShutSound.consistent (h : ShutSound s) : ZonesConsistent s :=
  (zonesConsistent_iff s).mpr ⟨h.1, h.2.1.inAct, h.2.2⟩

theorem ShutSound.of_same (h : ShutSound s) (hz : t.zmn = s.zmn) (ha : t.tbs = s.tbs) (ht : t.time = s.time) :
    ShutSound t :=
  ⟨h.1.of_same hz (by rw [ha]) ht.le, h.2.1.of_zmn hz, h.2.2.of_staging (by rw [ha])⟩

theorem ofCore_shutSound : OfCore ShutSound where
  same h same := by
    obtain ⟨time, -, zmn, -, tbs⟩ := core_eq_iff.mp same
    exact h.of_same zmn tbs time

theorem keptByCloses_shutSound : KeptByCloses ShutSound :=
  ofCore_shutSound.closes (fun h => h.of_same rfl rfl rfl) fun {z s} h => by rwa [h.2.1.closeBegin z]

section
variable (h : ZonesConsistent s)
include h

theorem ZonesConsistent.sound : ZonesSound s := ((zonesConsistent_iff s).mp h).1

theorem ZonesConsistent.inAct : WindowsInAct s := ((zonesConsistent_iff s).mp h).2.1

theorem ZonesConsistent.staged : StagedInOrder .zone s := ((zonesConsistent_iff s).mp h).2.2

theorem ZonesConsistent.noWindow (hn : ¬ (s.phc.phase = .act ∧ s.asc.stage = .normal)) : NoWindow s := fun r hr =>
  Option.not_isSome_iff_eq_none.mp fun hw => hn (h.inAct r hr hw)

theorem ZonesConsistent.shut (hn : ¬ (s.phc.phase = .act ∧ s.asc.stage = .normal)) : ShutSound s :=
  ⟨h.sound, h.noWindow hn, h.staged⟩

/-- The change of some record that keeps its number and opens no window on it. -/
theorem ZonesConsistent.modZone {z : Nat} {f : Zone → Zone} (hf : ∀ r ∈ s.zmn.zones, r.number = z → ZoneSound s r →
    (f r).number = r.number ∧ ((f r).window.isSome = true → r.window.isSome = true) ∧ ZoneSound s (f r)) :
    ZonesConsistent (modZone z f s) := by
  refine (zonesConsistent_iff _).mpr ⟨h.sound.modZone fun r hr hn hs => ?_, h.inAct.map _ rfl (fun r hr => ?_) rfl rfl,
    h.staged⟩
  · obtain ⟨number, -, sound⟩ := hf r hr hn hs
    exact ⟨number, sound⟩
  · split
    next hn => exact (hf r hr hn (h.sound.each r hr)).2.1
    next => exact id

/-- A change of the alarm record that keeps the stage. -/
theorem ZonesConsistent.noteAlarm (x : Alarm) (hx : x.stage = s.asc.stage) : ZonesConsistent (s.setAsc x) :=
  (zonesConsistent_iff _).mpr ⟨h.sound.of_same rfl rfl le_rfl, h.inAct.of_same rfl rfl hx, h.staged⟩
end

/-- `t` differs from `s` in none of those records but TBS's, and there not in the authority record. -/
structure BesideTables (s t : State) : Prop where
  time : t.time = s.time
  phc : t.phc = s.phc
  zmn : t.zmn = s.zmn
  asc : t.asc = s.asc
  auth : t.tbs.auth = s.tbs.auth

theorem BesideTables.refl (s : State) : BesideTables s s := ⟨rfl, rfl, rfl, rfl, rfl⟩

theorem keptByTables_beside (s : State) : KeptByTables (BesideTables s) where
  posted h := ⟨by rw [postRecord_time, h.time], by rw [postRecord_phc, h.phc], by rw [postRecord_zmn, h.zmn],
    by rw [postRecord_asc, h.asc], by rw [postRecord_tbs, h.auth]⟩
  tbs hx h := ⟨h.time, h.phc, h.zmn, h.asc, hx.trans h.auth⟩

/-- TBS's changes outside the authority record keep the laws when the staged entries stay in order. -/
theorem ZonesConsistent.stored (h : ZonesConsistent s) (hf : BesideTables s t) (ht : StagedInOrder .zone t) :
    ZonesConsistent t :=
  (zonesConsistent_iff t).mpr ⟨h.sound.of_same hf.zmn hf.auth hf.time.le,
    h.inAct.of_same (by rw [hf.zmn]) (by rw [hf.phc]) (by rw [hf.asc]), ht⟩

/-! ### Windows are closed and fires taken -/

/-- A fire that is taken leaves no window, whatever the phase and the stage were (R94). -/
theorem ZonesSound.takeFire (h : ZonesSound s) (hst : StagedInOrder .zone s) (hn : s.asc.stage ≠ .normal → NoWindow s)
    (f : Fire) : ShutSound (takeFire f s) :=
  ⟨takeFire_keptByCloses keptByCloses_zonesSound f s h, takeFire_noWindow h.once f hn,
    (storeLaw_stagedInOrder .zone).takeFire hst f⟩

theorem ZonesConsistent.takeFire (h : ZonesConsistent s) (f : Fire) : ZonesConsistent (takeFire f s) :=
  (h.sound.takeFire h.staged (fun hn => h.noWindow fun x => hn x.2) f).consistent

theorem ZonesSound.closeWindow (h : ZonesSound s) (z : Nat) : ZonesSound (closeWindow z s) :=
  closeWindow_keptByCloses keptByCloses_zonesSound z s (h.closeBegin z) fun _ => h

theorem ZonesConsistent.closeBegin (h : ZonesConsistent s) (z : Nat) : ZonesConsistent (closeBegin z s).state := by
  refine (zonesConsistent_iff _).mpr ⟨h.sound.closeBegin z, ?_, (storeLaw_stagedInOrder .zone).closes.close h.staged⟩
  obtain shut | ⟨r, w, hr, hw⟩ := closeBegin_shut_or_window z s
  · rw [shut]
    exact h.inAct
  · have removed : WindowsInAct (s.windowRemoved z (chargeOf w s.time)) := by
      refine h.inAct.map _ rfl (fun x _ hx => ?_) rfl rfl
      rw [Zone.shut_window] at hx
      split at hx
      · exact absurd hx (by simp)
      · exact hx
    rw [closeBegin_of_window hr hw]
    split
    · refine removed.map (Zone.latched r.number) (by rw [latchZone, post_zmn]; rfl) (fun x _ hx => ?_)
        (by simp [latchZone, Machine.modZone]) (by simp [latchZone, Machine.modZone])
      rwa [Zone.latched_window] at hx
    · exact removed

theorem ZonesConsistent.closeWindow (h : ZonesConsistent s) (z : Nat) : ZonesConsistent (closeWindow z s) := by
  unfold Machine.closeWindow
  dsimp only
  split
  · refine closeReport_kept ofCore_zonesConsistent.links _ _ _ ?_
    unfold takeFire?
    split
    · exact (h.closeBegin z).takeFire _
    · exact h.closeBegin z
  · exact h

end

end Sys2Proof.Machine
end

section
/-! The zone laws through SUPPRESS, the reports, the phases, the alarm and the commits; the law of every step. -/

namespace Sys2Proof.Machine

/-! ### SUPPRESS (R86 to R90) -/

theorem ZoneKind.unsuppressed_eq_false_iff (k : ZoneKind) : k.unsuppressed = false ↔ k = .smoke ∨ k = .flame := by
  cases k <;> decide

theorem ite_some_eq_none_iff {α : Type} {c : Prop} [Decidable c] {a : α} {o : Option α} :
    (if c then some a else o) = none ↔ ¬ c ∧ o = none := by
  split
  next h => simp [h]
  next h => simp [h]

theorem budgetLeft_eq_zero_iff (s : State) (r : Zone) :
    budgetLeft s r = 0 ↔ budgetOf s r.number ≤ usedOf s r.number := by
  unfold budgetLeft
  omega

/-- No check of R86 holds. -/
theorem refusingCheck_none_iff (s : State) (r : Zone) : refusingCheck s r = none ↔
    s.tbs.auth.locked = true ∧ s.phc.phase = .act ∧ s.asc.stage = .normal ∧ (r.kind = .smoke ∨ r.kind = .flame) ∧
      0 < maxWindowOf s r.number ∧ (r.condition ≠ .fire ∧ r.latch = false) ∧ usedOf s r.number < budgetOf s r.number := by
  simp only [refusingCheck, ite_some_eq_none_iff, budgetLeft_eq_zero_iff, ← ZoneKind.unsuppressed_eq_false_iff,
    Nat.pos_iff_ne_zero, not_or, not_not, Bool.not_eq_true, Bool.not_eq_true', Bool.not_eq_false, Nat.not_le, and_true,
    ne_eq]

theorem grantedLength_le_budget (s : State) (r : Zone) (d : Nat) (h : r.window = none) :
    grantedLength s r d ≤ (budgetOf s r.number - usedOf s r.number) * 1000 := by
  simp only [grantedLength, remainingBudget, h, budgetLeft]
  omega

theorem candidateEnd_le_budget (s : State) (r : Zone) (w : Window) (d : Nat) :
    candidateEnd s r w d ≤ w.start + (budgetOf s r.number - usedOf s r.number) * 1000 := by
  unfold candidateEnd budgetLeft
  omega

section
variable {s : State} (h : ZonesConsistent s)
include h

/-- A zone that passes the checks takes a window that runs from now, or on from its start, within its budget. -/
theorem ZonesConsistent.putWindow {r : Zone} (hc : refusingCheck s r = none) {w : Window} {f : Zone → Zone}
    (hf : ∀ x, (f x).number = x.number ∧ (f x).kind = x.kind ∧ (f x).latch = x.latch ∧ (f x).window = some w)
    (hr : findZone s r.number = some r) (hnow : s.time ≤ w.finish)
    (hend : w.finish ≤ w.start + (budgetOf s r.number - usedOf s r.number) * 1000) :
    ZonesConsistent (Machine.modZone r.number f s) := by
  obtain ⟨locked, act, normal, kind, -, ⟨-, latch⟩, -⟩ := (refusingCheck_none_iff s r).mp hc
  refine (zonesConsistent_iff _).mpr ⟨h.sound.modZone fun x hx hn hs => ?_, fun _ _ _ => ⟨act, normal⟩, h.staged⟩
  obtain rfl : x = r := by
    have found := findZone_of_mem h.sound.once hx
    rw [hn, hr] at found
    exact (Option.some.inj found).symm
  obtain ⟨number, kind', latch', window⟩ := hf x
  obtain ⟨lo, hi, -⟩ := hs
  refine ⟨number, by rwa [number], by rwa [number], fun _ => by rw [window]; rfl, fun v hv => ?_⟩
  obtain rfl : w = v := Option.some.inj (window.symm.trans hv)
  rw [kind', latch', number]
  exact ⟨kind, latch, locked, hnow, hend⟩

theorem ZonesConsistent.suppressZone (z d : Nat) (clamped : Bool) : ZonesConsistent (suppressZone z d clamped s).1 := by
  unfold Machine.suppressZone
  split
  · exact h
  next r hr =>
    have hz := findZone_number hr
    subst hz
    split
    · exact h
    next hc =>
      split
      next hw =>
        refine post_kept ofCore_zonesConsistent.posted _ _ _ _ (h.putWindow (r := r) hc (w := ⟨s.time, _⟩) ?_ hr
          (Nat.le_add_right _ _) (Nat.add_le_add_left (grantedLength_le_budget s r d hw) _))
        exact fun x => ⟨rfl, rfl, rfl, rfl⟩
      next w hw =>
        unfold extendWindow
        split
        next later =>
          obtain ⟨-, -, -, window⟩ := h.sound.each r (List.mem_of_find?_eq_some hr)
          obtain ⟨-, -, -, running, -⟩ := window w hw
          refine post_kept ofCore_zonesConsistent.posted _ _ _ _ (h.putWindow (r := r) hc (w := ⟨w.start, _⟩) ?_ hr
            (running.trans later.le) (candidateEnd_le_budget s r w d))
          exact fun x => ⟨rfl, rfl, rfl, rfl⟩
        next => exact h

theorem ZonesConsistent.suppressAt (zs : List Nat) (d : Nat) : ZonesConsistent (suppressAt zs d s).state := by
  refine answer_ite_kept h (answer_ite_kept h (answer_ite_kept ?_ ?_))
  · exact foldl_pair_kept _ _ (fun _ z hu => hu.closeWindow z) h
  · exact foldl_pair_kept _ _ (fun _ z hu => hu.suppressZone z _ _) h

/-! ### Reports and the loss of a unit (R78, R82, R92) -/

theorem ZonesConsistent.setCondition (z : Nat) (c : Condition) :
    ZonesConsistent (Machine.modZone z (fun x => { x with condition := c }) s) :=
  h.modZone fun _ _ _ hs => ⟨rfl, id, hs⟩

/-- A FIRE report on a zone of the records (R78, R92). -/
theorem ZonesConsistent.reportFire {r : Zone} (hr : ∀ x ∈ s.zmn.zones, x.number = r.number → x.window = r.window) :
    ZonesConsistent (reportFire r s) := by
  unfold Machine.reportFire
  split
  next hw =>
    refine ite_kept h (ShutSound.consistent ?_)
    have latched : ZonesSound (latchZone r s) := h.sound.latchZone fun x hx hn => (hr x hx hn).trans hw
    refine latched.takeFire ?_ (fun hn => ?_) _
    · exact (storeLaw_stagedInOrder .zone).same h.staged (by simp [latchZone, Machine.modZone])
    · have shut : NoWindow s := h.noWindow fun x => hn (by simpa [latchZone, Machine.modZone] using x.2)
      intro x hx
      rw [latchZone, post_zmn] at hx
      obtain ⟨y, hy, rfl⟩ := List.mem_map.mp hx
      exact (Zone.latched_window r.number y).trans (shut y hy)
  next w hw =>
    refine ite_kept h (post_kept ofCore_zonesConsistent.posted _ _ _ _ (h.modZone fun x hx hn hs => ?_))
    obtain ⟨lo, hi, -, window⟩ := hs
    exact ⟨rfl, id, lo, hi, fun _ => by simp only [hr x hx hn, hw, Option.isSome_some], window⟩

theorem ZonesConsistent.inputReport (unit input value : Nat) : ZonesConsistent (inputReport unit input value s) := by
  unfold Machine.inputReport
  split
  next r hr =>
    have noted := h.setCondition r.number (Condition.ofReport value)
    have fires : ZonesConsistent (if Condition.ofReport value = .fire then
        Machine.reportFire r (Machine.modZone r.number (fun x => { x with condition := Condition.ofReport value }) s)
        else Machine.modZone r.number (fun x => { x with condition := Condition.ofReport value }) s) := by
      refine ite_kept (noted.reportFire fun x hx hn => ?_) noted
      obtain ⟨y, hy, rfl⟩ := List.mem_map.mp hx
      have number : y.number = r.number := by
        split at hn
        · exact hn
        · exact hn
      obtain rfl := List.inj_on_of_nodup_map h.sound.once hy (List.mem_of_find?_eq_some hr) number
      simp
    have told := postCondition_kept ofCore_zonesConsistent.links r.number r.condition (Condition.ofReport value) _ fires
    have recorded : ZonesConsistent (notePrealarm r.number r.condition (Condition.ofReport value) _) :=
      ite_kept (told.noteAlarm _ rfl) told
    refine ite_kept recorded (ite_kept (post_kept ofCore_zonesConsistent.posted _ _ _ _
      (recorded.modZone fun x _ _ hs => ?_)) recorded)
    obtain ⟨lo, hi, -, window⟩ := hs
    exact ⟨rfl, id, lo, hi, nofun, window⟩
  next => exact h
end

end Sys2Proof.Machine
end

section
/-! The zone laws through the commits, the phases, the alarm and the restarts; the law of every step. -/

namespace Sys2Proof.Machine

/-! ### A commit (R97, R199 to R201) -/

theorem closeAllWhole_of_noWindow {s : State} (h : NoWindow s) : closeAllWhole s = (s, []) :=
  windowsTold_of_no_window h true

theorem rebuiltZones_numbers (old : List Zone) (b : Bank) :
    (rebuiltZones old b).map (·.number) = (b.filter fun e => e.index ≤ 64).map (·.index) := by
  simp only [rebuiltZones, List.map_map]
  rfl

/-- The records made of a bank in order meet the laws (R74, R97). -/
theorem ShutSound.rebuilt {s : State} (h : ShutSound s) (hb : InOrder 1 s.tbs.active.zone) :
    ShutSound (zonesRebuild s) := by
  obtain ⟨sound, none, staged⟩ := h
  obtain ⟨rising, above⟩ := hb
  unfold zonesRebuild
  rw [closeAllWhole_of_noWindow none]
  have shut (x : Zone) (hx : x ∈ rebuiltZones s.zmn.zones s.tbs.active.zone) :
      1 ≤ x.number ∧ x.number ≤ 64 ∧ x.deferred = false ∧ x.window = Option.none := by
    obtain ⟨e, he, rfl⟩ := List.mem_map.mp hx
    obtain ⟨mem, le⟩ := List.mem_filter.mp he
    exact ⟨above e mem, of_decide_eq_true le, rfl, rfl⟩
  refine ⟨⟨?_, fun x hx => ?_, sound.within, sound.unspent⟩, fun x hx => (shut x hx).2.2.2, staged⟩
  · show (((rebuiltZones s.zmn.zones s.tbs.active.zone)).map (·.number)).Nodup
    rw [rebuiltZones_numbers]
    exact List.pairwise_map.mpr ((rising.filter _).imp fun hlt => hlt.ne)
  · obtain ⟨lo, hi, deferred, window⟩ := shut x hx
    exact .shut lo hi deferred window

/-- The zone bank that a completion makes active, when the staged one was in order and QUEUED. -/
theorem inOrder_completedSet {s : State} (h : StagedInOrder .zone s) (hq : isQueued s .zone = true) :
    InOrder 1 (completedSet s).zone := by
  have queued : (s.tbs.staging.get .zone).state = .queued := by
    simpa using (List.mem_filter.mp (List.contains_iff_mem.mp hq)).2
  have set : (completedSet s).zone = s.tbs.staging.zone.bank.map (clampEntry s.tbs.auth.stagingLimit) := by
    have pick := prospective_get s .zone
    rw [if_pos queued] at pick
    exact congrArg (List.map (clampEntry s.tbs.auth.stagingLimit)) pick
  obtain ⟨rising, above⟩ := h
  rw [set]
  refine ⟨List.pairwise_map.mpr (rising.imp fun hlt => by rwa [clampEntry_index, clampEntry_index]), fun e he => ?_⟩
  obtain ⟨x, hx, rfl⟩ := List.mem_map.mp he
  rw [clampEntry_index]
  exact above x hx

theorem activate_auth (s : State) : (activate s).tbs.auth = s.tbs.auth ∧ (activate s).zmn = s.zmn ∧
    (activate s).time = s.time := by
  unfold activate
  generalize TableId.all = l
  refine foldl_kept (P := fun u => u.tbs.auth = s.tbs.auth ∧ u.zmn = s.zmn ∧ u.time = s.time) _ (fun u i hu => ?_) _
    ⟨rfl, rfl, rfl⟩
  exact ite_kept (P := fun u => u.tbs.auth = s.tbs.auth ∧ u.zmn = s.zmn ∧ u.time = s.time) hu hu

theorem ShutSound.activate {s : State} (h : ShutSound s) : ShutSound (activate s) := by
  have staged := h.2.2.activate
  obtain ⟨auth, zmn, time⟩ := activate_auth s
  generalize Machine.activate s = u at staged auth zmn time
  exact ⟨h.1.of_same zmn auth time.le, h.2.1.of_zmn zmn, staged⟩

theorem ShutSound.changeCommit {s : State} (h : ShutSound s) (x : CommitState) (f : Option Failure) :
    ShutSound (changeCommit x f s) := ⟨h.1.of_same rfl rfl le_rfl, h.2.1, h.2.2.changeCommit x f⟩

/-- The laws of a state in which no window stands, with TBS's records `b`. -/
def ShutOver (b : TableStore) (s : State) : Prop := ShutSound s ∧ s.tbs = b

theorem ofCore_shutOver (b : TableStore) : OfCore (ShutOver b) where
  same h same := by
    obtain ⟨-, -, -, -, tbs⟩ := core_eq_iff.mp same
    exact ⟨ofCore_shutSound.same h.1 same, tbs.trans h.2⟩

/-- The owners rebuild their records (R201); the zones only from a bank in order. -/
theorem ShutOver.rebuildOwners {b : TableStore} {q : TableId → Bool} {s : State} (h : ShutOver b s)
    (hb : q .zone = true → InOrder 1 b.active.zone) : ShutOver b (rebuildOwners q s) := by
  have core := ofCore_shutOver b
  unfold Machine.rebuildOwners
  refine whenState_kept (P := ShutOver b) _ _ (reissueOutstanding_kept core.links) _ ?_
  refine whenState_kept (P := ShutOver b) _ _ (callsLoopRebuilt_kept core.calls) _ ?_
  refine whenState_kept (P := ShutOver b) _ _ (callsCleared_kept core.calls) _ ?_
  refine whenState_kept (P := ShutOver b) _ _ (curtainsRebuild_kept core.curtains) _ ?_
  have zones (u : State) (hu : ShutOver b u) : ShutOver b (whenState (q .zone) zonesRebuild u) := by
    obtain ⟨shut, tbs⟩ := hu
    unfold whenState
    split
    next hq =>
      refine ⟨shut.rebuilt (by rw [tbs]; exact hb hq), ?_⟩
      rw [zonesRebuild, closeAllWhole_of_noWindow shut.2.1]
      exact tbs
    next => exact ⟨shut, tbs⟩
  refine zones _ ?_
  refine whenState_kept (P := ShutOver b) _ _ (debounceCommit_kept core.signal) _ ?_
  refine whenState_kept (P := ShutOver b) _ _ (houseRebuild_kept core.output) _ ?_
  refine whenState_kept (P := ShutOver b) _ _ (streamCommit_kept core.signal) _ ?_
  exact whenState_kept (P := ShutOver b) _ _ (loopRebuild_kept core.links) _ h

/-- A completion, with no window open (R201). -/
theorem ShutSound.complete {s : State} (h : ShutSound s) : ShutSound (complete s) := by
  have inOrder := inOrder_completedSet h.2.2
  have passed := h.activate.changeCommit .passed none
  have active : (Machine.changeCommit .passed none (Machine.activate s)).tbs.active = completedSet s := by
    rw [changeCommit_active, activate_active]
  unfold Machine.complete
  generalize Machine.changeCommit .passed none (Machine.activate s) = u at passed active
  exact (ShutOver.rebuildOwners ⟨passed, rfl⟩ fun hq => by rw [active]; exact inOrder hq).1

theorem not_act_of_safePoint {s : State} (h : safePoint s = true) : s.phc.phase ≠ .act := by
  simp only [safePoint, Bool.and_eq_true, bne_iff_ne] at h
  exact h.1.1.2

/-! ### What the phases and the alarm do when no window stands (R5, R84, R110, R116) -/

section
variable {s : State}

/-- With every used count 0, none is above 0 (R5, R190). -/
theorem usedOf_of_unused (h : s.zmn.used = List.replicate 64 0) (z : Nat) : usedOf s z = 0 := by
  rw [usedOf, h, List.getD_eq_getElem?_getD, List.getElem?_replicate]
  split
  · rfl
  · rfl

theorem ShutSound.enterPhase (h : ShutSound s) (new : Phase) : ShutSound (enterPhase new s) := by
  have core := ofCore_shutSound
  unfold Machine.enterPhase
  split
  · exact markIdle_kept core.signal _ h
  · refine curtainsPreshow_kept core.curtains _ ?_
    obtain ⟨sound, none, staged⟩ := h
    have unused : ∀ z, usedOf (budgetsPreshow s) z = 0 := usedOf_of_unused rfl
    refine ⟨⟨sound.once, fun r hr => ?_, fun z _ _ => by rw [unused]; exact Nat.zero_le _, fun _ z _ _ => unused z⟩,
      none, staged⟩
    obtain ⟨lo, hi, deferred, -⟩ := sound.each r hr
    exact ⟨lo, hi, deferred, fun w hw => absurd hw (by simp [none r hr])⟩
  · exact rebuildIfSending_kept core.output _ h
  all_goals exact h

/-- The latches are cleared (R84). -/
theorem ShutSound.clearLatches (h : ShutSound s) : ShutSound (clearLatches s) := by
  obtain ⟨sound, none, staged⟩ := h
  refine ⟨sound.map _ rfl rfl rfl le_rfl fun r hr hs => ?_, fun x hx => ?_, staged⟩
  · obtain ⟨lo, hi, deferred, -⟩ := hs
    exact ⟨rfl, lo, hi, deferred, fun w hw => by simp [none r hr] at hw⟩
  · obtain ⟨r, hr, rfl⟩ := List.mem_map.mp hx
    exact none r hr

theorem ShutSound.setAsc (h : ShutSound s) (x : Alarm) : ShutSound (s.setAsc x) := h.of_same rfl rfl rfl

theorem ShutSound.returnToNormal (h : ShutSound s) : ShutSound (returnToNormal s) :=
  markIdle_kept ofCore_shutSound.signal _ (h.setAsc _)
end

section
variable {s : State} (h : ZonesConsistent s)
include h

theorem ZonesConsistent.complete (hp : safePoint s = true) : ZonesConsistent (complete s) :=
  (h.shut fun x => not_act_of_safePoint hp x.1).complete.consistent

theorem ZonesConsistent.reexamine : ZonesConsistent (reexamine s) := by
  unfold Machine.reexamine
  split
  next due =>
    rw [Bool.and_eq_true] at due
    exact post_kept ofCore_zonesConsistent.posted _ _ _ _ (h.complete due.2)
  next => exact h

theorem ZonesConsistent.committed (p : List Byte) : ZonesConsistent (commitCmd p s).state := by
  have law := storeLaw_stagedInOrder .zone
  have noted : ZonesConsistent (noteTables s) := h.stored ⟨rfl, rfl, rfl, rfl, rfl⟩ h.staged.noteTables
  refine answer_ite_kept h (answer_ite_kept h (answer_ite_kept h ?_))
  unfold commitQueued
  split
  · have beside := keptByTables_beside (noteTables s)
    exact noted.stored (changeCommit_kept beside _ _ _ (reopenQueued_kept beside _ (.refl _)))
      (noted.staged.reopenQueued.changeCommit _ _)
  · split
    next hp => exact noted.complete hp
    next => exact noted.stored ⟨rfl, rfl, rfl, rfl, rfl⟩ (noted.staged.changeCommit _ _)

/-! ### The authority record (R204, R205) -/

/-- While the record is not locked no window stands and nothing is used, so any record may follow (R86). -/
theorem ZonesConsistent.setAuth (hl : s.tbs.auth.locked = false) (a : Authority) : ZonesConsistent (setAuth a s) := by
  have unused : ∀ z, 1 ≤ z → z ≤ 64 → usedOf (Machine.setAuth a s) z = 0 := h.sound.unspent hl
  have none : NoWindow s := fun r hr => by
    obtain ⟨-, -, -, window⟩ := h.sound.each r hr
    refine Option.eq_none_iff_forall_ne_some.mpr fun w hw => ?_
    obtain ⟨-, -, locked, -⟩ := window w hw
    exact absurd (locked.symm.trans hl) (by decide)
  refine ShutSound.consistent ⟨⟨h.sound.once, fun r hr => ?_, fun z lo hi => ?_, fun _ => unused⟩, none, h.staged⟩
  · obtain ⟨lo, hi, deferred, -⟩ := h.sound.each r hr
    exact ⟨lo, hi, deferred, fun w hw => by simp [none r hr] at hw⟩
  · rw [unused z lo hi]
    exact Nat.zero_le _

theorem ZonesConsistent.setAuthorityCmd (p : List Byte) : ZonesConsistent (setAuthorityCmd p s).state := by
  unfold Machine.setAuthorityCmd
  split
  · exact h
  next hl =>
    split
    · exact h
    · exact h.setAuth (Bool.eq_false_iff.mpr hl) _

theorem ZonesConsistent.lockAuthorityCmd (p : List Byte) : ZonesConsistent (lockAuthorityCmd p s).state := by
  unfold Machine.lockAuthorityCmd
  split
  · exact h
  · split
    · exact h
    next hl => exact post_kept ofCore_zonesConsistent.posted _ _ _ _ (h.setAuth (Bool.eq_false_iff.mpr hl) _)

/-! ### The phases (R4, R5, R12, R95) -/

/-- After the exit effects no window stands: those of ACT are closed, and elsewhere there is none (R12, R95). -/
theorem ZonesConsistent.exited (x : ShowRecord) : ShutSound (exitPhase s.phc.phase (s.setPhc x)) := by
  have sound : ZonesSound (s.setPhc x) := h.sound.of_same rfl rfl le_rfl
  have staged : StagedInOrder .zone (s.setPhc x) := h.staged
  refine ⟨?_, ?_, (storeLaw_stagedInOrder .zone).exitPhase staged _⟩
  · unfold exitPhase
    split
    · exact foldl_kept (P := ZonesSound) _ (fun _ z hu => hu.closeWindow z) _ sound
    · exact clearSchedule_kept ofCore_zonesSound.calls _ sound
    all_goals exact sound
  · cases hp : s.phc.phase with
    | act => exact (closeAllWindows_shuts (s := s.setPhc x) sound.once).all_shut
    | _ => exact h.noWindow fun act => by simp [hp] at act

theorem ZonesConsistent.transition (new : Phase) (minutes : Option Nat) : ZonesConsistent (transition new minutes s) := by
  have core := ofCore_zonesConsistent
  have entered := ((h.exited (enteredRecord s new minutes)).enterPhase new).consistent.reexamine
  have filled := fillPhase_kept core.calls new _ entered
  exact ite_kept (core.posted (core.posted filled)) (core.posted filled)

theorem ZonesConsistent.setPhaseAt (code : Nat) (minutes : Option Nat) :
    ZonesConsistent (setPhaseAt code minutes s).state := by
  unfold Machine.setPhaseAt
  split
  · exact h
  · exact answer_ite_kept h (answer_ite_kept h (answer_ite_kept h (answer_ite_kept h (h.transition _ _))))

/-! ### The alarm (R108 to R112, R116) -/

theorem ZonesConsistent.freed : ZonesConsistent (freed s) := select_kept ofCore_zonesConsistent.calls _ h.reexamine

theorem ZonesConsistent.alarmAckCmd (p : List Byte) : ZonesConsistent (alarmAckCmd p s).state := by
  unfold Machine.alarmAckCmd
  split
  · exact h
  · split
    · exact post_kept ofCore_zonesConsistent.posted _ _ _ _ (h.noteAlarm _ rfl)
    · exact h

theorem ZonesConsistent.alarmFalseCmd (p : List Byte) : ZonesConsistent (alarmFalseCmd p s).state := by
  refine answer_ite_kept h ?_
  split
  next stage =>
    refine answer_ite_kept h ?_
    have shut : ShutSound s := h.shut fun x => by simp [stage] at x
    have dismissed : ShutSound (removeDetection (clearLatches s)) :=
      removeDetection_kept ofCore_shutSound.calls _ shut.clearLatches
    exact ZonesConsistent.freed (ShutSound.returnToNormal (ofCore_shutSound.posted (dismissed.setAsc _))).consistent
  next => exact h

theorem ZonesConsistent.alarmResetCmd (p : List Byte) : ZonesConsistent (alarmResetCmd p s).state := by
  have core := ofCore_shutSound
  refine answer_ite_kept h ?_
  split
  next stage =>
    refine answer_ite_kept h ?_
    have shut : ShutSound s := h.shut fun x => by simp [stage] at x
    have left : ShutSound (s.setPhc { s.phc with phase := .houseClear, start := s.time }) := shut.of_same rfl rfl rfl
    have forced : ShutSound (forceClear s) := core.posted (ite_kept (clearSchedule_kept core.calls _ left) left)
    have cleared := (houseAlarmReset_kept core.output _ forced).clearLatches
    exact ZonesConsistent.freed (ShutSound.consistent (channelAlarmReset_kept core.calls _
      (ShutSound.returnToNormal (core.posted (cleared.setAsc _)))))
  next => exact h

/-- A timer of INVESTIGATE brings EVACUATE, with no window open before or after (R109). -/
theorem ZonesConsistent.timedOut (hi : s.asc.stage = .investigate) (cause : Nat) :
    ZonesConsistent (enterEvacuate false cause none s).1 :=
  ShutSound.consistent (enterEvacuate_keptByCloses keptByCloses_shutSound _ _ _ _ (h.shut fun x => by simp [hi] at x))

theorem ZonesConsistent.ackExpire : ZonesConsistent (ackExpire s) := by
  unfold Machine.ackExpire
  split
  next due =>
    simp only [ackDue, Bool.and_eq_true, beq_iff_eq] at due
    exact h.timedOut due.1.1 _
  next => exact h

theorem ZonesConsistent.invExpire : ZonesConsistent (invExpire s) := by
  unfold Machine.invExpire
  split
  next due =>
    simp only [invDue, Bool.and_eq_true, beq_iff_eq] at due
    exact h.timedOut due.1.1 _
  next => exact h

theorem ZonesConsistent.offsetExpire (g : Nat) : ZonesConsistent (offsetExpire g s) := by
  refine ite_kept ?_ h
  unfold startGroup
  split
  · exact evacuateGroup_kept ofCore_zonesConsistent.calls _ _
      (postStarted_kept ofCore_zonesConsistent.links _ _ (h.noteAlarm _ rfl))
  all_goals exact h

/-! ### The restart, RESET and the time (R98, R190) -/

theorem ZonesConsistent.zonesRestart : ZonesConsistent (zonesRestart s) := by
  have closed : ZonesConsistent (closeAllWindows s) :=
    foldl_kept (P := ZonesConsistent) _ (fun _ z hu => hu.closeWindow z) _ h
  refine (zonesConsistent_iff _).mpr ⟨closed.sound.map _ rfl rfl rfl le_rfl fun r _ hs => ?_,
    closed.inAct.map _ rfl (fun _ _ => id) rfl rfl, closed.staged⟩
  obtain ⟨lo, hi, -, window⟩ := hs
  exact ⟨rfl, lo, hi, nofun, window⟩

theorem ZonesConsistent.loseZone (unit input : Nat) : ZonesConsistent (loseZone unit input s) := by
  unfold Machine.loseZone
  split
  · exact postCondition_kept ofCore_zonesConsistent.links _ _ _ _ (h.setCondition _ _)
  · exact h

/-- The timebase goes back to 0, before the end of any window. -/
theorem ZonesConsistent.resetRelease (n : Nat) : ZonesConsistent (resetRelease n s) :=
  ite_kept (post_kept ofCore_zonesConsistent.posted _ _ _ _ ((zonesConsistent_iff _).mpr
    ⟨h.sound.of_same rfl rfl (Nat.zero_le _), h.inAct, h.staged⟩)) h

/-- With nothing due, no window has come to its end (R91). -/
theorem ZonesConsistent.not_ended (hr : s.resetHeld = false) (hd : (dueCommands s).isEmpty = true) {r : Zone}
    (hz : r ∈ s.zmn.zones) {w : Window} (hw : r.window = some w) : s.time < w.finish := by
  have quiet : (zoneNumbers s).filter (windowDue s) = [] := by
    simp only [dueCommands, hr, Bool.false_eq_true, if_false, dueAlarm, List.isEmpty_iff, List.append_eq_nil_iff,
      List.map_eq_nil_iff] at hd
    exact hd.1.1.1.1.1.1.1.1
  have notDue := List.filter_eq_nil_iff.mp quiet r.number (List.mem_map_of_mem hz)
  simpa [windowDue, findZone_of_mem h.sound.once hz, hw] using notDue

/-- The time moves on only while no window has come to its end (R91). -/
theorem ZonesConsistent.idle : ZonesConsistent (idle s) := by
  unfold Machine.idle
  split
  · exact h
  next held =>
    split
    next quiet =>
      have notEnded {r : Zone} (hr : r ∈ s.zmn.zones) {w : Window} (hw : r.window = some w) : s.time + 1 ≤ w.finish :=
        h.not_ended (Bool.eq_false_iff.mpr held) quiet hr hw
      refine (zonesConsistent_iff _).mpr ⟨⟨h.sound.once, fun r hr => ?_, h.sound.within, h.sound.unspent⟩, h.inAct,
        h.staged⟩
      obtain ⟨lo, hi, deferred, window⟩ := h.sound.each r hr
      refine ⟨lo, hi, deferred, fun w hw => ?_⟩
      obtain ⟨kind, latch, locked, -, budget⟩ := window w hw
      exact ⟨kind, latch, locked, notEnded hr hw, budget⟩
    next => exact ofCore_zonesConsistent.same h rfl
end

/-- RESET leaves no zone record and no used count (R190). -/
theorem zonesConsistent_resetAssert (s : State) : ZonesConsistent (resetAssert s) := by
  have unused : ∀ z, usedOf (resetAssert s) z = 0 := usedOf_of_unused rfl
  exact ShutSound.consistent ⟨⟨.nil, nofun, fun z _ _ => by rw [unused]; exact Nat.zero_le _, fun _ z _ _ => unused z⟩,
    nofun, inOrder_nil _⟩

/-! ### The step -/

theorem coreLaw_zonesConsistent : CoreLaw ZonesConsistent where
  toOfCore := ofCore_zonesConsistent
  reexamined h := h.reexamine
  restarted h := h.stored (storeRestart_kept (keptByTables_beside _) _ (.refl _))
    ((storeLaw_stagedInOrder .zone).restarted h.staged)
  opened h := h.stored (stageOpenCmd_kept (keptByTables_beside _) _ _ (.refl _))
    ((storeLaw_stagedInOrder .zone).opened h.staged)
  written h := h.stored (stageWriteCmd_kept (keptByTables_beside _) _ _ (.refl _)) h.staged.written
  queued h := h.stored (stageQueueCmd_kept (keptByTables_beside _) _ _ (.refl _))
    ((storeLaw_stagedInOrder .zone).queued h.staged)
  committed h := h.committed _
  aborted h := h.stored (abortCommitCmd_kept (keptByTables_beside _) _ _ (.refl _))
    ((storeLaw_stagedInOrder .zone).aborted h.staged)
  authority h := h.setAuthorityCmd _
  locked h := h.lockAuthorityCmd _
  suppressed h := h.suppressAt _ _
  reported h := h.inputReport _ _ _
  lost h := h.loseZone _ _
  windowEnded h := ite_kept (h.closeWindow _) h
  zonesRestarted h := h.zonesRestart
  phaseSet h := h.setPhaseAt _ _
  acknowledged h := h.alarmAckCmd _
  dismissed h := h.alarmFalseCmd _
  reset h := h.alarmResetCmd _
  ackEnded h := h.ackExpire
  invEnded h := h.invExpire
  offsetEnded h := h.offsetExpire _
  asserted s := zonesConsistent_resetAssert s
  released h := h.resetRelease _
  idled h := h.idle

/-- Settles O56: each block's operations keep the zone laws (`coreLaw_zonesConsistent`): a window opens within the budget,
a close charges no more than the budget leaves, and no window outlasts ACT, NORMAL or its end. -/
theorem everyStepKeepsTheZoneLaws : Obligations.EveryStepKeepsTheZoneLaws :=
  fun _ _ hs he => coreLaw_zonesConsistent.step hs he

end Sys2Proof.Machine
end

section
/-! SUPPRESS (R85 to R89): the forms of its payload, the zones of its list, the checks of R86, and the two statements. -/

namespace Sys2Proof.Machine

/-! ### The payload (R85) -/

/-- A SUPPRESS whose count is that of its zones comes to its zones and its duration. -/
theorem suppressCmd_list (n hi lo : Byte) (zs : List Byte) (hn : zs.length = n.toNat) (s : State) :
    suppressCmd ([n] ++ zs ++ [hi, lo]) s = suppressAt (zs.map BitVec.toNat) (hi.toNat * 256 + lo.toNat) s := by
  have form : ([hi, lo, n] ++ zs).length = 3 + at1 ([hi, lo, n] ++ zs) 2 := by
    show zs.length + 1 + 1 + 1 = 3 + n.toNat
    omega
  rw [suppressCmd_eq_actionAnswer, actionAnswer, actionOf_suppress, if_pos form]
  rfl

theorem suppressCmd_badForm {n : Byte} {rest : List Byte} (h : rest.length ≠ n.toNat + 2) (s : State) :
    suppressCmd (n :: rest) s = ⟨s, .badArgument, []⟩ := by
  have form : ¬ (3 ≤ (n :: rest).length ∧ (n :: rest).length = 3 + at1 (n :: rest) 0) := fun x => h (by
    have len : rest.length + 1 = 3 + n.toNat := x.2
    omega)
  rw [suppressCmd, readSuppress, if_neg form]

theorem exec_suppress {p : List Byte} {s : State} {a : Answer} (hs : Ready s) (hp : p.length ≤ 200)
    (ha : suppressCmd p s = a) : exec (.suppress p) s = .next (buildReply 0x30 a) :=
  next_takeCommand (code := 0x30) (owner := suppressCmd) hs ha hp

theorem exec_suppress_list {s : State} (hs : Ready s) (zs : List Byte) (hi lo : Byte) (hl : zs.length ≤ 197) :
    exec (.suppress ([BitVec.ofNat 8 zs.length] ++ zs ++ [hi, lo])) s =
      .next (buildReply 0x30 (suppressAt (zs.map BitVec.toNat) (hi.toNat * 256 + lo.toNat) s)) := by
  refine exec_suppress hs (by simp; omega) (suppressCmd_list _ hi lo zs ?_ s)
  rw [BitVec.toNat_ofNat]
  omega

theorem exec_suppress_one {s : State} (hs : Ready s) (z hi lo : Byte) :
    exec (.suppress [1, z, hi, lo]) s =
      .next (buildReply 0x30 (suppressAt [z.toNat] (hi.toNat * 256 + lo.toNat) s)) :=
  exec_suppress_list hs [z] hi lo (by simp)

/-! ### The list of zones (R85) -/

/-- A list of 1 to 8 zones, each of which has a record. -/
def GoodList (s : State) (zs : List Nat) : Prop :=
  zs ≠ [] ∧ zs.length ≤ 8 ∧ ∀ z ∈ zs, 1 ≤ z ∧ z ≤ 64 ∧ (findZone s z).isSome = true

section
variable {s : State} {zs : List Nat} {d : Nat}

theorem suppressAt_badList (h : ¬ GoodList s zs) : suppressAt zs d s = ⟨s, .badArgument, []⟩ := by
  unfold suppressAt
  split
  · rfl
  next form =>
    split
    · rfl
    next found =>
      refine absurd ⟨?_, ?_, fun z hz => ?_⟩ h
      all_goals simp only [Bool.or_eq_true, not_or, List.isEmpty_iff, decide_eq_true_eq, Nat.not_lt, Bool.not_eq_true',
        Bool.not_eq_false, List.all_eq_true, within_iff] at form found
      · exact form.1.1
      · exact form.1.2
      · obtain ⟨lo, hi⟩ := form.2 z hz
        exact ⟨lo, hi, found z hz⟩

theorem suppressAt_goodList (h : GoodList s zs) : suppressAt zs d s = if d = 0 then
      ⟨(closeListed (dedupe zs) s).1, .done, encList (encOpt s.fresh 2 2 enc2) (closeListed (dedupe zs) s).2⟩
    else
      ⟨(suppressZones (dedupe zs) (min d 600) (decide (600 < d)) s).1,
        suppressResult ((suppressZones (dedupe zs) (min d 600) (decide (600 < d)) s).2.map (·.2)),
        encList outcomeBytes (suppressZones (dedupe zs) (min d 600) (decide (600 < d)) s).2⟩ := by
  obtain ⟨nonempty, short, each⟩ := h
  have form : ¬ (zs.isEmpty || decide (8 < zs.length) || !(zs.all (within 1 64))) = true := by
    simp only [Bool.or_eq_true, not_or, List.isEmpty_iff, decide_eq_true_eq, Nat.not_lt, Bool.not_eq_true',
      Bool.not_eq_false, List.all_eq_true, within_iff]
    exact ⟨⟨nonempty, short⟩, fun z hz => ⟨(each z hz).1, (each z hz).2.1⟩⟩
  have found : ¬ (!(zs.all fun z => (findZone s z).isSome)) = true := by
    simp only [Bool.not_eq_true', Bool.not_eq_false, List.all_eq_true]
    exact fun z hz => (each z hz).2.2
  rw [suppressAt, if_neg form, if_neg found]

theorem goodList_one {z : Nat} (hlo : 1 ≤ z) (hhi : z ≤ 64) {r : Zone} (hr : findZone s z = some r) : GoodList s [z] := by
  refine ⟨List.cons_ne_nil _ _, by simp, fun x hx => ?_⟩
  obtain rfl := List.mem_singleton.mp hx
  exact ⟨hlo, hhi, by rw [hr]; rfl⟩

theorem dedupe_of_nodup (h : zs.Nodup) : dedupe zs = zs := by
  induction zs with
  | nil => rfl
  | cons x rest ih =>
    obtain ⟨hx, hrest⟩ := List.nodup_cons.mp h
    have others : rest.filter (fun y => y != x) = rest :=
      List.filter_eq_self.mpr fun y hy => bne_iff_ne.mpr fun eq => hx (eq ▸ hy)
    rw [dedupe, ih hrest, others]

/-- Where a number is left out, its repetitions are too. -/
theorem filter_dedupe_insert (x : Nat) (l m : List Nat) :
    (dedupe (l ++ x :: m)).filter (fun y => y != x) = (dedupe (l ++ m)).filter (fun y => y != x) := by
  induction l with
  | nil => simp [dedupe]
  | cons y l ih =>
    simp only [List.cons_append, dedupe, List.filter_cons]
    rw [List.filter_comm, ih, List.filter_comm]

/-- A zone counts once, at its first place. -/
theorem dedupe_repeated {x : Nat} {l : List Nat} (h : x ∈ l) (m : List Nat) : dedupe (l ++ x :: m) = dedupe (l ++ m) := by
  induction l with
  | nil => cases h
  | cons y l ih =>
    simp only [List.cons_append, dedupe]
    rcases List.mem_cons.mp h with rfl | h
    · rw [filter_dedupe_insert]
    · rw [ih h]

theorem goodList_repeated {x : Nat} {l m : List Nat} (h : x ∈ l) (hl : l.length + m.length ≤ 7) :
    GoodList s (l ++ x :: m) ↔ GoodList s (l ++ m) := by
  have nonempty : l ≠ [] := List.ne_nil_of_mem h
  constructor
  · rintro ⟨-, -, each⟩
    refine ⟨by simp [nonempty], by simp; omega, fun z hz => each z ?_⟩
    rcases List.mem_append.mp hz with hz | hz
    · exact List.mem_append_left _ hz
    · exact List.mem_append_right _ (List.mem_cons_of_mem _ hz)
  · rintro ⟨-, -, each⟩
    refine ⟨by simp, by simp; omega, fun z hz => each z ?_⟩
    rcases List.mem_append.mp hz with hz | hz
    · exact List.mem_append_left _ hz
    · rcases List.mem_cons.mp hz with rfl | hz
      · exact List.mem_append_left _ h
      · exact List.mem_append_right _ hz

theorem suppressAt_repeated {x : Nat} {l m : List Nat} (h : x ∈ l) (hl : l.length + m.length ≤ 7) :
    suppressAt (l ++ x :: m) d s = suppressAt (l ++ m) d s := by
  by_cases good : GoodList s (l ++ m)
  · rw [suppressAt_goodList good, suppressAt_goodList ((goodList_repeated h hl).mpr good), dedupe_repeated h]
  · rw [suppressAt_badList good, suppressAt_badList fun x => good ((goodList_repeated h hl).mp x)]
end

/-! ### One zone (R86 to R88) -/

section
variable {s : State} {z asked : Nat} {r : Zone} (hlo : 1 ≤ z) (hhi : z ≤ 64) (hr : findZone s z = some r)
  (hd : 1 ≤ asked)
include hlo hhi hr hd

theorem suppressAt_one : suppressAt [z] asked s =
    ⟨(suppressZone z (min asked 600) (decide (600 < asked)) s).1,
      suppressResult [(suppressZone z (min asked 600) (decide (600 < asked)) s).2],
      [1] ++ outcomeBytes (z, (suppressZone z (min asked 600) (decide (600 < asked)) s).2)⟩ := by
  rw [suppressAt_goodList (goodList_one hlo hhi hr), if_neg (by omega), dedupe_of_nodup (List.nodup_singleton z)]
  simp only [suppressZones, List.foldl_cons, List.foldl_nil, List.nil_append, List.map_cons, List.map_nil, encList,
    List.flatten_cons, List.flatten_nil, List.append_nil]
  rfl

/-- A zone that a check refuses changes nothing (R86, R89). -/
theorem suppressAt_one_refused {k : Nat} (hk : refusingCheck s r = some k) : suppressAt [z] asked s =
    ⟨s, .refusedState, [1, BitVec.ofNat 8 z, 3, BitVec.ofNat 8 k]⟩ := by
  have refused : suppressZone z (min asked 600) (decide (600 < asked)) s = (s, .refused k) := by
    simp only [suppressZone, hr, hk]
  rw [suppressAt_one hlo hhi hr hd, refused]
  rfl

/-- A zone that is taken: granted in full and with no clamped duration, DONE; otherwise CLAMPED (R87 to R89). -/
theorem suppressAt_one_taken {t : State} {finish : Nat} {full : Prop} [Decidable full]
    (ht : suppressZone z (min asked 600) (decide (600 < asked)) s =
      (t, if full then .full finish else .shortened finish)) : suppressAt [z] asked s =
    ⟨t, if full then .done else .clamped,
      [1, BitVec.ofNat 8 z, if full then 1 else 2] ++ enc4 (finish / 1000)⟩ := by
  rw [suppressAt_one hlo hhi hr hd, ht]
  split
  · rfl
  · rfl
end

/-- The outcome is FULL just when the end is the one asked for and the duration was not held to 600 s. -/
theorem outcomeAt_eq (wanted finish asked : Nat) : outcomeAt wanted finish (decide (600 < asked)) =
    if finish = wanted ∧ asked ≤ 600 then .full finish else .shortened finish :=
  if_congr (and_congr_right' (by rw [decide_eq_false_iff_not, Nat.not_lt])) rfl rfl

theorem outcomeAt_length (now wanted len asked : Nat) :
    outcomeAt (now + wanted) (now + len) (decide (600 < asked)) =
      if len = wanted ∧ asked ≤ 600 then .full (now + len) else .shortened (now + len) :=
  (outcomeAt_eq ..).trans (if_congr (and_congr_left' Nat.add_left_cancel_iff) rfl rfl)

theorem suppressZone_opens {s : State} {z d : Nat} {clamped : Bool} {r : Zone} (hr : findZone s z = some r)
    (hc : refusingCheck s r = none) (hw : r.window = none) : suppressZone z d clamped s =
      (openWindow r d s, outcomeAt (s.time + d * 1000) (s.time + grantedLength s r d) clamped) := by
  simp only [suppressZone, hr, hc, hw]

theorem suppressZone_extends {s : State} {z d : Nat} {clamped : Bool} {r : Zone} {w : Window}
    (hr : findZone s z = some r) (hc : refusingCheck s r = none) (hw : r.window = some w) : suppressZone z d clamped s =
      (extendWindow r w d s, if w.finish < candidateEnd s r w d then
        outcomeAt (s.time + d * 1000) (candidateEnd s r w d) clamped else .shortened w.finish) := by
  simp only [suppressZone, hr, hc, hw]

/-- Settles O23: a payload of another form, a list of other zones, and each check of R86 with those before it passed. -/
theorem suppressRefusesByTheFirstCheck : Obligations.SuppressRefusesByTheFirstCheck := by
  refine ⟨fun zs rest n hi lo s hs hzs hrest => ⟨fun bad => ?_, fun form => ?_, ?_⟩,
    fun z hi lo r s hs hlo hhi hd => ⟨fun none => ?_, fun hr => ?_⟩⟩
  · rw [exec_suppress_list hs zs hi lo hzs, suppressAt_badList]
    rintro ⟨nonempty, short, each⟩
    rw [List.length_map] at short
    rcases bad with rfl | long | ⟨z, hz, bad⟩
    · exact nonempty rfl
    · omega
    · obtain ⟨lo, hi, found⟩ := each z.toNat (List.mem_map_of_mem hz)
      rcases bad with rfl | high | none
      · exact absurd lo (by decide)
      · omega
      · rw [none] at found
        cases found
  · exact exec_suppress hs (by simp; omega) (suppressCmd_badForm form s)
  · exact exec_suppress hs (by simp) rfl
  · rw [exec_suppress_one hs, suppressAt_badList]
    rintro ⟨-, -, each⟩
    obtain ⟨-, -, found⟩ := each z.toNat (List.mem_singleton.mpr rfl)
    rw [none] at found
    cases found
  · have number : r.number = z.toNat := findZone_number hr
    have refused {k : Nat} (hk : refusingCheck s r = some k) : exec (.suppress [1, z, hi, lo]) s =
        .next (buildReply 0x30 ⟨s, .refusedState, [1, z, 3, BitVec.ofNat 8 k]⟩) := by
      rw [exec_suppress_one hs, suppressAt_one_refused hlo hhi hr hd hk, BitVec.ofNat_toNat, BitVec.setWidth_eq]
    have kinds : r.kind.unsuppressed = true ↔ r.kind = .heat ∨ r.kind = .manual ∨ r.kind = .sprinkler := by
      cases r.kind <;> decide
    have shut {k : ZoneKind} (h : k = .smoke ∨ k = .flame) := (ZoneKind.unsuppressed_eq_false_iff k).mpr h
    have spent := budgetLeft_eq_zero_iff s r
    rw [number] at spent
    refine ⟨fun unlocked => refused ?_, fun locked phase => refused ?_, fun locked act stage => refused ?_,
      fun locked act normal kind => refused ?_, fun locked act normal kind window => refused ?_,
      fun locked act normal kind window fire => refused ?_,
      fun locked act normal kind window fire latch budget => refused ?_⟩
    · simp [refusingCheck, unlocked]
    · simp [refusingCheck, locked, phase]
    · simp [refusingCheck, locked, act, stage]
    · simp [refusingCheck, locked, act, normal, kinds.mpr kind]
    · simp [refusingCheck, locked, act, normal, shut kind, number, window]
    · simp [refusingCheck, locked, act, normal, shut kind, number, window.ne', fire]
    · simp [refusingCheck, locked, act, normal, shut kind, number, window.ne', fire, latch, spent.mpr budget]

theorem eq_byte (z : Byte) : BitVec.ofNat 8 z.toNat = z := by
  rw [BitVec.ofNat_toNat, BitVec.setWidth_eq]

/-- The zones of a list are taken one after the other, each on what the one before it left. -/
theorem exec_suppress_distinct {s : State} (hs : Ready s) {zs : List Byte} (hi lo : Byte)
    (hpos : 1 ≤ zs.length) (hlen : zs.length ≤ 8) (hnodup : zs.Nodup)
    (each : ∀ z ∈ zs, 1 ≤ z.toNat ∧ z.toNat ≤ 64 ∧ (findZone s z.toNat).isSome = true)
    (hd : 1 ≤ hi.toNat * 256 + lo.toNat) {t : State} {os : List (Nat × SuppressOutcome)}
    (run : suppressZones (zs.map BitVec.toNat) (min (hi.toNat * 256 + lo.toNat) 600)
      (decide (600 < hi.toNat * 256 + lo.toNat)) s = (t, os)) :
    exec (.suppress ([BitVec.ofNat 8 zs.length] ++ zs ++ [hi, lo])) s = .next (buildReply 0x30
      ⟨t, suppressResult (os.map (·.2)), encList outcomeBytes os⟩) := by
  have nodup : (zs.map BitVec.toNat).Nodup := hnodup.map fun _ _ => BitVec.eq_of_toNat_eq
  have good : GoodList s (zs.map BitVec.toNat) :=
    ⟨List.map_eq_nil_iff.not.mpr (List.length_pos_iff.mp hpos), by rw [List.length_map]; exact hlen,
      List.forall_mem_map.mpr each⟩
  rw [exec_suppress_list hs zs hi lo (by omega), suppressAt_goodList good, if_neg (by omega), dedupe_of_nodup nodup, run]

theorem suppressZones_map (zs : List Byte) (d : Nat) (clamped : Bool) (s : State) :
    suppressZones (zs.map BitVec.toNat) d clamped s =
      zs.foldl (fun a z => ((suppressZone z.toNat d clamped a.1).1,
        a.2 ++ [(z.toNat, (suppressZone z.toNat d clamped a.1).2)])) (s, []) := by
  rw [suppressZones, List.foldl_map]

theorem suppressZones_length (zs : List Nat) (d : Nat) (clamped : Bool) (s : State) :
    (suppressZones zs d clamped s).2.length = zs.length := by
  have grown (zs : List Nat) (a : State × List (Nat × SuppressOutcome)) :
      (zs.foldl (fun acc z => ((suppressZone z d clamped acc.1).1,
        acc.2 ++ [(z, (suppressZone z d clamped acc.1).2)])) a).2.length = a.2.length + zs.length := by
    induction zs generalizing a with
    | nil => rfl
    | cons z rest ih =>
      rw [List.foldl_cons, ih, List.length_append, List.length_cons, List.length_cons, List.length_nil]
      omega
  rw [suppressZones, grown, List.length_nil, Nat.zero_add]

/-- Settles O22: one zone whose window is opened or extended, a list of different zones, and a list that repeats one. -/
theorem suppressOpensAndExtendsWindows : Obligations.SuppressOpensAndExtendsWindows := by
  refine ⟨fun z hi lo asked d len r s hs hlo hhi hr locked act normal kind fire latch window budget hasked hpos hd
      hlen => ?_, fun zs hi lo asked t os s hs hpos hlen hnodup each hasked hd run => ?_,
    fun a b z hi lo s hs hz hlen => ?_⟩
  · have number : r.number = z.toNat := findZone_number hr
    have passed : refusingCheck s r = none := (refusingCheck_none_iff s r).mpr
      ⟨locked, act, normal, kind, number ▸ window, ⟨fire, latch⟩, number ▸ budget⟩
    subst hd hasked
    refine ⟨fun hw => ?_, fun w cand hw hcand => ?_⟩
    · have granted : grantedLength s r (min (hi.toNat * 256 + lo.toNat) 600) = len := by
        rw [hlen, grantedLength, remainingBudget, hw, Nat.sub_zero, budgetLeft, number]
      have taken := suppressZone_opens (clamped := decide (600 < hi.toNat * 256 + lo.toNat)) hr passed hw
        (d := min (hi.toNat * 256 + lo.toNat) 600)
      rw [granted, outcomeAt_length] at taken
      rw [exec_suppress_one hs, suppressAt_one_taken hlo hhi hr hpos taken, eq_byte, openWindow, granted, number]
      rfl
    · have candidate : candidateEnd s r w (min (hi.toNat * 256 + lo.toNat) 600) = cand := by
        rw [hcand, candidateEnd, budgetLeft, number]
      have taken := suppressZone_extends (clamped := decide (600 < hi.toNat * 256 + lo.toNat)) hr passed hw
        (d := min (hi.toNat * 256 + lo.toNat) 600)
      rw [outcomeAt_eq, extendWindow, candidate, number] at taken
      refine ⟨fun later => ?_, fun early => ?_⟩
      · rw [if_pos later, if_pos later] at taken
        rw [exec_suppress_one hs, suppressAt_one_taken hlo hhi hr hpos taken, eq_byte]
        rfl
      · rw [if_neg (Nat.not_lt.mpr early), if_neg (Nat.not_lt.mpr early)] at taken
        rw [exec_suppress_one hs, suppressAt_one hlo hhi hr hpos, taken, outcomeBytes, enc1, eq_byte]
        rfl
  · subst hasked
    rw [← suppressZones_map] at run
    have count := suppressZones_length (zs.map BitVec.toNat) (min (hi.toNat * 256 + lo.toNat) 600)
      (decide (600 < hi.toNat * 256 + lo.toNat)) s
    rw [run, List.length_map] at count
    rw [exec_suppress_distinct hs hi lo hpos hlen hnodup each hd run, ← count, suppressResult, List.all_map, List.all_map,
      List.any_map]
    rfl
  · have same := suppressAt_repeated (s := s) (d := hi.toNat * 256 + lo.toNat) (m := b.map BitVec.toNat)
      (List.mem_map_of_mem (f := BitVec.toNat) hz) (by simpa using hlen)
    rw [← List.map_cons, ← List.map_append, ← List.map_append] at same
    have both := exec_suppress_list hs (a ++ z :: b) hi lo (by simp; omega)
    rw [same, ← exec_suppress_list hs (a ++ b) hi lo (by simp; omega)] at both
    have count : (a ++ z :: b).length = a.length + 1 + b.length := by simp; omega
    rw [count, List.length_append] at both
    simpa only [List.append_assoc] using both

end Sys2Proof.Machine
end

section
/-! The close of a window outside a change of stage (R93): by its end, by SUPPRESS with duration 0, and its charge. -/

namespace Sys2Proof.Machine

/-! ### The length granted and its charge (R87, R88, R93) -/

section
variable {s : State} {r : Zone}

theorem grantedLength_le_maxWindow (d : Nat) : grantedLength s r d ≤ maxWindowOf s r.number * 1000 :=
  (min_le_right _ _).trans (min_le_left _ _)

theorem candidateEnd_le_maxWindow (w : Window) (d : Nat) :
    candidateEnd s r w d ≤ w.start + maxWindowOf s r.number * 1000 :=
  (min_le_right _ _).trans (min_le_left _ _)

/-- A window that has run no longer than the budget left is charged no more than it. -/
theorem charge_within_budget {w : Window} {now : Nat} (hu : usedOf s r.number ≤ budgetOf s r.number)
    (h : now ≤ w.start + budgetLeft s r) : usedOf s r.number + chargeOf w now ≤ budgetOf s r.number := by
  unfold chargeOf
  unfold budgetLeft at h
  omega
end

/-! ### The whole close (R93) -/

/-- The reports of a close (R93): SUPPRESSION CLOSED with the charge, and BUDGET SPENT when the count equals the budget. -/
theorem closeReport_eq (z charge : Nat) (s : State) : closeReport z charge s =
    if usedOf s z = budgetOf s z then post .budgetSpent z none (post .suppressionClosed z (some charge) s)
    else post .suppressionClosed z (some charge) s :=
  if_congr (by simp only [usedOf, budgetOf, post_zmn, post_tbs]) rfl rfl

section
variable {z : Nat} {s : State} {r : Zone} {w : Window} (hr : findZone s z = some r) (hw : r.window = some w)
include hr hw

theorem closeWindow_of_window : closeWindow z s = closeReport z (chargeOf w s.time)
    (if latchesAtClose r then
      takeFire (fireOf r s) (latchZone r (s.windowRemoved z (chargeOf w s.time)))
    else s.windowRemoved z (chargeOf w s.time)) := by
  unfold closeWindow
  rw [closeBegin_of_window hr hw]
  split
  · rfl
  · rfl

theorem charge_of_window : (closeBegin z s).charge = some (chargeOf w s.time) := by
  rw [closeBegin_of_window hr hw]
  split
  · rfl
  · rfl

theorem windowDue_iff : windowDue s z = true ↔ w.finish ≤ s.time := by
  simp only [windowDue, hr, Option.bind_some, hw, Option.map_some, Option.getD_some, decide_eq_true_eq]

/-- SUPPRESS of one zone with a window and duration 0 closes it, with its charge (R90). -/
theorem suppressAt_closes (hlo : 1 ≤ z) (hhi : z ≤ 64) : suppressAt [z] 0 s =
    ⟨closeWindow z s, .done, [1] ++ enc2 (chargeOf w s.time)⟩ := by
  rw [suppressAt_goodList (goodList_one hlo hhi hr), if_pos rfl, dedupe_of_nodup (List.nodup_singleton z)]
  simp only [closeListed, List.foldl_cons, List.foldl_nil, List.nil_append, charge_of_window hr hw, encList, encOpt,
    List.map_cons, List.map_nil, List.flatten_cons, List.flatten_nil, List.append_nil]
  rfl
end

theorem latchesAtClose_iff (r : Zone) :
    latchesAtClose r = true ↔ r.condition = .fire ∨ (r.condition = .lost ∧ r.deferred = true) := by
  simp only [latchesAtClose, Bool.or_eq_true, Bool.and_eq_true, beq_iff_eq]

/-- Settles O24: the granted length and its charge, and the close at the window's end and by SUPPRESS with duration 0. -/
theorem windowsKeepTheBudgetAndAreCharged : Obligations.WindowsKeepTheBudgetAndAreCharged := by
  refine ⟨fun s r d now => ⟨fun hw hu _ hnow => ⟨grantedLength_le_maxWindow d, charge_within_budget hu ?_⟩,
    fun w hw hu _ hnow => ⟨candidateEnd_le_maxWindow w d, charge_within_budget hu ?_⟩⟩,
    fun z n charge r w s u v hn hr hw hcharge hu hv => ?_⟩
  · exact hnow.trans (Nat.add_le_add_left (grantedLength_le_budget s r d hw) _)
  · exact hnow.trans (candidateEnd_le_budget ..)
  · have number : r.number = n := findZone_number hr
    have charged : charge = chargeOf w s.time := hcharge
    have removed : u = s.windowRemoved n (chargeOf w s.time) := by rw [hu, charged]; rfl
    have closed : closeWindow n s = if usedOf v n = budgetOf v n then
          post .budgetSpent n none (post .suppressionClosed n (some charge) v)
        else post .suppressionClosed n (some charge) v := by
      have state : v = if latchesAtClose r then
          takeFire (fireOf r s) (latchZone r (s.windowRemoved n (chargeOf w s.time)))
        else s.windowRemoved n (chargeOf w s.time) := by
        rcases hv with ⟨notFire, notHeld, rfl⟩ | ⟨fire, rfl⟩
        · rw [if_neg (by rw [latchesAtClose_iff]; exact not_or.mpr ⟨notFire, notHeld⟩), removed]
        · rw [if_pos ((latchesAtClose_iff r).mpr fire), removed, fireOf, latchZone, number]
          rfl
      rw [closeWindow_of_window hr hw, ← state, closeReport_eq, charged]
    refine ⟨fun hs ended => ?_, fun hs early => ?_, fun hs hlo hhi => ?_⟩
    · rw [exec, execWindowEndExpiry, running_eq hs, windowExpire, if_pos ((windowDue_iff hr hw).mpr ended), closed]
    · rw [exec, execWindowEndExpiry, running_eq hs, windowExpire,
        if_neg ((windowDue_iff hr hw).not.mpr (Nat.not_le.mpr early))]
    · subst hn
      rw [exec_suppress_one hs, show (0 : Byte).toNat * 256 + (0 : Byte).toNat = 0 from rfl,
        suppressAt_closes hr hw hlo hhi, closed, charged]

end Sys2Proof.Machine
end

section
/-! The reports of a zone unit and its loss (R78 to R83, R92). -/

namespace Sys2Proof.Machine

/-- The condition of a report, by its value (R78). -/
theorem Condition.ofReport_eq (value : Nat) : Condition.ofReport value =
    if value = 1 then .normal else if value = 2 then .prealarm else if value = 3 then .fire
    else if value = 5 then .isolated else .fault := by
  unfold Condition.ofReport
  split
  all_goals simp_all

/-- The route of a fire, by the phase in force (R79). -/
theorem routeOf_eq (r : Zone) (p : Phase) : routeOf r p =
    if r.kind = .manual then .general
    else if (if p ∈ [Phase.houseOpen, .act, .interval] then r.present else r.absent) = .investigate then .investigate
    else .evacuate := by
  have audience : p.audience = true ↔ p ∈ [Phase.houseOpen, .act, .interval] := by cases p <;> decide
  simp only [routeOf, audience]
  split
  · rfl
  · cases (if p ∈ [Phase.houseOpen, .act, .interval] then r.present else r.absent) <;> rfl

/-- The condition of a report is taken: set, its event posted when it changed, and a pre-alarm noted (R78, R80, R81). -/
def conditionTaken (r : Zone) (c : Condition) (s : State) : State :=
  notePrealarm r.number r.condition c
    (postCondition r.number r.condition c (modZone r.number (fun z => { z with condition := c }) s))

section
variable (r : Zone) (s : State)

theorem conditionTaken_same {c : Condition} (h : r.condition = c) :
    conditionTaken r c s = modZone r.number (fun z => { z with condition := c }) s := by
  rw [conditionTaken, postCondition, if_pos h, notePrealarm, if_neg (fun x => x.2 (h.trans x.1))]

theorem conditionTaken_prealarm (h : r.condition ≠ .prealarm) : conditionTaken r .prealarm s =
    (post .zonePrealarm r.number (some r.condition.code)
      (modZone r.number (fun z => { z with condition := .prealarm }) s)).setAsc
        { s.asc with lastPre := some (r.number, s.time) } := by
  rw [conditionTaken, postCondition, if_neg h, notePrealarm, if_pos ⟨rfl, h⟩]
  simp only [conditionEvent, post_asc, post_time, modZone, State.setZmn_asc, State.setZmn_time]

theorem conditionTaken_of_ne_prealarm {c : Condition} (hc : c ≠ .prealarm) : conditionTaken r c s =
    postCondition r.number r.condition c (modZone r.number (fun z => { z with condition := c }) s) :=
  if_neg fun x => hc x.1

theorem postCondition_fire (z : Nat) (before : Condition) : postCondition z before .fire s = s := by
  unfold postCondition
  split
  · rfl
  · rfl

theorem notePrealarm_fire (z : Nat) (before : Condition) : notePrealarm z before .fire s = s :=
  if_neg fun h => nomatch h.1

theorem conditionTaken_fire :
    conditionTaken r .fire s = modZone r.number (fun z => { z with condition := .fire }) s := by
  rw [conditionTaken, postCondition_fire, notePrealarm_fire]

theorem zoneReport_of_fire {value : Nat} (h : Condition.ofReport value = .fire) :
    zoneReport r value s = reportFire r (modZone r.number (fun z => { z with condition := .fire }) s) := by
  simp only [zoneReport, h, if_true, postCondition_fire, notePrealarm_fire]

theorem zoneReport_of_not_fire {value : Nat} (h : Condition.ofReport value ≠ .fire) :
    zoneReport r value s = clearDeferred r (conditionTaken r (Condition.ofReport value) s) := by
  unfold zoneReport
  simp only [if_neg h]
  rfl
end

/-- Settles O25: the reports in the order of the inputs, and one report and one loss by the zone's record. -/
theorem zoneReportsAreTaken : Obligations.ZoneReportsAreTaken := by
  intro st s kind
  refine ⟨fun content => by rw [deliver, kind]; rfl, by rw [tellLoss, kind]; rfl, fun input value => ⟨fun free => ?_,
    fun r c route put v hr hc hroute hput hv => ?_⟩⟩
  · have none : zoneAt s st.address input = none := List.find?_eq_none.mpr fun r hr => by
      simpa only [Bool.and_eq_true, beq_iff_eq, not_and] using free r hr
    exact ⟨by rw [inputReport, none], by rw [loseZone, none]⟩
  · have found : zoneAt s st.address input = some r := hr
    have report : inputReport st.address input value s = zoneReport r value s := by rw [inputReport, found]
    have loss : loseZone st.address input s =
        postCondition r.number r.condition .lost (put (fun x => { x with condition := .lost }) s) := by
      rw [loseZone, found, hput]
      rfl
    obtain rfl : put = modZone r.number := funext fun f => funext fun t => hput f t
    rw [← Condition.ofReport_eq] at hc
    rw [← routeOf_eq] at hroute
    have reported : c ≠ .lost ∧ c ≠ .unknown := by
      rw [hc, Condition.ofReport_eq]
      split_ifs <;> decide
    have taken : v = conditionTaken r c s := by
      rw [hv]
      split
      next same => rw [conditionTaken_same r s same]
      next changed =>
        cases c
        case prealarm => exact (conditionTaken_prealarm r s changed).symm
        case normal =>
          rw [conditionTaken_of_ne_prealarm r s (by decide), postCondition, if_neg changed, conditionEvent]
          dsimp only
          split
          · rfl
          · rfl
        case lost => exact absurd rfl reported.1
        case unknown => exact absurd rfl reported.2
        all_goals rw [conditionTaken_of_ne_prealarm r s (by decide), postCondition, if_neg changed]; rfl
    subst hc
    have fireTaken (fire : Condition.ofReport value = .fire) :
        inputReport st.address input value s = reportFire r v ∧ v.phc = s.phc := by
      rw [report, zoneReport_of_fire r s fire, taken, fire, conditionTaken_fire]
      exact ⟨rfl, rfl⟩
    refine ⟨fun other clear => ?_, fun other held => ?_, fun fire shut latch => ?_, fun fire shut latch => ?_,
      fun fire window held => ?_, fun fire window clear => ?_, fun lost => ?_, fun present => ?_⟩
    · rw [report, zoneReport_of_not_fire r s other, ← taken, clearDeferred, clear]
      rfl
    · rw [report, zoneReport_of_not_fire r s other, ← taken, clearDeferred, held]
      rfl
    · rw [(fireTaken fire).1, reportFire, shut, latch]
      rfl
    · rw [(fireTaken fire).1, reportFire, shut, latch, fireOf, latchZone, (fireTaken fire).2, hroute]
      rfl
    · obtain ⟨w, hw⟩ := Option.isSome_iff_exists.mp window
      rw [(fireTaken fire).1, reportFire, hw, held]
      rfl
    · obtain ⟨w, hw⟩ := Option.isSome_iff_exists.mp window
      rw [(fireTaken fire).1, reportFire, hw, clear]
      rfl
    · rw [loss, postCondition, if_pos lost]
    · rw [loss, postCondition, if_neg present]
      rfl

end Sys2Proof.Machine
end

section
/-! States alike but for ZMN's records, the events and the control interface: what ASC, its readers and the warm restart
do apart from the closes of windows reads none of these, and so leaves such states alike. -/

namespace Sys2Proof.Machine

/-- The part with other records of ZMN, EVQ and CMI. -/
def State.withOther (z : Zones) (e : Events) (c : Control) (s : State) : State := ((s.setZmn z).setEvq e).setCmi c

/-- Two states that differ in the records of ZMN, EVQ and CMI alone. -/
def Alike (s t : State) : Prop := ∃ z e c, t = s.withOther z e c

namespace Alike

theorem refl (s : State) : Alike s s := ⟨s.zmn, s.evq, s.cmi, rfl⟩

section
variable {s t u : State} (h : Alike s t)
include h

theorem symm : Alike t s := by
  obtain ⟨z, e, c, rfl⟩ := h
  rcases s with ⟨⟩
  exact ⟨_, _, _, rfl⟩

theorem trans (g : Alike t u) : Alike s u := by
  obtain ⟨z, e, c, rfl⟩ := h
  obtain ⟨z', e', c', rfl⟩ := g
  exact ⟨z', e', c', rfl⟩

/-! ### What such states have in common -/

theorem time : t.time = s.time := by obtain ⟨z, e, c, rfl⟩ := h; rfl
theorem phc : t.phc = s.phc := by obtain ⟨z, e, c, rfl⟩ := h; rfl
theorem srx : t.srx = s.srx := by obtain ⟨z, e, c, rfl⟩ := h; rfl
theorem fbl : t.fbl = s.fbl := by obtain ⟨z, e, c, rfl⟩ := h; rfl
theorem hlu : t.hlu = s.hlu := by obtain ⟨z, e, c, rfl⟩ := h; rfl
theorem crg : t.crg = s.crg := by obtain ⟨z, e, c, rfl⟩ := h; rfl
theorem asc : t.asc = s.asc := by obtain ⟨z, e, c, rfl⟩ := h; rfl
theorem ctc : t.ctc = s.ctc := by obtain ⟨z, e, c, rfl⟩ := h; rfl
theorem clc : t.clc = s.clc := by obtain ⟨z, e, c, rfl⟩ := h; rfl
theorem lpc : t.lpc = s.lpc := by obtain ⟨z, e, c, rfl⟩ := h; rfl
theorem tbs : t.tbs = s.tbs := by obtain ⟨z, e, c, rfl⟩ := h; rfl

/-- With the same records of ZMN, they are the same but for EVQ and CMI. -/
theorem eq_of_zmn (hz : t.zmn = s.zmn) (e : Events) (c : Control) :
    (t.setEvq e).setCmi c = (s.setEvq e).setCmi c := by
  obtain ⟨z, e', c', rfl⟩ := h
  obtain rfl : z = s.zmn := hz
  rfl

/-! ### The replacement of a record, and an event -/

theorem setSrx (x : Stream) : Alike (s.setSrx x) (t.setSrx x) := by obtain ⟨z, e, c, rfl⟩ := h; exact ⟨z, e, c, rfl⟩
theorem setFbl (x : Builder) : Alike (s.setFbl x) (t.setFbl x) := by obtain ⟨z, e, c, rfl⟩ := h; exact ⟨z, e, c, rfl⟩
theorem setHlu (x : House) : Alike (s.setHlu x) (t.setHlu x) := by obtain ⟨z, e, c, rfl⟩ := h; exact ⟨z, e, c, rfl⟩
theorem setCrg (x : Debounce) : Alike (s.setCrg x) (t.setCrg x) := by obtain ⟨z, e, c, rfl⟩ := h; exact ⟨z, e, c, rfl⟩
theorem setAsc (x : Alarm) : Alike (s.setAsc x) (t.setAsc x) := by obtain ⟨z, e, c, rfl⟩ := h; exact ⟨z, e, c, rfl⟩
theorem setCtc (x : Curtains) : Alike (s.setCtc x) (t.setCtc x) := by obtain ⟨z, e, c, rfl⟩ := h; exact ⟨z, e, c, rfl⟩
theorem setClc (x : Calls) : Alike (s.setClc x) (t.setClc x) := by obtain ⟨z, e, c, rfl⟩ := h; exact ⟨z, e, c, rfl⟩
theorem setLpc (x : Loop) : Alike (s.setLpc x) (t.setLpc x) := by obtain ⟨z, e, c, rfl⟩ := h; exact ⟨z, e, c, rfl⟩
theorem setTbs (x : TableStore) : Alike (s.setTbs x) (t.setTbs x) := by obtain ⟨z, e, c, rfl⟩ := h; exact ⟨z, e, c, rfl⟩
end

theorem of_post (e : Event) (i : Nat) (a : Option Nat) (s : State) : Alike s (post e i a s) := by
  unfold Machine.post postAt postRecord evaluateAttention
  split
  · exact ⟨_, _, _, rfl⟩
  · exact ⟨_, _, _, rfl⟩

section
variable {s t : State} (h : Alike s t)
include h

theorem post (e : Event) (i : Nat) (a : Option Nat) : Alike (post e i a s) (post e i a t) :=
  (of_post e i a s).symm.trans (h.trans (of_post e i a t))
end

theorem ite {p : Prop} [Decidable p] {a b a' b' : State} (ha : Alike a a') (hb : Alike b b') :
    Alike (if p then a else b) (if p then a' else b') := by
  split
  · exact ha
  · exact hb

theorem foldl {α : Type} {f : State → α → State} (hf : ∀ {s t} x, Alike s t → Alike (f s x) (f t x)) (l : List α) :
    ∀ {s t}, Alike s t → Alike (l.foldl f s) (l.foldl f t) := by
  induction l with
  | nil => exact id
  | cons x rest ih => exact fun h => ih (hf x h)

section
variable {s t : State} (h : Alike s t)
include h

/-! ### LPC and CLC (chapters 8 and 9) -/

theorem issue (a : Nat) (c : LoopCmd) : Alike (issue a c s) (issue a c t) := by
  unfold Machine.issue
  rw [h.lpc]
  exact h.setLpc _

theorem unitIssue (c : LoopCmd) : Alike (unitIssue c s) (unitIssue c t) := by
  unfold Machine.unitIssue announcerAddress
  rw [h.clc, h.lpc]
  refine ite ?_ h
  split
  · exact h.issue _ _
  · exact h

theorem issueEvacPlay : Alike (issueEvacPlay s) (issueEvacPlay t) := by
  unfold Machine.issueEvacPlay messageKind
  rw [h.clc, h.tbs]
  split
  · exact ite (h.unitIssue _) h
  · exact h

theorem evacuateGroup (g : Nat) : Alike (evacuateGroup g s) (evacuateGroup g t) := by
  unfold Machine.evacuateGroup
  rw [h.clc, h.tbs]
  exact ite h (h.setClc _).issueEvacPlay

theorem startCall (c : Call) : Alike (startCall c s) (startCall c t) := by
  unfold Machine.startCall playOf messageKind
  rw [h.clc, h.tbs]
  exact ((h.setClc _).unitIssue _).post _ _ _

theorem grantPage (r : Request) : Alike (grantPage r s) (grantPage r t) := by
  unfold Machine.grantPage
  rw [h.clc, h.tbs, h.time, h.asc]
  exact (((h.setClc _).unitIssue _).issue _ _).post _ _ _

theorem startableHead : startableHead t = startableHead s := by
  obtain ⟨z, e, c, rfl⟩ := h
  rfl

theorem waitingHead : waitingHead t = waitingHead s := by
  obtain ⟨z, e, c, rfl⟩ := h
  rfl

theorem select : Alike (select s) (select t) := by
  unfold Machine.select
  rw [h.clc, h.startableHead, h.waitingHead]
  refine ite ?_ h
  split
  · exact h
  · exact h.startCall _
  · exact h.grantPage _
  · exact ite (h.grantPage _) (h.startCall _)

theorem placeCall (c : Call) : Alike (placeCall c s).state (placeCall c t).state ∧
    (placeCall c t).entry = (placeCall c s).entry := by
  unfold Machine.placeCall setQueue
  rw [h.clc]
  split
  · exact ⟨h.setClc _, rfl⟩
  · split
    · exact ⟨h.setClc _, rfl⟩
    · split
      · split
        · refine ⟨?_, rfl⟩
          rw [post_clc, post_clc, h.clc]
          exact (h.post _ _ _).setClc _
        · exact ⟨h, rfl⟩
      · exact ⟨h, rfl⟩

theorem placeAndSelect (c : Call) : Alike (placeAndSelect c s).state (placeAndSelect c t).state ∧
    (placeAndSelect c t).entry = (placeAndSelect c s).entry := by
  obtain ⟨states, entries⟩ := h.placeCall c
  unfold Machine.placeAndSelect
  dsimp only
  rw [entries]
  split
  · exact ⟨states.select, rfl⟩
  · exact ⟨states, entries⟩

theorem placeOrDrop (c : Call) : Alike (placeOrDrop c s) (placeOrDrop c t) := by
  obtain ⟨states, entries⟩ := h.placeAndSelect c
  unfold Machine.placeOrDrop
  dsimp only
  rw [entries]
  exact ite (h.post _ _ _) (ite states (states.post _ _ _))

theorem cutCall (why : CutReason) : Alike (cutCall why s) (cutCall why t) := by
  unfold Machine.cutCall
  rw [h.clc, (h.unitIssue _).clc]
  exact ite h ((h.unitIssue _).setClc _)

theorem staffCalled : Alike (staffCalled s) (staffCalled t) := by
  unfold Machine.staffCalled newCall callExpiryTime
  rw [h.tbs, h.time]
  split
  · exact ite h (h.placeOrDrop _)
  · exact h

theorem staffAlert : Alike (staffAlert s) (staffAlert t) := by
  rw [staffAlert_eq, staffAlert_eq]
  have called := h.staffCalled
  unfold cutBelowStaff
  rw [called.clc]
  split
  · split
    · exact called.cutCall _
    · exact called.cutCall _
    · exact called
    · exact called
  · exact called

theorem endPage (revoke : Bool) (e : Event) (arg : Nat → Nat) :
    Alike (endPage revoke e arg s) (endPage revoke e arg t) := by
  unfold Machine.endPage
  rw [h.clc]
  split
  · exact h
  next station cls _ =>
    have issued : Alike (if revoke then Machine.issue station .revoke (Machine.unitIssue .endPage s)
        else Machine.unitIssue .endPage s) (if revoke then Machine.issue station .revoke (Machine.unitIssue .endPage t)
        else Machine.unitIssue .endPage t) := ite ((h.unitIssue _).issue _ _) (h.unitIssue _)
    dsimp only
    rw [issued.clc, issued.asc]
    exact (issued.setClc _).post _ _ _

theorem seizeChannel : Alike (seizeChannel s) (seizeChannel t) := by
  unfold Machine.seizeChannel Machine.dropCurrent
  rw [h.clc]
  have begun := h.setClc { s.clc with evacZones := 0, evacRefused := false, cutTaken := false }
  dsimp only [State.setClc_clc]
  split
  · exact begun.setClc _
  · rw [(begun.unitIssue _).clc]
    split
    · exact (((begun.unitIssue _).setClc _).setClc _).post _ _ _
    · exact ((begun.unitIssue _).setClc _).setClc _
  · split
    · exact begun.setClc _
    · exact begun.endPage _ _ _
  · exact begun

theorem callsRestarted : t.callsRestarted = s.callsRestarted := by
  obtain ⟨z, e, c, rfl⟩ := h
  rfl

theorem callsRestart : Alike (callsRestart s) (callsRestart t) := by
  rw [callsRestart_eq, callsRestart_eq, h.callsRestarted]
  unfold revokeEvent
  rw [h.clc]
  cases s.clc.holder with
  | none => exact h.setClc _
  | some p => exact (h.post _ _ _).setClc _

/-! ### CTC (chapter 7) -/

theorem modCurtain (n : Nat) (f : Curtain → Curtain) : Alike (modCurtain n f s) (modCurtain n f t) := by
  unfold Machine.modCurtain
  rw [h.ctc]
  exact h.setCtc _

theorem findCurtain (n : Nat) : findCurtain t n = findCurtain s n := by
  unfold Machine.findCurtain
  rw [h.ctc]

theorem demoCurtain : demoCurtain t = demoCurtain s := by
  unfold Machine.demoCurtain
  rw [h.ctc]

theorem issueDrive (n : Nat) (cmd : DriveCmd) : Alike (issueDrive n cmd s) (issueDrive n cmd t) := by
  unfold Machine.issueDrive
  rw [h.findCurtain]
  split
  · exact h
  · exact ite h ((h.modCurtain _ _).issue _ _)

theorem yieldIfHeld (n : Nat) : Alike (yieldIfHeld n s) (yieldIfHeld n t) := by
  unfold Machine.yieldIfHeld
  rw [h.findCurtain]
  split
  · exact h
  · exact ite (h.issueDrive _ _) h

theorem segmentEnded (n : Nat) : Alike (segmentEnded n s) (segmentEnded n t) := by
  unfold Machine.segmentEnded
  rw [h.findCurtain]
  split
  · exact h
  · exact ite (ite ((h.modCurtain _ _).yieldIfHeld _) (h.modCurtain _ _)) h

theorem endSegmentIf (b : Curtain → Bool) : Alike (endSegmentIf b s) (endSegmentIf b t) := by
  unfold Machine.endSegmentIf
  rw [h.demoCurtain]
  split
  · exact ite ((h.modCurtain _ _).segmentEnded _) h
  · exact h

theorem abandonDemo (cause : Nat) : Alike (abandonDemo cause s) (abandonDemo cause t) := by
  unfold Machine.abandonDemo setDemo
  rw [h.demoCurtain, h.ctc]
  split
  · exact ite ((h.setCtc _).post _ _ _) h
  · exact h

theorem stopRaising (n : Nat) : Alike (stopRaising n s) (stopRaising n t) := by
  unfold Machine.stopRaising
  rw [h.findCurtain]
  split
  · exact ite (((h.issueDrive _ _).modCurtain _ _).segmentEnded _) (ite (h.issueDrive _ _) h)
  · exact h

theorem curtainsInvestigate : Alike (curtainsInvestigate s) (curtainsInvestigate t) := by
  rw [curtainsInvestigate_eq, curtainsInvestigate_eq, h.ctc]
  exact foldl (fun n g => g.stopRaising n) _ ((h.abandonDemo _).endSegmentIf _)

theorem evacuateCurtain (n : Nat) : Alike (evacuateCurtain n s) (evacuateCurtain n t) := by
  unfold Machine.evacuateCurtain
  rw [h.findCurtain]
  split
  · exact h
  · exact ite ((h.stopRaising _).modCurtain _ _) ((h.modCurtain _ _).issueDrive _ _)

theorem curtainsEvacuate : Alike (curtainsEvacuate s) (curtainsEvacuate t) := by
  rw [curtainsEvacuate_eq, curtainsEvacuate_eq, h.ctc]
  exact foldl (fun n g => g.evacuateCurtain n) _ ((h.abandonDemo _).endSegmentIf _)

theorem restartCurtain (n : Nat) : Alike (restartCurtain n s) (restartCurtain n t) := by
  unfold Machine.restartCurtain
  rw [h.findCurtain]
  split
  · exact h
  · exact ite ((h.modCurtain _ _).issueDrive _ _) (ite ((h.modCurtain _ _).issueDrive _ _) (h.modCurtain _ _))

theorem curtainsRestart : Alike (curtainsRestart s) (curtainsRestart t) := by
  unfold Machine.curtainsRestart
  rw [h.ctc]
  exact foldl (fun n g => g.restartCurtain n) _ (h.abandonDemo _)

/-! ### HLU, FBL, SRX and CRG (chapters 2 to 4) -/

theorem houseEvacuate : Alike (houseEvacuate s) (houseEvacuate t) := by
  unfold Machine.houseEvacuate mapCircuits
  rw [h.hlu, h.phc, h.time, h.tbs]
  exact h.setHlu _

theorem buildAndSend (cut : Bool) : Alike (buildAndSend cut s) (buildAndSend cut t) := by
  obtain ⟨z, e, c, rfl⟩ := h
  exact ⟨z, e, c, rfl⟩

theorem fblStart (cut : Bool) : Alike (fblStart cut s) (fblStart cut t) := by
  unfold Machine.fblStart
  rw [h.fbl]
  exact ite h ((h.setFbl _).buildAndSend _)

theorem sendingLevel : sendingLevel t = sendingLevel s := by
  unfold Machine.sendingLevel
  rw [h.fbl, h.time]

theorem sendingFrame : sendingFrame t = sendingFrame s := by
  unfold Machine.sendingFrame
  rw [h.fbl, h.time]

theorem breakPair : Alike (breakPair s) (breakPair t) := by
  unfold Machine.breakPair
  rw [h.crg]
  exact h.setCrg _

theorem streamLose : Alike (streamLose s) (streamLose t) := by
  unfold Machine.streamLose
  rw [h.srx]
  exact ((h.setSrx _).post _ _ _).breakPair

theorem streamTold (leaving : Bool) : Alike (streamTold leaving s) (streamTold leaving t) := by
  unfold Machine.streamTold streamAlarm rebuildIfSending
  rw [h.srx, h.fbl, h.sendingLevel]
  exact ite (ite ((h.setSrx _).streamLose.fblStart _) h) (ite (h.buildAndSend _) h)

theorem streamRestart : Alike (streamRestart s) (streamRestart t) := by
  unfold Machine.streamRestart
  rw [h.srx]
  exact (h.setSrx _).breakPair

theorem fblRestart : Alike (fblRestart s) (fblRestart t) := by
  unfold Machine.fblRestart
  rw [h.srx, h.fbl, h.sendingFrame]
  exact ite ((h.setFbl _).buildAndSend _) (h.setFbl _)

/-! ### The restart of the other blocks (R182, R191, R202) -/

theorem linkRestart : Alike (linkRestart s) (linkRestart t) := by
  obtain ⟨z, e, c, rfl⟩ := h
  exact ⟨z, _, _, rfl⟩

theorem loopRestart : Alike (loopRestart s) (loopRestart t) := by
  obtain ⟨z, e, c, rfl⟩ := h
  exact ⟨z, e, c, rfl⟩

theorem emptyStaging : Alike (emptyStaging s) (emptyStaging t) := by
  unfold Machine.emptyStaging
  rw [h.tbs]
  exact h.setTbs _

theorem abortPending : Alike (abortPending s) (abortPending t) := by
  unfold Machine.abortPending changeCommit
  have reopened : Alike (reopenQueued s) (reopenQueued t) := by
    refine foldl (fun i g => ?_) _ h
    unfold setStaging
    rw [g.tbs]
    exact ite (g.setTbs _) g
  rw [reopened.tbs, reopened.time]
  exact reopened.setTbs _

theorem storeRestart : Alike (storeRestart s) (storeRestart t) := by
  unfold Machine.storeRestart Machine.commitPending
  rw [h.tbs]
  exact ite ((h.abortPending.emptyStaging).post _ _ _) h.emptyStaging
end
end Alike

end Sys2Proof.Machine
end

section
/-! The close of every open window (R93, R94): the records and the charges that it leaves, and the fires held under the
windows, in the order of the records. -/

namespace Sys2Proof.Machine

/-- A record after the close of its window, if one stands (R93). -/
def Zone.closed (r : Zone) : Zone :=
  if r.window.isSome then { r with window := none, deferred := false, latch := r.latch || latchesAtClose r } else r

/-- The used counts after the close of the windows of some records at `now` (R93). -/
def chargedUsed (now : Nat) (zones : List Zone) (used : List Nat) : List Nat :=
  zones.foldl (fun a r => match r.window with
    | some w => a.set (r.number - 1) (a.getD (r.number - 1) 0 + (now - w.start + 999) / 1000)
    | none => a) used

/-- The fires held under the windows of some records, with the routes of a phase (R79, R93). -/
def heldFires (p : Phase) (zones : List Zone) : List Fire :=
  (zones.filter fun r => r.window.isSome && latchesAtClose r).map fun r => ⟨r.number, r.group, routeOf r p⟩

/-- The part with the window of a record closed, its count set and a held fire latched. -/
def Zone.shutIn (r : Zone) (count : Nat) (u : State) : State :=
  u.setZmn {
    zones := u.zmn.zones.map fun x => if x.number = r.number then
      { x with window := none, deferred := false, latch := x.latch || latchesAtClose r } else x
    used := u.zmn.used.set (r.number - 1) count }

/-- A part after the close of the window of a record, if one stands, at the instant, in the phase and with the budgets
of `s` (R93). -/
def Zone.closeIn (s : State) (u : State) (r : Zone) : State :=
  match r.window with
  | none => u
  | some w =>
    let charge := (s.time - w.start + 999) / 1000
    let count := u.zmn.used.getD (r.number - 1) 0 + charge
    (if count = s.tbs.auth.budget.getD (r.number - 1) 0 then post .budgetSpent r.number none else id)
      (post .suppressionClosed r.number (some charge)
        ((if latchesAtClose r then post .zoneFire r.number (some (routeOf r s.phc.phase).code) else id)
          (r.shutIn count u)))

theorem Zone.closed_of_no_window {r : Zone} (h : r.window = none) : r.closed = r := by
  rw [Zone.closed, h]
  rfl

theorem Zone.closed_window (r : Zone) : r.closed.window = none := by
  unfold Zone.closed
  split
  · rfl
  next h => exact Option.not_isSome_iff_eq_none.mp h

theorem Zone.closed_number (r : Zone) : r.closed.number = r.number := by
  unfold Zone.closed
  split <;> rfl

theorem chargedUsed_cons_shut {now : Nat} {r : Zone} {zones : List Zone} {used : List Nat} (h : r.window = none) :
    chargedUsed now (r :: zones) used = chargedUsed now zones used := by
  rw [chargedUsed, List.foldl_cons, h]
  rfl

theorem chargedUsed_cons_window {now : Nat} {r : Zone} {w : Window} {zones : List Zone} {used : List Nat}
    (h : r.window = some w) : chargedUsed now (r :: zones) used = chargedUsed now zones
      (used.set (r.number - 1) (used.getD (r.number - 1) 0 + chargeOf w now)) := by
  rw [chargedUsed, List.foldl_cons, h]
  rfl

theorem chargedUsed_append_shut {now : Nat} {a b : List Zone} {used : List Nat} (h : ∀ r ∈ a, r.window = none) :
    chargedUsed now (a ++ b) used = chargedUsed now b used := by
  induction a with
  | nil => rfl
  | cons r a ih =>
    rw [List.cons_append, chargedUsed_cons_shut (h r List.mem_cons_self), ih fun x hx => h x (List.mem_cons_of_mem _ hx)]

theorem heldFires_append_shut {p : Phase} {a b : List Zone} (h : ∀ r ∈ a, r.window = none) :
    heldFires p (a ++ b) = heldFires p b := by
  have none : a.filter (fun r => r.window.isSome && latchesAtClose r) = [] :=
    List.filter_eq_nil_iff.mpr fun r hr => by rw [h r hr]; exact Bool.false_ne_true
  rw [heldFires, List.filter_append, none]
  rfl

theorem heldFires_cons (p : Phase) (r : Zone) (zones : List Zone) : heldFires p (r :: zones) =
    (if r.window.isSome && latchesAtClose r then [⟨r.number, r.group, routeOf r p⟩] else []) ++ heldFires p zones := by
  rw [heldFires, List.filter_cons]
  split
  · rfl
  · rfl

/-- A change of the record of one number, where the numbers stand each once. -/
theorem map_at_number {a b : List Zone} {r : Zone} (h : ((a ++ r :: b).map (·.number)).Nodup) (f : Zone → Zone) :
    (a ++ r :: b).map (fun x => if x.number = r.number then f x else x) = a ++ f r :: b := by
  have other {x : Zone} (hx : x ∈ a ∨ x ∈ b) : x.number ≠ r.number := by
    rw [List.map_append, List.map_cons, List.nodup_middle] at h
    intro eq
    refine (List.nodup_cons.mp h).1 (eq ▸ ?_)
    rw [← List.map_append]
    exact List.mem_map_of_mem (List.mem_append.mpr hx)
  rw [List.map_append, List.map_cons, if_pos rfl]
  rw [List.map_congr_left fun x hx => if_neg (other (.inl hx)), List.map_congr_left fun x hx => if_neg (other (.inr hx)),
    List.map_id', List.map_id']

/-! ### One record -/

section
variable {s u : State} {r : Zone}

theorem Zone.closeIn_of_no_window (h : r.window = none) : r.closeIn s u = u := by
  rw [Zone.closeIn, h]

/-- Steps 1 to 3 of the close of one window, as one change of ZMN's records and the event of the latch. -/
theorem closeBegin_of_record {w : Window} (time : u.time = s.time) (phc : u.phc = s.phc) (hr : findZone u r.number = some r)
    (hw : r.window = some w) : closeBegin r.number u =
      ⟨(if latchesAtClose r then post .zoneFire r.number (some (routeOf r s.phc.phase).code) else id)
        (r.shutIn (usedOf u r.number + chargeOf w s.time) u),
        if latchesAtClose r then some ⟨r.number, r.group, routeOf r s.phc.phase⟩ else none,
        some (chargeOf w s.time)⟩ := by
  rw [closeBegin_of_window hr hw, fireOf, latchZone, time, State.windowRemoved, State.setZmn_phc, phc]
  cases latch : latchesAtClose r with
  | true =>
    have records : (fun x : Zone => if x.number = r.number then { x with latch := true } else x) ∘ Zone.shut r.number =
        fun x => if x.number = r.number then
          { x with window := none, deferred := false, latch := x.latch || latchesAtClose r } else x := by
      funext x
      simp only [Function.comp, Zone.shut, latch, Bool.or_true]
      split
      · rfl
      · rfl
    rw [Zone.shutIn, ← records, ← List.map_map]
    rfl
  | false =>
    have records : Zone.shut r.number = fun x => if x.number = r.number then
        { x with window := none, deferred := false, latch := x.latch || latchesAtClose r } else x := by
      funext x
      simp only [Zone.shut, latch, Bool.or_false]
    rw [Zone.shutIn, ← records]
    rfl

theorem closeReport_of_count {charge count : Nat} (z : Nat) (x : State) (hu : usedOf x z = count)
    (hb : budgetOf x z = s.tbs.auth.budget.getD (z - 1) 0) : closeReport z charge x =
      (if count = s.tbs.auth.budget.getD (z - 1) 0 then post .budgetSpent z none else id)
        (post .suppressionClosed z (some charge) x) := by
  rw [closeReport_eq, hu, hb]
  split
  · rfl
  · rfl

/-- An event, if one is posted, leaves ZMN's records. -/
theorem postIf_zmn (p : Prop) [Decidable p] (e : Event) (i : Nat) (a : Option Nat) (u : State) :
    ((if p then post e i a else id) u).zmn = u.zmn := by
  split
  · exact post_zmn e i a u
  · rfl

theorem Alike.postIf (p : Prop) [Decidable p] (e : Event) (i : Nat) (a : Option Nat) (u : State) :
    Alike u ((if p then Machine.post e i a else id) u) := by
  split
  · exact .of_post e i a u
  · exact .refl u

theorem usedOf_shutIn {count : Nat} (hlo : 1 ≤ r.number) (hhi : r.number ≤ u.zmn.used.length) :
    usedOf (r.shutIn count u) r.number = count := by
  rw [usedOf, Zone.shutIn, State.setZmn_zmn, List.getD_eq_getElem?_getD, List.getElem?_set_self (by omega)]
  rfl

theorem Alike.shutIn (r : Zone) (count : Nat) (u : State) : Alike u (r.shutIn count u) :=
  ⟨(r.shutIn count u).zmn, u.evq, u.cmi, rfl⟩

/-- The close of one window, with the fire held under it. -/
theorem closeWhole_of_window {w : Window} (h : Alike s u) (hr : findZone u r.number = some r) (hw : r.window = some w)
    (hlo : 1 ≤ r.number) (hhi : r.number ≤ u.zmn.used.length) : closeWhole r.number u =
      (r.closeIn s u, if latchesAtClose r then some ⟨r.number, r.group, routeOf r s.phc.phase⟩ else none) := by
  rw [closeWhole, closeBegin_of_record h.time h.phc hr hw, Zone.closeIn, hw]
  dsimp only
  have latched := Alike.postIf (latchesAtClose r) .zoneFire r.number (some (routeOf r s.phc.phase).code)
    (r.shutIn (usedOf u r.number + chargeOf w s.time) u)
  rw [closeReport_of_count (s := s) (count := usedOf u r.number + chargeOf w s.time)]
  · rfl
  · rw [usedOf, postIf_zmn]
    exact usedOf_shutIn hlo hhi
  · rw [budgetOf, ((h.trans (.shutIn ..)).trans latched).tbs]

theorem Alike.closeIn (r : Zone) (u : State) : Alike u (r.closeIn s u) := by
  unfold Zone.closeIn
  split
  · exact .refl u
  · exact (((shutIn r _ u).trans (postIf ..)).trans (of_post ..)).trans (postIf ..)

theorem closeIn_zmn {w : Window} (hw : r.window = some w) : (r.closeIn s u).zmn =
    (r.shutIn (usedOf u r.number + chargeOf w s.time) u).zmn := by
  rw [Zone.closeIn, hw]
  dsimp only
  rw [postIf_zmn, post_zmn, postIf_zmn]
  rfl
end

/-! ### The records one after the other -/

/-- The windows of the records of `a` are closed, those of `b` not yet, at the instant and in the phase of `s`. -/
structure Closing (s : State) (a b : List Zone) (u : State) : Prop where
  time : u.time = s.time
  phc : u.phc = s.phc
  zones : u.zmn.zones = a ++ b
  nodup : ((a ++ b).map (·.number)).Nodup
  range : ∀ r ∈ a ++ b, 1 ≤ r.number ∧ r.number ≤ u.zmn.used.length
  shut : ∀ r ∈ a, r.window = none

section
variable {s u v : State} {a b : List Zone} {r : Zone}

theorem Closing.found (h : Closing s a (r :: b) u) : findZone u r.number = some r := by
  refine findZone_of_mem ?_ ?_
  · rw [zoneNumbers, h.zones]
    exact h.nodup
  · rw [h.zones]
    exact List.mem_append_right _ List.mem_cons_self

/-- The next record is closed. -/
theorem Closing.next (h : Closing s a (r :: b) u) (time : v.time = s.time) (phc : v.phc = s.phc)
    (hz : v.zmn = (r.closeIn s u).zmn) : Closing s (a ++ [r.closed]) b v := by
  have shut : ∀ x ∈ a ++ [r.closed], x.window = none := by
    intro x hx
    rcases List.mem_append.mp hx with hx | hx
    · exact h.shut x hx
    · rw [List.mem_singleton.mp hx]
      exact r.closed_window
  have zones : v.zmn.zones = a ++ r.closed :: b ∧ v.zmn.used.length = u.zmn.used.length := by
    cases hw : r.window with
    | none =>
      rw [hz, Zone.closeIn_of_no_window hw, Zone.closed_of_no_window hw]
      exact ⟨h.zones, rfl⟩
    | some w =>
      rw [hz, closeIn_zmn hw, Zone.shutIn, State.setZmn_zmn, h.zones, map_at_number h.nodup, Zone.closed, hw]
      exact ⟨rfl, List.length_set⟩
  have numbers : (a ++ [r.closed] ++ b).map (·.number) = (a ++ r :: b).map (·.number) := by
    simp only [List.map_append, List.map_cons, List.append_assoc, List.singleton_append, r.closed_number]
  refine ⟨time, phc, by rw [zones.1, List.append_assoc, List.singleton_append], numbers ▸ h.nodup, fun x hx => ?_, shut⟩
  obtain ⟨y, hy, eq⟩ := List.mem_map.mp (numbers ▸ List.mem_map_of_mem (f := Zone.number) hx)
  rw [zones.2, ← eq]
  exact h.range y hy

theorem chargedUsed_closeIn (l : List Zone) :
    chargedUsed s.time l (r.closeIn s u).zmn.used = chargedUsed s.time (r :: l) u.zmn.used := by
  cases hw : r.window with
  | none => rw [Zone.closeIn_of_no_window hw, chargedUsed_cons_shut hw]
  | some w =>
    rw [closeIn_zmn hw, chargedUsed_cons_window hw]
    rfl

/-- The close of the next record, with the fire held under its window. -/
theorem Closing.closeWhole (alike : Alike s u) (h : Closing s a (r :: b) u) : closeWhole r.number u = (r.closeIn s u,
    if r.window.isSome && latchesAtClose r then some ⟨r.number, r.group, routeOf r s.phc.phase⟩ else none) := by
  cases hw : r.window with
  | none =>
    rw [Machine.closeWhole, closeBegin_of_shut fun x hx => ?_, Zone.closeIn_of_no_window hw]
    · rfl
    · rw [h.found, Option.some.injEq] at hx
      rw [← hx, hw]
  | some w =>
    obtain ⟨lo, hi⟩ := h.range r (List.mem_append_right _ List.mem_cons_self)
    exact closeWhole_of_window alike h.found hw lo hi

/-- The close of the remaining records, with the fires held under their windows. -/
theorem Closing.closeAll (b : List Zone) : ∀ {a : List Zone} {u : State}, Alike s u → Closing s a b u → ∀ fires,
    (b.map (·.number)).foldl (fun (acc : State × List Fire) z =>
      ((Machine.closeWhole z acc.1).1, acc.2 ++ (Machine.closeWhole z acc.1).2.toList)) (u, fires) =
        (b.foldl (Zone.closeIn s) u, fires ++ heldFires s.phc.phase b) ∧
    Alike s (b.foldl (Zone.closeIn s) u) ∧
    (b.foldl (Zone.closeIn s) u).zmn = ⟨a ++ b.map Zone.closed, chargedUsed s.time b u.zmn.used⟩ := by
  induction b with
  | nil =>
    intro a u alike h fires
    refine ⟨by simp [heldFires], alike, ?_⟩
    rw [List.map_nil, ← h.zones]
    rfl
  | cons r b ih =>
    intro a u alike h fires
    have next := alike.trans (Alike.closeIn (s := s) r u)
    obtain ⟨closes, rest, records⟩ := ih next (h.next next.time next.phc rfl)
      (fires ++ (Machine.closeWhole r.number u).2.toList)
    refine ⟨?_, rest, ?_⟩
    · rw [List.map_cons, List.foldl_cons, List.foldl_cons, heldFires_cons, ← List.append_assoc]
      rw [h.closeWhole alike] at closes ⊢
      rw [closes]
      split
      · rfl
      · rfl
    · rw [List.foldl_cons, records, chargedUsed_closeIn, List.append_assoc]
      rfl
end

/-! ### All the records -/

/-- The records of ZMN when every window has been closed at `now` (R93). -/
def Zones.closedAt (now : Nat) (z : Zones) : Zones := ⟨z.zones.map Zone.closed, chargedUsed now z.zones z.used⟩

/-- Each zone number stands once, in the range of the used counts. -/
def Zones.Numbered (z : Zones) : Prop :=
  (z.zones.map (·.number)).Nodup ∧ ∀ r ∈ z.zones, 1 ≤ r.number ∧ r.number ≤ z.used.length

theorem closing_of_numbered {s : State} (h : s.zmn.Numbered) : Closing s [] s.zmn.zones s :=
  ⟨rfl, rfl, rfl, h.1, h.2, nofun⟩

/-- The close of every window: its states, its fires, and the records that it leaves (R94). -/
theorem closeAllWhole_eq {s : State} (h : s.zmn.Numbered) :
    closeAllWhole s = (s.zmn.zones.foldl (Zone.closeIn s) s, heldFires s.phc.phase s.zmn.zones) :=
  (Closing.closeAll _ (.refl s) (closing_of_numbered h) []).1

theorem closeAllWhole_alike {s : State} (h : s.zmn.Numbered) :
    Alike s (closeAllWhole s).1 ∧ (closeAllWhole s).1.zmn = s.zmn.closedAt s.time := by
  rw [closeAllWhole_eq h]
  exact (Closing.closeAll _ (.refl s) (closing_of_numbered h) []).2

theorem noWindow_closedAt {s : State} {now : Nat} {z : Zones} (h : s.zmn = z.closedAt now) : NoWindow s := by
  intro r hr
  rw [h] at hr
  obtain ⟨x, -, rfl⟩ := List.mem_map.mp hr
  exact x.closed_window
end Sys2Proof.Machine
end

section
/-! Fires taken while windows stand (R103 to R105, R114): the change of stage closes them, and the fires held under them
are taken in their turn. -/

namespace Sys2Proof.Machine

/-! ### ASC's records and groups, in states alike -/

namespace Alike
section
variable {s t : State} (h : Alike s t)
include h

theorem evacuatingGroups : evacuatingGroups t = evacuatingGroups s := by
  obtain ⟨z, e, c, rfl⟩ := h
  rfl

theorem evacuateRecord (general : Bool) (fireGroup : Option Nat) :
    Alike (evacuateRecord general fireGroup s) (evacuateRecord general fireGroup t) := by
  obtain ⟨z, e, c, rfl⟩ := h
  exact ⟨z, e, c, rfl⟩

theorem investigateRecord : Alike (investigateRecord s) (investigateRecord t) := by
  obtain ⟨z, e, c, rfl⟩ := h
  exact ⟨z, e, c, rfl⟩

theorem recordOrigin (f : Fire) : Alike (recordOrigin f s) (recordOrigin f t) := by
  obtain ⟨z, e, c, rfl⟩ := h
  exact ⟨z, e, c, rfl⟩

theorem postStarted (g : Nat) : Alike (postStarted g s) (postStarted g t) := by
  unfold Machine.postStarted
  rw [h.asc]
  split
  · exact h.post _ _ _
  · exact h

theorem evacuationEntered (general : Bool) (cause : Nat) (fireGroup : Option Nat) :
    Alike (evacuationEntered general cause fireGroup s) (evacuationEntered general cause fireGroup t) := by
  have record := h.evacuateRecord general fireGroup
  unfold Machine.evacuationEntered
  rw [record.evacuatingGroups, record.asc]
  exact foldl (fun g x => x.postStarted g) _ (record.post _ _ _)

theorem groupsTold (gs : List Nat) : Alike (groupsTold gs s) (groupsTold gs t) :=
  foldl (fun g x => x.evacuateGroup g) gs h

theorem startGroup (g : Nat) (cause : StartCause) : Alike (startGroup g cause s) (startGroup g cause t) := by
  unfold Machine.startGroup groupState setGroup
  rw [h.asc, h.time]
  split
  · exact ((h.setAsc _).postStarted _).evacuateGroup _
  · exact h
  · exact h

theorem fireInEvacuate (f : Fire) : Alike (fireInEvacuate f s) (fireInEvacuate f t) := by
  unfold Machine.fireInEvacuate
  rw [h.asc]
  split
  · exact h.startGroup _ _
  · exact h.startGroup _ _
  · exact ite h (foldl (fun g x => x.startGroup g _) _ ((h.setAsc _).post _ _ _))
end
end Alike

/-! ### What the readers keep -/

theorem ofCore_core (c : Nat × ShowRecord × Zones × Alarm × TableStore) : OfCore fun t => t.core = c :=
  ⟨fun h same => same.trans h⟩

theorem post_core (e : Event) (i : Nat) (a : Option Nat) (s : State) : (post e i a s).core = s.core :=
  (ofCore_core s.core).posted rfl

theorem streamTold_core (leaving : Bool) (s : State) : (streamTold leaving s).core = s.core :=
  streamTold_kept (ofCore_core s.core).signal _ _ rfl

theorem staffAlert_core (s : State) : (staffAlert s).core = s.core :=
  staffAlert_kept (ofCore_core s.core).calls _ rfl

theorem curtainsInvestigate_core (s : State) : (curtainsInvestigate s).core = s.core :=
  curtainsInvestigate_kept (ofCore_core s.core).curtains _ rfl

/-- The readers of an entry to EVACUATE that come before the windows: the house and the stream (R114). -/
def evacuateBegun (general : Bool) (cause : Nat) (fireGroup : Option Nat) (leaving : Bool) (s : State) : State :=
  streamTold leaving (houseEvacuate (evacuationEntered general cause fireGroup s))

/-- The readers of an entry to EVACUATE that come after the windows: the curtains and the channel (R114). -/
def evacuateEnded (s : State) : State := groupsTold (evacuatingGroups s) (seizeChannel (curtainsEvacuate s))

theorem evacuateBegun_core (general : Bool) (cause : Nat) (fireGroup : Option Nat) (leaving : Bool) (s : State) :
    (evacuateBegun general cause fireGroup leaving s).core = (evacuateRecord general fireGroup s).core :=
  (streamTold_core _ _).trans
    ((houseEvacuate_kept (ofCore_core _).output _ rfl).trans (core_of_sameCore (evacuationEntered_sameCore ..)))

theorem evacuateEnded_core (s : State) : (evacuateEnded s).core = s.core :=
  groupsTold_kept (ofCore_core s.core).calls _ _ (seizeChannel_kept (ofCore_core s.core).calls _
    (curtainsEvacuate_kept (ofCore_core s.core).curtains _ rfl))

theorem Alike.evacuateBegun {s t : State} (h : Alike s t) (general : Bool) (cause : Nat) (fireGroup : Option Nat)
    (leaving : Bool) :
    Alike (evacuateBegun general cause fireGroup leaving s) (evacuateBegun general cause fireGroup leaving t) :=
  (h.evacuationEntered general cause fireGroup).houseEvacuate.streamTold leaving

theorem Alike.evacuateEnded {s t : State} (h : Alike s t) : Alike (evacuateEnded s) (evacuateEnded t) := by
  unfold Machine.evacuateEnded
  rw [h.evacuatingGroups]
  exact h.curtainsEvacuate.seizeChannel.groupsTold _

theorem enterEvacuate_eq_ended (general : Bool) (cause : Nat) (fireGroup : Option Nat) {s : State} {leaving : Bool}
    (hl : (s.asc.stage == .normal) = leaving) (hasc : (windowsTold leaving
      (evacuateBegun general cause fireGroup leaving s)).1.asc = (evacuateBegun general cause fireGroup leaving s).asc) :
    enterEvacuate general cause fireGroup s =
      (evacuateEnded (windowsTold leaving (evacuateBegun general cause fireGroup leaving s)).1,
        (windowsTold leaving (evacuateBegun general cause fireGroup leaving s)).2) := by
  obtain ⟨-, -, -, asc, -⟩ := core_eq_iff.mp (evacuateBegun_core general cause fireGroup leaving s)
  have groups : evacuatingGroups (windowsTold leaving (evacuateBegun general cause fireGroup leaving s)).1 =
      evacuatingGroups (evacuateRecord general fireGroup s) := by
    unfold evacuatingGroups
    rw [hasc, asc]
  rw [evacuateEnded, groups]
  subst hl
  rfl

/-! ### The entries from NORMAL -/

/-- An entry that leaves NORMAL: the readers before the windows, the close of every window, the readers after it. -/
structure LeavesNormal (enter : State → State × List Fire) (before after : State → State) : Prop where
  told : ∀ {s : State}, s.asc.stage = .normal → (closeAllWhole (before s)).1.asc = (before s).asc →
    enter s = (after (closeAllWhole (before s)).1, (closeAllWhole (before s)).2)
  before_alike : ∀ {s t}, Alike s t → Alike (before s) (before t)
  after_alike : ∀ {s t}, Alike s t → Alike (after s) (after t)
  before_time : ∀ s, (before s).time = s.time
  before_phc : ∀ s, (before s).phc = s.phc
  before_zmn : ∀ s, (before s).zmn = s.zmn
  alarm : ∀ s, (before s).asc.stage ≠ .normal
  after_core : ∀ s, (after s).core = s.core

theorem leavesNormal_evacuate (f : Fire) (general : Bool) (cause : Nat) (fireGroup : Option Nat) :
    LeavesNormal (fun s => enterEvacuate general cause fireGroup (recordOrigin f s))
      (fun s => evacuateBegun general cause fireGroup true (recordOrigin f s)) evacuateEnded where
  told normal hasc := enterEvacuate_eq_ended general cause fireGroup (leaving := true) (by
    rw [show (recordOrigin f _).asc.stage = _ from normal]
    rfl) hasc
  before_alike h := (h.recordOrigin f).evacuateBegun _ _ _ _
  after_alike h := h.evacuateEnded
  before_time s := (core_eq_iff.mp (evacuateBegun_core ..)).1
  before_phc s := (core_eq_iff.mp (evacuateBegun_core ..)).2.1
  before_zmn s := (core_eq_iff.mp (evacuateBegun_core ..)).2.2.1
  alarm s := by
    rw [(core_eq_iff.mp (evacuateBegun_core ..)).2.2.2.1]
    exact nofun
  after_core := evacuateEnded_core

/-- The readers of an entry to INVESTIGATE that come before the windows: the call channel and the stream (R114). -/
def investigateBegun (f : Fire) (s : State) : State :=
  streamTold true (staffAlert (post .alarmInvestigate f.zone (some f.group) (investigateRecord (recordOrigin f s))))

theorem investigateBegun_core (f : Fire) (s : State) :
    (investigateBegun f s).core = (investigateRecord (recordOrigin f s)).core :=
  (streamTold_core _ _).trans ((staffAlert_core _).trans (post_core _ _ _ _))

theorem leavesNormal_investigate (f : Fire) : LeavesNormal (fun s => enterInvestigate (recordOrigin f s))
    (investigateBegun f) curtainsInvestigate where
  told _ _ := rfl
  before_alike h := (((h.recordOrigin f).investigateRecord.post _ _ _).staffAlert).streamTold _
  after_alike h := h.curtainsInvestigate
  before_time s := (core_eq_iff.mp (investigateBegun_core f s)).1
  before_phc s := (core_eq_iff.mp (investigateBegun_core f s)).2.1
  before_zmn s := (core_eq_iff.mp (investigateBegun_core f s)).2.2.1
  alarm s := by
    rw [(core_eq_iff.mp (investigateBegun_core f s)).2.2.2.1]
    exact nofun
  after_core := curtainsInvestigate_core

/-- A fire taken in NORMAL leaves it, by each of its routes (R103). -/
theorem fireInNormal_leavesNormal (f : Fire) : ∃ before after, LeavesNormal (fireInNormal f) before after := by
  unfold fireInNormal
  cases f.route with
  | investigate => exact ⟨_, _, leavesNormal_investigate f⟩
  | evacuate => exact ⟨_, _, leavesNormal_evacuate f ..⟩
  | general => exact ⟨_, _, leavesNormal_evacuate f ..⟩

section
variable {enter : State → State × List Fire} {before after : State → State} (h : LeavesNormal enter before after)
include h
variable {s : State}

/-- With no window open, the readers alone act. -/
theorem LeavesNormal.of_noWindow (normal : s.asc.stage = .normal) (hs : NoWindow s) :
    enter s = (after (before s), []) := by
  have none : closeAllWhole (before s) = (before s, []) := closeAllWhole_of_noWindow (hs.of_zmn (h.before_zmn s))
  rw [h.told normal (by rw [none]), none]

/-- With windows open, they are closed, and the fires held under them handed over; the readers act as with none. -/
theorem LeavesNormal.of_numbered (normal : s.asc.stage = .normal) (hs : s.zmn.Numbered) :
    (enter s).2 = heldFires s.phc.phase s.zmn.zones ∧ (enter s).1.zmn = s.zmn.closedAt s.time ∧
      Alike (after (before s)) (enter s).1 := by
  have numbered : (before s).zmn.Numbered := (h.before_zmn s).symm ▸ hs
  obtain ⟨alike, records⟩ := closeAllWhole_alike numbered
  rw [h.told normal alike.asc]
  refine ⟨?_, ?_, h.after_alike alike⟩
  · rw [closeAllWhole_eq numbered, h.before_phc, h.before_zmn]
  · rw [(core_eq_iff.mp (h.after_core _)).2.2.1, records, h.before_zmn, h.before_time]

theorem LeavesNormal.ends : (after (before s)).asc.stage ≠ .normal := by
  rw [(core_eq_iff.mp (h.after_core _)).2.2.2.1]
  exact h.alarm s
end

/-! ### Fires under the alarm (R104, R105) -/

/-- `t` stands at the instant, in the phase and with ZMN's records of `s`, and outside NORMAL. -/
structure Onward (s t : State) : Prop where
  time : t.time = s.time
  phc : t.phc = s.phc
  zmn : t.zmn = s.zmn
  alarm : t.asc.stage ≠ .normal

theorem ofCore_onward (s : State) : OfCore (Onward s) :=
  ⟨fun h same => by
    obtain ⟨time, phc, zmn, asc, -⟩ := core_eq_iff.mp same
    exact ⟨time.trans h.time, phc.trans h.phc, zmn.trans h.zmn, by rw [asc]; exact h.alarm⟩⟩

theorem Onward.startGroup {s t : State} (h : Onward s t) (g : Nat) (cause : StartCause) :
    Onward s (startGroup g cause t) := by
  unfold Machine.startGroup
  split
  · exact evacuateGroup_kept (ofCore_onward s).calls _ _ (postStarted_kept (ofCore_onward s).links _ _
      ⟨h.time, h.phc, h.zmn, h.alarm⟩)
  · exact h
  · exact h

section
variable {s : State} (hs : s.asc.stage ≠ .normal)
include hs

theorem enterEvacuate_of_alarm (general : Bool) (cause : Nat) (fireGroup : Option Nat) :
    (enterEvacuate general cause fireGroup s).1 = evacuateEnded (evacuateBegun general cause fireGroup false s) := by
  rw [enterEvacuate_eq_ended (leaving := false) _ _ _ (beq_eq_false_iff_ne.mpr hs) rfl]
  rfl

theorem fireUnderAlarm_onward (f : Fire) : Onward s (fireUnderAlarm f s) := by
  have here : Onward s s := ⟨rfl, rfl, rfl, hs⟩
  unfold fireUnderAlarm
  split
  · rw [enterEvacuate_of_alarm hs]
    exact (ofCore_onward s).same (s := evacuateRecord (f.route == .general) (some f.group) s)
      ⟨rfl, rfl, rfl, nofun⟩ ((evacuateEnded_core _).trans (evacuateBegun_core ..))
  · unfold fireInEvacuate
    split
    · exact here.startGroup _ _
    · exact here.startGroup _ _
    · split
      · exact here
      · exact foldl_kept _ (fun _ _ hx => hx.startGroup _ _) _
          ((ofCore_onward s).posted ⟨rfl, rfl, rfl, hs⟩)
  · exact here

theorem takeFire_of_alarm (f : Fire) : takeFire f s = fireUnderAlarm f s := by
  unfold takeFire
  split
  next normal => exact absurd normal hs
  · rfl
  · rfl

theorem Alike.fireUnderAlarm {t : State} (h : Alike s t) (f : Fire) :
    Alike (fireUnderAlarm f s) (fireUnderAlarm f t) := by
  have ht : t.asc.stage ≠ .normal := by rwa [h.asc]
  unfold Machine.fireUnderAlarm
  rw [enterEvacuate_of_alarm hs, enterEvacuate_of_alarm ht, h.asc]
  split
  · exact (h.evacuateBegun _ _ _ _).evacuateEnded
  · exact h.fireInEvacuate f
  · exact h
end

/-- Fires taken one after the other outside NORMAL, in states alike. -/
theorem foldl_fireUnderAlarm (fires : List Fire) : ∀ {s t : State}, s.asc.stage ≠ .normal → Alike s t →
    Onward s (fires.foldl (fun u f => fireUnderAlarm f u) s) ∧
    fires.foldl (fun u f => takeFire f u) t = fires.foldl (fun u f => fireUnderAlarm f u) t ∧
    Alike (fires.foldl (fun u f => fireUnderAlarm f u) s) (fires.foldl (fun u f => fireUnderAlarm f u) t) := by
  induction fires with
  | nil => exact fun hs h => ⟨⟨rfl, rfl, rfl, hs⟩, rfl, h⟩
  | cons f fires ih =>
    intro s t hs h
    have ht : t.asc.stage ≠ .normal := by rwa [h.asc]
    have taken := fireUnderAlarm_onward hs f
    obtain ⟨onward, same, alike⟩ := ih taken.alarm (Alike.fireUnderAlarm hs h f)
    refine ⟨⟨onward.time.trans taken.time, onward.phc.trans taken.phc, onward.zmn.trans taken.zmn, onward.alarm⟩, ?_, alike⟩
    rw [List.foldl_cons, takeFire_of_alarm ht, same]
    rfl

/-! ### A fire taken -/

/-- A fire taken in states alike without a window leaves them alike. -/
theorem Alike.takeFire {s t : State} (h : Alike s t) (hs : NoWindow s) (ht : NoWindow t) (f : Fire) :
    Alike (takeFire f s) (takeFire f t) := by
  by_cases normal : s.asc.stage = .normal
  · obtain ⟨before, after, leaves⟩ := fireInNormal_leavesNormal f
    have normal' : t.asc.stage = .normal := by rwa [h.asc]
    unfold Machine.takeFire
    rw [normal, normal']
    dsimp only
    rw [leaves.of_noWindow normal hs, leaves.of_noWindow normal' ht]
    exact leaves.after_alike (leaves.before_alike h)
  · rw [takeFire_of_alarm normal, takeFire_of_alarm (by rwa [h.asc])]
    exact Alike.fireUnderAlarm normal h f

/-- The taking of a fire with no window open leaves ZMN's records. -/
theorem takeFire_zmn {s : State} (hs : NoWindow s) (f : Fire) : (takeFire f s).zmn = s.zmn := by
  have kept : KeptByCloses fun t => NoWindow t ∧ t.zmn = s.zmn :=
    OfCore.closes ⟨fun h same => ⟨h.1.of_zmn (core_eq_iff.mp same).2.2.1, (core_eq_iff.mp same).2.2.1.trans h.2⟩⟩ id
      fun {z s} h => by rwa [h.1.closeBegin z]
  exact (takeFire_keptByCloses kept f s ⟨hs, rfl⟩).2

/-- The part with every window closed at its instant, and none of the fires held under them taken (R93). -/
def State.windowsShut (s : State) : State := s.setZmn (s.zmn.closedAt s.time)

/-- A fire taken in NORMAL with windows open: as with the windows closed, and then the fires held under them (R94). -/
theorem takeFire_closing {s : State} (normal : s.asc.stage = .normal) (hs : s.zmn.Numbered) (f : Fire) :
    (takeFire f s).zmn = s.zmn.closedAt s.time ∧
    Alike (takeFire f s) ((heldFires s.phc.phase s.zmn.zones).foldl (fun u g => takeFire g u)
      (takeFire f s.windowsShut)) := by
  obtain ⟨before, after, leaves⟩ := fireInNormal_leavesNormal f
  obtain ⟨fires, records, readers⟩ := leaves.of_numbered normal hs
  have alike : Alike s s.windowsShut := ⟨s.windowsShut.zmn, s.evq, s.cmi, rfl⟩
  have entered : takeFire f s.windowsShut = after (before s.windowsShut) := by
    unfold takeFire
    rw [show s.windowsShut.asc.stage = .normal from normal]
    dsimp only
    rw [leaves.of_noWindow (s := s.windowsShut) normal (noWindow_closedAt (now := s.time) (z := s.zmn) rfl)]
    rfl
  have taken : takeFire f s =
      (heldFires s.phc.phase s.zmn.zones).foldl (fun u g => fireUnderAlarm g u) (fireInNormal f s).1 := by
    unfold takeFire
    rw [normal]
    dsimp only
    rw [fires]
  have alarm : (fireInNormal f s).1.asc.stage ≠ .normal := by
    rw [readers.asc]
    exact leaves.ends
  have same := readers.symm.trans (leaves.after_alike (leaves.before_alike alike))
  obtain ⟨onward, each, ends⟩ := foldl_fireUnderAlarm (heldFires s.phc.phase s.zmn.zones) alarm same
  rw [taken, entered, each]
  exact ⟨onward.zmn.trans records, ends⟩

end Sys2Proof.Machine
end

section
/-! Windows open at a change of stage and at a warm restart (R79, R93, R94, R98, R114). -/

namespace Sys2Proof.Machine

/-! ### The closes of a warm restart (R98) -/

/-- Fires taken one after the other in states alike without a window. -/
theorem foldl_takeFire (fires : List Fire) : ∀ {s t : State}, NoWindow s → NoWindow t → Alike s t →
    Alike (fires.foldl (fun u f => takeFire f u) s) (fires.foldl (fun u f => takeFire f u) t) ∧
    (fires.foldl (fun u f => takeFire f u) t).zmn = t.zmn := by
  induction fires with
  | nil => exact fun _ _ h => ⟨h, rfl⟩
  | cons f fires ih =>
    intro s t hs ht h
    obtain ⟨alike, records⟩ := ih (hs.of_zmn (takeFire_zmn hs f)) (ht.of_zmn (takeFire_zmn ht f)) (h.takeFire hs ht f)
    exact ⟨alike, records.trans (takeFire_zmn ht f)⟩

theorem closeReport_alike (z charge : Nat) (s : State) : Alike s (closeReport z charge s) := by
  rw [closeReport_eq]
  split
  · exact (Alike.of_post ..).trans (.of_post ..)
  · exact .of_post ..

theorem closeReport_zmn (z charge : Nat) (s : State) : (closeReport z charge s).zmn = s.zmn := by
  rw [closeReport_eq]
  split
  · rw [post_zmn, post_zmn]
  · rw [post_zmn]

section
variable {s u v x : State} {a b : List Zone} {r : Zone}

/-- Steps 1 to 3 of the close of the next record's window. -/
theorem Closing.closeBegin {w : Window} (h : Closing s a (r :: b) u) (hw : r.window = some w) : ∃ x,
    closeBegin r.number u = ⟨x, if latchesAtClose r then some ⟨r.number, r.group, routeOf r s.phc.phase⟩ else none,
      some (chargeOf w s.time)⟩ ∧ Alike u x ∧ x.zmn = (r.closeIn s u).zmn :=
  ⟨_, closeBegin_of_record h.time h.phc h.found hw, (Alike.shutIn ..).trans (.postIf ..), by rw [postIf_zmn, closeIn_zmn hw]⟩

/-- The close of the next record in a change of the state: its window's close, with its fire taken at once. -/
theorem Closing.closeWindow (h : Closing s a (r :: b) u) (hw : r.window.isSome = true) :
    ∃ x charge, Alike u x ∧ x.zmn = (r.closeIn s u).zmn ∧ closeWindow r.number u = closeReport r.number charge
      (if latchesAtClose r then takeFire ⟨r.number, r.group, routeOf r s.phc.phase⟩ x else x) := by
  obtain ⟨w, hw⟩ := Option.isSome_iff_exists.mp hw
  obtain ⟨x, begun, alike, records⟩ := h.closeBegin hw
  refine ⟨x, chargeOf w s.time, alike, records, ?_⟩
  unfold Machine.closeWindow
  rw [begun]
  split
  · rfl
  · rfl

theorem Closing.closeWindow_shut (h : Closing s a (r :: b) u) (hw : r.window.isSome = false) :
    Machine.closeWindow r.number u = u := by
  unfold Machine.closeWindow
  rw [closeBegin_of_shut fun x hx => ?_]
  rw [h.found, Option.some.injEq] at hx
  rw [← hx]
  exact Option.not_isSome_iff_eq_none.mp (by rw [hw]; exact Bool.false_ne_true)

/-- When the remaining windows have been closed as well, none stands. -/
theorem Closing.noWindow (h : Closing s a b x) {used : List Nat} (hu : u.zmn = ⟨a ++ b.map Zone.closed, used⟩) :
    NoWindow u := by
  intro y hy
  rw [hu] at hy
  rcases List.mem_append.mp hy with hy | hy
  · exact h.shut y hy
  · obtain ⟨z, -, rfl⟩ := List.mem_map.mp hy
    exact z.closed_window

/-- The fire of a close takes the stage out of NORMAL: the remaining windows are closed with it. -/
theorem Closing.takeFire (h : Closing s a b x) (normal : x.asc.stage = .normal) (alike : Alike x v) (hv : NoWindow v)
    (f : Fire) : (takeFire f x).zmn = ⟨a ++ b.map Zone.closed, chargedUsed s.time b x.zmn.used⟩ ∧
      Alike (takeFire f x) ((heldFires s.phc.phase b).foldl (fun u g => Machine.takeFire g u) (Machine.takeFire f v)) := by
  have numbered : x.zmn.Numbered := by
    rw [Zones.Numbered, h.zones]
    exact ⟨h.nodup, h.range⟩
  obtain ⟨records, fires⟩ := takeFire_closing normal numbered f
  have shut : NoWindow x.windowsShut := noWindow_closedAt (now := x.time) (z := x.zmn) rfl
  have same : Alike x.windowsShut v := Alike.trans ⟨x.zmn, x.evq, x.cmi, rfl⟩ alike
  have taken := foldl_takeFire (heldFires s.phc.phase b) (shut.of_zmn (takeFire_zmn shut f)) (hv.of_zmn (takeFire_zmn hv f))
    (same.takeFire shut hv f)
  rw [h.zones, heldFires_append_shut h.shut, h.phc] at fires
  have kept : a.map Zone.closed = a := (List.map_congr_left fun y hy => Zone.closed_of_no_window (h.shut y hy)).trans
    (List.map_id' a)
  rw [Zones.closedAt, h.zones, List.map_append, kept, chargedUsed_append_shut h.shut, h.time] at records
  exact ⟨records, fires.trans taken.1⟩
end

/-- The close of the remaining records, each with its fire taken at once: as the fires taken with every window closed. -/
theorem Closing.closeWindows {s : State} (b : List Zone) : ∀ {a : List Zone} {u v : State}, Closing s a b u →
    Alike u v → NoWindow v →
    Alike ((b.map (·.number)).foldl (fun x z => Machine.closeWindow z x) u)
      ((heldFires s.phc.phase b).foldl (fun x f => Machine.takeFire f x) v) ∧
    ((b.map (·.number)).foldl (fun x z => Machine.closeWindow z x) u).zmn =
      ⟨a ++ b.map Zone.closed, chargedUsed s.time b u.zmn.used⟩ := by
  induction b with
  | nil =>
    intro a u v h alike _
    refine ⟨alike, ?_⟩
    rw [List.map_nil, List.map_nil, ← h.zones]
    rfl
  | cons r b ih =>
    intro a u v h alike hv
    rw [List.map_cons, List.foldl_cons, heldFires_cons, ← chargedUsed_closeIn, List.map_cons, List.append_cons a]
    cases hw : r.window.isSome with
    | false =>
      have records : u.zmn = (r.closeIn s u).zmn := by
        rw [Zone.closeIn_of_no_window (Option.not_isSome_iff_eq_none.mp (by rw [hw]; exact Bool.false_ne_true))]
      rw [h.closeWindow_shut hw, ← records]
      exact ih (h.next h.time h.phc records) alike hv
    | true =>
      obtain ⟨x, charge, begun, records, closes⟩ := h.closeWindow hw
      have next := h.next (begun.time.trans h.time) (begun.phc.trans h.phc) records
      have same := begun.symm.trans alike
      rw [closes, ← records]
      cases lit : latchesAtClose r with
      | false =>
        have reported := closeReport_alike r.number charge x
        have ends := ih (h.next (reported.time.trans next.time) (reported.phc.trans next.phc)
          ((closeReport_zmn _ _ _).trans records)) (reported.symm.trans same) hv
        rw [closeReport_zmn] at ends
        exact ends
      | true =>
        by_cases normal : x.asc.stage = .normal
        · obtain ⟨taken, fires⟩ := next.takeFire normal same hv ⟨r.number, r.group, routeOf r s.phc.phase⟩
          have reported := closeReport_alike r.number charge (Machine.takeFire ⟨r.number, r.group, routeOf r s.phc.phase⟩ x)
          have ends := (closeReport_zmn r.number charge _).trans taken
          have shut := next.noWindow ends
          rw [List.foldl_fixed' (fun z => closeWindow_of_no_window shut z)]
          exact ⟨reported.symm.trans fires, ends⟩
        · have onward := fireUnderAlarm_onward normal ⟨r.number, r.group, routeOf r s.phc.phase⟩
          have fired := Alike.fireUnderAlarm normal same ⟨r.number, r.group, routeOf r s.phc.phase⟩
          have after : v.asc.stage ≠ .normal := by rwa [same.asc]
          rw [← takeFire_of_alarm normal] at onward fired
          rw [← takeFire_of_alarm after] at fired
          have reported := closeReport_alike r.number charge (Machine.takeFire ⟨r.number, r.group, routeOf r s.phc.phase⟩ x)
          have ends := ih (h.next (reported.time.trans (onward.time.trans next.time))
            (reported.phc.trans (onward.phc.trans next.phc))
            ((closeReport_zmn _ _ _).trans (onward.zmn.trans records))) (reported.symm.trans fired)
            (hv.of_zmn (takeFire_zmn hv _))
          rw [closeReport_zmn, onward.zmn] at ends
          exact ends

/-! ### The warm restart (R98, R191) -/

theorem Alike.of_evaluateAttention (s : State) : Alike s (evaluateAttention s) := by
  unfold evaluateAttention
  split
  · exact ⟨s.zmn, { s.evq with line := true, armed := false }, s.cmi, rfl⟩
  · exact .refl s

/-- A warm restart by the line up to ZMN's part. -/
def restartBeforeZones (s : State) : State :=
  fblRestart (callsRestart (curtainsRestart (storeRestart (streamRestart (loopRestart
    (post .restarted 0 (some causeLine) (linkRestart s)))))))

theorem Alike.restartBeforeZones {s t : State} (h : Alike s t) :
    Alike (restartBeforeZones s) (restartBeforeZones t) :=
  ((h.linkRestart.post _ _ _).loopRestart.streamRestart.storeRestart.curtainsRestart.callsRestart).fblRestart

theorem restartBeforeZones_keeps (s : State) : (restartBeforeZones s).time = s.time ∧
    (restartBeforeZones s).phc = s.phc ∧ (restartBeforeZones s).zmn = s.zmn := by
  obtain ⟨x, hx⟩ : ∃ x, x = storeRestart (streamRestart (loopRestart (post .restarted 0 (some 1) (linkRestart s)))) :=
    ⟨_, rfl⟩
  have begun : RestartBegun s (linkRestart s) x := hx ▸ restartBegun s
  have later : (fblRestart (callsRestart (curtainsRestart x))).core = x.core :=
    fblRestart_kept (ofCore_core _).output _ (callsRestart_kept (ofCore_core _).calls _
      (curtainsRestart_kept (ofCore_core _).curtains _ rfl))
  obtain ⟨time, phc, zmn, -⟩ := core_eq_iff.mp later
  rw [show restartBeforeZones s = fblRestart (callsRestart (curtainsRestart x)) by rw [hx]; rfl]
  exact ⟨time.trans begun.time, phc.trans begun.phc, zmn.trans begun.zmn⟩

theorem exec_restartPulse_zones {s : State} (hs : Running s) (armed : s.restartArmed = true) :
    exec .restartPulse s =
      .next (evaluateAttention (zonesRestart (restartBeforeZones (s.setRestartArmed false)))) := by
  have held : s.resetHeld = false := hs
  rw [exec, execRestartPulse, restartPulse, if_pos armed, held, if_neg Bool.false_ne_true, warmRestart, restartBeforeZones]

/-- ZMN's records with every deferred-fire flag clear (R98). -/
def Zones.undeferred (z : Zones) : Zones := { z with zones := z.zones.map fun r => { r with deferred := false } }

theorem NoWindow.undeferred {s t : State} (h : NoWindow s) (ht : t.zmn = s.zmn.undeferred) : NoWindow t := by
  intro r hr
  rw [ht] at hr
  obtain ⟨x, hx, rfl⟩ := List.mem_map.mp hr
  exact h x hx

/-- A warm restart with windows open: as with the windows closed, and then the fires held under them (R98). -/
theorem zonesRestart_closing {x y : State} (hx : x.zmn.Numbered) (alike : Alike x y)
    (hy : y.zmn = x.zmn.closedAt x.time) : (zonesRestart x).zmn = (zonesRestart y).zmn ∧
      Alike (zonesRestart x) ((heldFires x.phc.phase x.zmn.zones).foldl (fun u g => takeFire g u) (zonesRestart y)) := by
  have shut : NoWindow y := noWindow_closedAt hy
  obtain ⟨fires, records⟩ := Closing.closeWindows _ (closing_of_numbered hx) alike shut
  have restarted : zonesRestart y = y.setZmn y.zmn.undeferred := zonesRestart_of_no_window shut
  have cleared : Alike y (zonesRestart y) := restarted ▸ ⟨y.zmn.undeferred, y.evq, y.cmi, rfl⟩
  have taken := foldl_takeFire (heldFires x.phc.phase x.zmn.zones) shut (shut.undeferred (restarted ▸ rfl)) cleared
  have closed : zonesRestart x = (closeAllWindows x).setZmn (closeAllWindows x).zmn.undeferred := rfl
  have ends : (closeAllWindows x).zmn = y.zmn := records.trans hy.symm
  refine ⟨by rw [closed, restarted, ends]; rfl, ?_⟩
  exact Alike.trans (closed ▸ Alike.symm ⟨(closeAllWindows x).zmn.undeferred, _, _, rfl⟩) (fires.trans taken.1)

/-- Settles O31: the closes of a stage change and of a warm restart, by what they leave alike, and the close of all
windows, record by record. -/
theorem openWindowsAreClosedAndTheirFiresTaken : Obligations.OpenWindowsAreClosedAndTheirFiresTaken := by
  intro s shut lit route fires bare hnodup hrange hlit hroute hfires hshut hbare
  have numbered : s.zmn.Numbered := ⟨hnodup, hrange⟩
  obtain rfl : lit = latchesAtClose := funext fun r => by
    rw [hlit, Bool.eq_iff_iff, decide_eq_true_eq, latchesAtClose_iff]
  obtain rfl : route = fun r => routeOf r s.phc.phase := funext fun r => (hroute r).trans (routeOf_eq r _).symm
  obtain rfl : fires = heldFires s.phc.phase s.zmn.zones := hfires
  obtain rfl : shut = s.windowsShut := hshut
  have closed : NoWindow s.windowsShut := noWindow_closedAt (now := s.time) (z := s.zmn) rfl
  refine ⟨fun f normal => ?_, fun hs armed => ?_, ?_⟩
  · obtain ⟨records, alike⟩ := takeFire_closing normal numbered f
    have taken := closed.of_zmn (takeFire_zmn closed f)
    have later := (foldl_takeFire (heldFires s.phc.phase s.zmn.zones) taken taken (.refl _)).2
    rw [hbare, hbare]
    exact (alike.eq_of_zmn (later.trans ((takeFire_zmn closed f).trans records.symm)) _ _).symm
  · obtain ⟨x, hx⟩ : ∃ x, x = restartBeforeZones (s.setRestartArmed false) := ⟨_, rfl⟩
    obtain ⟨y, hy⟩ : ∃ y, y = restartBeforeZones (s.windowsShut.setRestartArmed false) := ⟨_, rfl⟩
    obtain ⟨time, phc, zmn⟩ := restartBeforeZones_keeps (s.setRestartArmed false)
    obtain ⟨-, -, zmn'⟩ := restartBeforeZones_keeps (s.windowsShut.setRestartArmed false)
    rw [← hx] at time phc zmn
    rw [← hy] at zmn'
    have begun : Alike x y := by
      rw [hx, hy]
      exact Alike.restartBeforeZones ⟨s.zmn.closedAt s.time, s.evq, s.cmi, rfl⟩
    have shut : y.zmn = x.zmn.closedAt x.time := by rw [zmn', zmn, time]; rfl
    obtain ⟨records, alike⟩ := zonesRestart_closing (zmn ▸ numbered) begun shut
    rw [phc, zmn] at alike
    have cleared : NoWindow (zonesRestart y) := by
      have none := noWindow_closedAt shut
      exact none.undeferred (by rw [zonesRestart_of_no_window none]; rfl)
    have evaluated := Alike.of_evaluateAttention (zonesRestart y)
    have after : NoWindow (evaluateAttention (zonesRestart y)) := cleared.of_zmn (evaluateAttention_zmn _)
    obtain ⟨taken, later⟩ := foldl_takeFire (heldFires s.phc.phase s.zmn.zones) cleared after evaluated
    refine ⟨_, _, exec_restartPulse_zones hs armed, exec_restartPulse_zones (s := s.windowsShut) hs armed, ?_⟩
    rw [← hx, ← hy, hbare, hbare]
    refine ((((Alike.of_evaluateAttention _).symm.trans alike).trans taken).eq_of_zmn ?_ _ _).symm
    rw [later, evaluateAttention_zmn, evaluateAttention_zmn, records]
  · exact closeAllWhole_eq numbered

end Sys2Proof.Machine
end

section
/-! The alarm record through the operations of ASC (R103 to R105, R109 to R112, R116): the readers of the stage leave
it, an entry and a return to NORMAL make it, and the start of a group changes that group alone. -/

namespace Sys2Proof.Machine

/-! ### What the owners leave of the alarm record (R114) -/

/-- The operations of the other owners keep what is said of the alarm record alone. -/
theorem keptByOwners_of_asc {P : State → Prop} (same : ∀ {s t}, P s → t.asc = s.asc → P t) : KeptByOwners P where
  posted h := same h (postRecord_asc _ _)
  lpc h := same h rfl
  ctc h := same h rfl
  clc _ h := same h rfl
  place h := same h (sameCore_placeCall _ _).1.asc
  hlu h := same h rfl
  fbl h := same h rfl
  srx h := same h rfl
  crg h := same h rfl
  zmn h := same h rfl
  tbs _ h := same h rfl
  sticky h := same h rfl
  fresh h := same h rfl

theorem keptByOwners_asc (a : Alarm) : KeptByOwners fun t => t.asc = a :=
  keptByOwners_of_asc fun h same => same.trans h

/-! ### The entries (R107, R111) -/

theorem enterInvestigate_asc (s : State) : (enterInvestigate s).1.asc = (investigateRecord s).asc :=
  have kept := keptByOwners_asc (investigateRecord s).asc
  tellInvestigate_kept kept _ (staffAlert_kept kept.toKeptByCalls _ (post_asc _ _ _ _))

theorem enterEvacuate_asc (general : Bool) (cause : Nat) (fireGroup : Option Nat) (s : State) :
    (enterEvacuate general cause fireGroup s).1.asc = (evacuateRecord general fireGroup s).asc :=
  tellEvacuate_kept (keptByOwners_asc (evacuateRecord general fireGroup s).asc) _ _ _
    (evacuationEntered_sameCore general cause fireGroup s).asc

/-- The groups at the entry to a general evacuation (R111). -/
theorem entryGroups_general (s : State) (fireGroup : Option Nat) :
    (List.range 7).map (entryGroup s true fireGroup) = List.replicate 7 (.evacuating s.time .general) := rfl

/-- A group at the entry to a staged evacuation (R111). -/
theorem entryGroup_staged (s : State) (fireGroup : Option Nat) (g : Nat) : entryGroup s false fireGroup g =
    if g = 0 ∨ s.asc.group = some g ∨ fireGroup = some g ∨
        min (groupOffset s.tbs.active.zone g) s.tbs.auth.stagingLimit = 0 then .evacuating s.time .entry
    else .pending (s.time + min (groupOffset s.tbs.active.zone g) s.tbs.auth.stagingLimit * 1000) := by
  simp [entryGroup, startsAtEntry, offsetOf, or_assoc]

/-! ### The returns to NORMAL (R110, R116) -/

theorem falseDeclared_asc (s : State) : (falseDeclared s).asc = { s.asc with
    stage := .normal, stageStart := s.time, ackExpiry := none, invExpiry := none, invStep := none, zone := none
    group := none } := by
  simp [falseDeclared, returnToNormal, markIdle, removeDetection, setQueue, clearLatches]

theorem alarmCleared_asc (s : State) : (alarmCleared s).asc = { s.asc with
    stage := .normal, stageStart := s.time, groups := List.replicate 7 .clear, general := false, zone := none
    group := none, evacStart := none, showStop := false } := by
  simp [alarmCleared, returnToNormal, markIdle, clearedAlarm, clearLatches, houseAlarmReset, forceClear_eq]

/-! ### The start of a group (R112) -/

/-- A group's record after its start at `now`: a PENDING group is EVACUATING, any other is as it was (R112). -/
def GroupState.started (now : Nat) (cause : StartCause) : GroupState → GroupState
  | .pending _ => .evacuating now cause
  | .clear => .clear
  | .evacuating t c => .evacuating t c

theorem GroupState.started_of_not_pending {x : GroupState} (h : ∀ d, x ≠ .pending d) (now : Nat) (cause : StartCause) :
    x.started now cause = x := by
  cases x with
  | pending d => exact absurd rfl (h d)
  | clear => rfl
  | evacuating t c => rfl

theorem groupState_of_getElem? {s : State} {g : Nat} {x : GroupState} (h : s.asc.groups[g]? = some x) :
    groupState s g = x := by
  rw [groupState, List.getD_eq_getElem?_getD, h]
  rfl

section
variable {s : State} {g : Nat} (cause : StartCause)

theorem startGroup_of_pending {d : Nat} (h : s.asc.groups[g]? = some (.pending d)) : startGroup g cause s =
    evacuateGroup g (post .groupStarted g (some cause.code)
      (s.setAsc { s.asc with groups := s.asc.groups.set g (.evacuating s.time cause) })) := by
  have inside : g < s.asc.groups.length := (List.getElem?_eq_some_iff.mp h).1
  have started : ((setGroup g (.evacuating s.time cause) s).asc.groups.getD g .clear).cause? = some cause := by
    rw [setGroup, State.setAsc_asc, List.getD_eq_getElem?_getD, List.getElem?_set_self inside]
    rfl
  simp only [startGroup, groupState_of_getElem? h, postStarted, started]
  rfl

theorem startGroup_of_not_pending (h : ∀ d, s.asc.groups[g]? ≠ some (.pending d)) : startGroup g cause s = s := by
  have other (d : Nat) : groupState s g ≠ .pending d := by
    rw [groupState, List.getD_eq_getElem?_getD]
    cases hg : s.asc.groups[g]? with
    | none => exact nofun
    | some x => exact fun hx => h d (hg.trans (congrArg some hx))
  unfold startGroup
  split
  next d hd => exact absurd hd (other d)
  · rfl
  · rfl

/-- The start of a PENDING group changes the alarm record, the calls, the loop's records and the events. -/
theorem startGroup_sameCore_of_pending {d : Nat} (h : s.asc.groups[g]? = some (.pending d)) :
    SameCore (s.setAsc { s.asc with groups := s.asc.groups.set g (.evacuating s.time cause) }) (startGroup g cause s) ∧
      (startGroup g cause s).ctc = s.ctc := by
  rw [startGroup_of_pending cause h]
  exact evacuateGroup_kept (keptByCalls_sameCore _) g _ ⟨sameCore_postRecord _ _, post_ctc _ _ _ _⟩

theorem startGroup_asc (g : Nat) (s : State) : (startGroup g cause s).asc =
    { s.asc with groups := s.asc.groups.modify g (GroupState.started s.time cause) } := by
  by_cases h : ∃ d, s.asc.groups[g]? = some (.pending d)
  · obtain ⟨d, hd⟩ := h
    have modified : s.asc.groups.modify g (GroupState.started s.time cause) =
        s.asc.groups.set g (.evacuating s.time cause) := by
      rw [List.modify_eq_set_getElem?, hd]
      rfl
    rw [(startGroup_sameCore_of_pending cause hd).1.asc, modified]
    rfl
  · push Not at h
    have modified : s.asc.groups.modify g (GroupState.started s.time cause) = s.asc.groups := by
      rw [List.modify_eq_set_getElem?]
      cases hg : s.asc.groups[g]? with
      | none => rfl
      | some x =>
        have same : x.started s.time cause = x :=
          GroupState.started_of_not_pending (fun d hx => h d (hg.trans (congrArg some hx))) _ _
        obtain ⟨inside, rfl⟩ := List.getElem?_eq_some_iff.mp hg
        exact (congrArg (s.asc.groups.set g) same).trans (List.set_getElem_self inside)
    rw [startGroup_of_not_pending cause h, modified]

theorem startGroup_time (g : Nat) (s : State) : (startGroup g cause s).time = s.time := by
  by_cases h : ∃ d, s.asc.groups[g]? = some (.pending d)
  · obtain ⟨d, hd⟩ := h
    exact (startGroup_sameCore_of_pending cause hd).1.time
  · push Not at h
    rw [startGroup_of_not_pending cause h]
end

/-- The change of each of the first `n` items of a list in turn. -/
theorem foldl_modify_getElem? {α : Type} (f : α → α) (l : List α) (n i : Nat) :
    ((List.range n).foldl (fun l g => l.modify g f) l)[i]? = if i < n then l[i]?.map f else l[i]? := by
  induction n with
  | zero => rfl
  | succ n ih =>
    rw [List.range_succ, List.foldl_append, List.foldl_cons, List.foldl_nil, List.getElem?_modify, ih]
    rcases Nat.lt_trichotomy i n with h | rfl | h
    · simp [h, h.ne', Nat.lt_succ_of_lt h]
    · simp
    · simp [h.ne, Nat.not_lt.mpr h, h.not_gt]

theorem foldl_modify_eq_map {α : Type} (f : α → α) (l : List α) :
    (List.range l.length).foldl (fun l g => l.modify g f) l = l.map f := by
  refine List.ext_getElem? fun i => ?_
  rw [foldl_modify_getElem?, List.getElem?_map]
  split
  · rfl
  next h => rw [List.getElem?_eq_none (Nat.not_lt.mp h)]; rfl

theorem foldl_startGroup_asc (cause : StartCause) (gs : List Nat) (s : State) :
    (gs.foldl (fun u g => startGroup g cause u) s).asc = { s.asc with
      groups := gs.foldl (fun l g => l.modify g (GroupState.started s.time cause)) s.asc.groups } := by
  induction gs generalizing s with
  | nil => rfl
  | cons g gs ih => rw [List.foldl_cons, ih, startGroup_asc, startGroup_time]; rfl

end Sys2Proof.Machine
end

section
/-! The fires that ASC takes, by stage and route (R103 to R105). -/

namespace Sys2Proof.Machine

section
variable {f : Fire} {s : State}

theorem takeFire_investigate_asc (hstage : s.asc.stage = .normal) (hroute : f.route = .investigate)
    (hw : ∀ r ∈ s.zmn.zones, r.window = none) : (takeFire f s).asc = (investigated f s).asc := by
  rw [takeFire_investigate hstage hroute hw]
  have kept := keptByOwners_asc (investigated f s).asc
  exact curtainsInvestigate_kept kept.toKeptByCurtains _
    (streamTold_kept kept.toKeptBySignal _ _ (staffAlert_kept kept.toKeptByCalls _ rfl))

/-- In a general evacuation another GENERAL fire changes nothing (R105). -/
theorem takeFire_of_general (hstage : s.asc.stage = .evacuate) (hroute : f.route = .general)
    (hgeneral : s.asc.general = true) : takeFire f s = s := by
  rw [takeFire_of_alarm (by rw [hstage]; exact nofun)]
  simp only [fireUnderAlarm, hstage, fireInEvacuate, hroute, hgeneral, if_true]

/-- A GENERAL fire in a staged evacuation starts every PENDING group (R105). -/
theorem takeFire_generalises (hstage : s.asc.stage = .evacuate) (hroute : f.route = .general)
    (hstaged : s.asc.general = false) (hlen : s.asc.groups.length = 7) : (takeFire f s).asc = { s.asc with
      general := true
      groups := s.asc.groups.map (GroupState.started s.time .general) } := by
  have fired : takeFire f s = (List.range 7).foldl (fun u g => startGroup g .general u)
      (post .generalEvacuation f.zone none (s.setAsc { s.asc with general := true })) := by
    rw [takeFire_of_alarm (by rw [hstage]; exact nofun)]
    simp only [fireUnderAlarm, hstage, fireInEvacuate, hroute, hstaged, Bool.false_eq_true, if_false]
  rw [fired, foldl_startGroup_asc, post_asc, post_time, State.setAsc_asc, State.setAsc_time, ← hlen,
    foldl_modify_eq_map]

/-- Another fire in EVACUATE starts its own group (R105). -/
theorem takeFire_startsGroup (hstage : s.asc.stage = .evacuate) (hroute : f.route ≠ .general) :
    takeFire f s = startGroup f.group .fire s := by
  rw [takeFire_of_alarm (by rw [hstage]; exact nofun)]
  simp only [fireUnderAlarm, hstage, fireInEvacuate]
  cases hr : f.route with
  | general => exact absurd hr hroute
  | investigate => rfl
  | evacuate => rfl
end

/-- Settles O28: a fire taken is an entry by its route, whose record no reader changes, or the start of its group or of
all. -/
theorem fireIsTakenByTheStage : Obligations.FireIsTakenByTheStage := by
  intro f s
  refine ⟨fun hn hr hw => ?_, fun hn hr hw => ?_, fun hn hr hw => ?_, fun hi hr => ?_, fun hi hr => ?_,
    fun he hr hg => takeFire_of_general he hr hg, fun he hr hg hl => ?_, fun d he hr hp => ?_, fun t c he hr hp => ?_⟩
  · rw [takeFire_investigate_asc hn hr hw, investigated, post_asc]
    rfl
  · have groups : (List.range 7).map (entryGroup (recordOrigin f s) false (some f.group)) = _ :=
      List.map_congr_left fun g _ => entryGroup_staged (recordOrigin f s) (some f.group) g
    rw [takeFire_evacuate hn hr hw, enterEvacuate_asc, evacuateRecord, groups]
    simp [recordOrigin, eq_comm]
  · rw [takeFire_general hn hr hw, enterEvacuate_asc, evacuateRecord, entryGroups_general]
    rfl
  · have groups : (List.range 7).map (entryGroup s false (some f.group)) = _ :=
      List.map_congr_left fun g _ => entryGroup_staged s (some f.group) g
    rw [takeFire_investigating hi, beq_eq_false_iff_ne.mpr hr, enterEvacuate_asc, evacuateRecord, groups]
    simp [eq_comm]
  · rw [takeFire_investigating hi, hr, enterEvacuate_asc]
    rfl
  · refine (takeFire_generalises he hr hg hl).trans (congrArg (fun l => { s.asc with general := true, groups := l })
      (List.map_congr_left fun x _ => ?_))
    cases x <;> rfl
  · rw [takeFire_startsGroup he hr, (startGroup_sameCore_of_pending .fire hp).1.asc]
    rfl
  · rw [takeFire_startsGroup he hr, startGroup_of_not_pending .fire (by simp [hp])]

end Sys2Proof.Machine
end

section
/-! The timers of ASC (R109, R112): an investigation that runs out is an entry to EVACUATE, an offset that runs out the
start of its group. -/

namespace Sys2Proof.Machine

/-! ### The entry from INVESTIGATE (R109, R111) -/

theorem endPage_queue_sched (revoke : Bool) (e : Event) (arg : Nat → Nat) (s : State) :
    (endPage revoke e arg s).clc.queue = s.clc.queue ∧ (endPage revoke e arg s).clc.sched = s.clc.sched := by
  unfold endPage
  split
  · exact ⟨rfl, rfl⟩
  · cases revoke <;> simp [unitIssue_clc]

/-- The seizure of the channel leaves the call queue and the scheduled-call list (R162). -/
theorem seizeChannel_queue_sched (s : State) :
    (seizeChannel s).clc.queue = s.clc.queue ∧ (seizeChannel s).clc.sched = s.clc.sched := by
  unfold seizeChannel
  dsimp only
  split
  · exact ⟨rfl, rfl⟩
  · split <;> simp [dropCurrent, unitIssue_clc]
  · split
    · exact ⟨rfl, rfl⟩
    · exact endPage_queue_sched _ _ _ _
  · exact ⟨rfl, rfl⟩

theorem evacuateEnded_sameCore (s : State) : SameCore s (evacuateEnded s) :=
  ((curtainsEvacuate_driven s).abandoned_sameCore.trans
    (seizeChannel_kept (keptByCalls_sameCore _) _ ⟨.refl _, rfl⟩).1).trans (groupsTold_sameCore _ _)

theorem evacuateEnded_queue_sched (s : State) :
    (evacuateEnded s).clc.queue = s.clc.queue ∧ (evacuateEnded s).clc.sched = s.clc.sched := by
  rw [evacuateEnded, groupsTold_clc, ← (curtainsEvacuate_driven s).abandoned_clc]
  exact seizeChannel_queue_sched (curtainsEvacuate s)

/-- Outside NORMAL the stream is left as it is; a frame is built at most (R27, R33). -/
theorem evacuateBegun_told (general : Bool) (cause : Nat) (fireGroup : Option Nat) (s : State) : ∃ builds,
    StreamTold false builds (houseEvacuate (evacuationEntered general cause fireGroup s))
      (evacuateBegun general cause fireGroup false s) :=
  ⟨_, rebuildIfSending_told _⟩

theorem Circuit.sent_override (s : State) (c : Circuit) : (c.sent s).override = c.override := by
  unfold Circuit.sent
  split
  · rfl
  · rfl

/-- The override of every circuit stands, also where a frame is built after it (R55). -/
theorem StreamTold.overrides {asleep builds : Bool} {a t : State} (h : StreamTold asleep builds a t)
    (ha : ∀ c ∈ a.hlu.circuits, c.override.isSome = true) : ∀ c ∈ t.hlu.circuits, c.override.isSome = true := by
  intro c hc
  rw [h.hlu] at hc
  split at hc
  · obtain ⟨x, hx, rfl⟩ := List.mem_map.mp hc
    rw [Circuit.sent_override]
    exact ha x hx
  · exact ha c hc

theorem houseEvacuate_overrides (s : State) : ∀ c ∈ (houseEvacuate s).hlu.circuits, c.override.isSome = true := by
  intro c hc
  obtain ⟨x, -, rfl⟩ := List.mem_map.mp hc
  rfl

/-- What an entry that leaves INVESTIGATE keeps, and the override that it leaves (R55, R111). -/
theorem enterEvacuate_of_investigate {s : State} (hi : s.asc.stage = .investigate) (general : Bool) (cause : Nat)
    (fireGroup : Option Nat) {t : State} (ht : t = (enterEvacuate general cause fireGroup s).1) :
    t.zmn = s.zmn ∧ t.phc = s.phc ∧ t.tbs = s.tbs ∧ t.crg = s.crg ∧
      (∀ c ∈ t.hlu.circuits, c.override.isSome = true) ∧ t.clc.queue = s.clc.queue ∧ t.clc.sched = s.clc.sched ∧
      t.time = s.time := by
  rw [enterEvacuate_of_alarm (by rw [hi]; exact nofun)] at ht
  obtain ⟨builds, told⟩ := evacuateBegun_told general cause fireGroup s
  generalize evacuateBegun general cause fireGroup false s = b at ht told
  have entered := evacuationEntered_sameCore general cause fireGroup s
  have calls := told.clc.trans (evacuationEntered_clc general cause fireGroup s)
  have ended := evacuateEnded_sameCore b
  obtain ⟨queue, sched⟩ := evacuateEnded_queue_sched b
  rw [← ht] at ended queue sched
  refine ⟨?_, ?_, ?_, ?_, ?_, ?_, ?_, ?_⟩
  · exact ended.zmn.trans (told.zmn.trans entered.zmn)
  · exact ended.phc.trans (told.phc.trans entered.phc)
  · exact ended.tbs.trans (told.tbs.trans entered.tbs)
  · exact ended.crg.trans (told.crg.trans entered.crg)
  · rw [ended.hlu]
    exact told.overrides (houseEvacuate_overrides _)
  · rw [queue, calls]
  · rw [sched, calls]
  · exact ended.time.trans (told.time.trans entered.time)

/-! ### The offset timer (R112) -/

theorem exec_offsetTimerExpiry {s : State} (hs : Running s) (g : Nat) :
    exec (.offsetTimerExpiry g) s = .next (offsetExpire g s) := by
  rw [← running_eq hs (offsetExpire g)]
  rfl

theorem offsetDue_of_pending {s : State} {g d : Nat} (h : s.asc.groups[g]? = some (.pending d)) :
    offsetDue s g = decide (d ≤ s.time) := by
  rw [offsetDue, groupState_of_getElem? h]

/-- The start of a PENDING group posts GROUP STARTED, and its zones join the evacuation (R112, R162). -/
theorem startGroup_told {s : State} {g d : Nat} (h : s.asc.groups[g]? = some (.pending d)) (cause : StartCause) :
    (startGroup g cause s).clc = { s.clc with evacZones := s.clc.evacZones ||| groupFoh s.tbs.active.zone g } ∧
      SameEvents (startGroup g cause s) (post .groupStarted g (some cause.code) s) := by
  rw [startGroup_of_pending cause h]
  refine ⟨?_, (evacuateGroup_sameEvents g _).trans (SameEvents.post ?_ _ _ _)⟩
  · rw [evacuateGroup_clc, post_clc, post_tbs]
    rfl
  · exact ⟨rfl, rfl, rfl⟩

/-- Settles O26: the two timers of INVESTIGATE make the entry to EVACUATE, and the offset timer starts its group. -/
theorem alarmTimersRunOut : Obligations.AlarmTimersRunOut := by
  intro s groups asc hs hgroups hasc
  have record : (evacuateRecord false none s).asc = asc := by
    have made : (List.range 7).map (entryGroup s false none) = groups := by
      rw [hgroups]
      exact List.map_congr_left fun g _ => by simp only [entryGroup_staged, reduceCtorEq, false_or]
    rw [hasc, ← made]
    rfl
  have entry (cause : Nat) : (enterEvacuate false cause none s).1.asc = asc :=
    (enterEvacuate_asc false cause none s).trans record
  refine ⟨fun e hi hstep he hdue => ?_, fun e hi hstep he hdue => ?_, fun g d hp hd => ?_, fun g d hp hd => ?_⟩
  · exact ⟨_, exec_ackTimerExpiry_due hs hi hstep he hdue, entry _, enterEvacuate_of_investigate hi _ _ _ rfl⟩
  · exact ⟨_, exec_investigationTimerExpiry_due hs hi hstep he hdue, entry _,
      enterEvacuate_of_investigate hi _ _ _ rfl⟩
  · rw [exec_offsetTimerExpiry hs, offsetExpire, offsetDue_of_pending hp, if_neg (by simpa using hd)]
  · have starts : offsetExpire g s = startGroup g .offset s := by
      rw [offsetExpire, offsetDue_of_pending hp, if_pos (by simpa using hd)]
    obtain ⟨calls, events⟩ := startGroup_told hp .offset
    obtain ⟨core, curtains⟩ := startGroup_sameCore_of_pending .offset hp
    exact ⟨_, (exec_offsetTimerExpiry hs g).trans (congrArg _ starts), core.asc, calls, events.evq, core.zmn, core.hlu,
      core.fbl, curtains, core.phc, core.srx, core.crg, core.tbs, core.time⟩

end Sys2Proof.Machine
end

section
/-! The alarm record agrees with its stage (R101, R102, R107, R109 to R111, R115, R116): every operation of ASC keeps
that, the other blocks keep it as they hand fires over, and so does every step. -/

namespace Sys2Proof.Machine

/-! ### The records that ASC makes -/

section
variable {s t : State}

theorem AlarmConsistent.of_asc (h : AlarmConsistent s) (ha : t.asc = s.asc) : AlarmConsistent t := by
  rwa [AlarmConsistent, ha]

theorem keptByOwners_alarmConsistent : KeptByOwners AlarmConsistent := keptByOwners_of_asc AlarmConsistent.of_asc

/-- No group is CLEAR at the entry to EVACUATE (R111). -/
theorem entryGroup_ne_clear (s : State) (general : Bool) (fireGroup : Option Nat) (g : Nat) :
    entryGroup s general fireGroup g ≠ .clear := by
  unfold entryGroup
  split
  · exact nofun
  · split
    · exact nofun
    · exact nofun

/-- The entry to EVACUATE makes the record whole, whatever it was (R111). -/
theorem alarmConsistent_evacuateRecord (general : Bool) (fireGroup : Option Nat) (s : State) :
    AlarmConsistent (evacuateRecord general fireGroup s) := by
  refine ⟨⟨fun _ => rfl, fun _ => rfl⟩, fun ne => absurd rfl ne, fun _ => ⟨rfl, fun hc => ?_⟩,
    fun _ => ⟨rfl, rfl, rfl⟩, nofun⟩
  obtain ⟨g, -, hg⟩ := List.mem_map.mp hc
  exact entryGroup_ne_clear s general fireGroup g hg

theorem alarmConsistent_enterEvacuate (general : Bool) (cause : Nat) (fireGroup : Option Nat) (s : State) :
    AlarmConsistent (enterEvacuate general cause fireGroup s).1 :=
  (alarmConsistent_evacuateRecord general fireGroup s).of_asc (enterEvacuate_asc general cause fireGroup s)

/-- A change of the alarm record from NORMAL or INVESTIGATE to one of the two keeps what belongs to EVACUATE alone; what
belongs to the new stage is asked. -/
theorem AlarmConsistent.outsideEvacuate (h : AlarmConsistent s) (hs : s.asc.stage ≠ .evacuate)
    (ht : t.asc.stage ≠ .evacuate) (kept : t.asc.showStop = s.asc.showStop ∧ t.asc.groups = s.asc.groups ∧
      t.asc.general = s.asc.general ∧ t.asc.evacStart = s.asc.evacStart)
    (timers : t.asc.stage ≠ .investigate → t.asc.invStep = none ∧ t.asc.ackExpiry = none ∧ t.asc.invExpiry = none)
    (origin : t.asc.stage = .normal → t.asc.zone = none ∧ t.asc.group = none) : AlarmConsistent t := by
  obtain ⟨showStop, groups, general, start⟩ := kept
  obtain ⟨asserted, calm, -⟩ := h
  refine ⟨⟨fun on => absurd (asserted.mp (showStop ▸ on)) hs, fun on => absurd on ht⟩, fun _ => ?_,
    fun on => absurd on ht, timers, origin⟩
  rw [groups, general, start]
  exact calm hs
end

/-! ### Fires and groups (R103 to R105, R112) -/

section
variable {s : State} (h : AlarmConsistent s)
include h

theorem AlarmConsistent.enterInvestigate (f : Fire) (hn : s.asc.stage = .normal) :
    AlarmConsistent (enterInvestigate (recordOrigin f s)).1 :=
  AlarmConsistent.of_asc (s := investigateRecord (recordOrigin f s))
    (h.outsideEvacuate (by rw [hn]; exact nofun) nofun ⟨rfl, rfl, rfl, rfl⟩ (fun ne => absurd rfl ne) nofun)
    (enterInvestigate_asc _)

/-- A PENDING group stands in EVACUATE alone (R102). -/
theorem AlarmConsistent.evacuate_of_pending {g d : Nat} (hp : s.asc.groups[g]? = some (.pending d)) :
    s.asc.stage = .evacuate := by
  obtain ⟨-, calm, -⟩ := h
  by_contra ne
  obtain ⟨groups, -⟩ := calm ne
  rw [groups] at hp
  exact nomatch List.eq_of_mem_replicate (List.mem_of_getElem? hp)

theorem AlarmConsistent.startGroup (g : Nat) (cause : StartCause) : AlarmConsistent (startGroup g cause s) := by
  by_cases hp : ∃ d, s.asc.groups[g]? = some (.pending d)
  · obtain ⟨d, hd⟩ := hp
    have stage := h.evacuate_of_pending hd
    refine AlarmConsistent.of_asc ?_ (startGroup_sameCore_of_pending cause hd).1.asc
    obtain ⟨showStop, -, started, timers, origin⟩ := h
    obtain ⟨seven, notClear⟩ := started stage
    refine ⟨showStop, fun ne => absurd stage ne, fun _ => ⟨?_, fun hc => ?_⟩, timers, origin⟩
    · exact List.length_set.trans seven
    · rcases List.mem_or_eq_of_mem_set hc with hc | hc
      · exact notClear hc
      · exact nomatch hc
  · push Not at hp
    rwa [startGroup_of_not_pending cause hp]

theorem AlarmConsistent.fireInEvacuate (f : Fire) (he : s.asc.stage = .evacuate) :
    AlarmConsistent (fireInEvacuate f s) := by
  have generalised : AlarmConsistent (s.setAsc { s.asc with general := true }) := by
    obtain ⟨showStop, -, started, timers, origin⟩ := h
    exact ⟨showStop, fun ne => absurd he ne, started, timers, origin⟩
  unfold Machine.fireInEvacuate
  split
  · exact h.startGroup _ _
  · exact h.startGroup _ _
  · exact ite_kept h (foldl_kept _ (fun _ g hu => hu.startGroup g _) _
      (keptByOwners_alarmConsistent.toKeptByLinks.posted generalised))

theorem AlarmConsistent.fireUnderAlarm (f : Fire) : AlarmConsistent (fireUnderAlarm f s) := by
  unfold Machine.fireUnderAlarm
  split
  · exact alarmConsistent_enterEvacuate _ _ _ _
  next he => exact h.fireInEvacuate f he
  · exact h

theorem AlarmConsistent.takeFire (f : Fire) : AlarmConsistent (takeFire f s) := by
  unfold Machine.takeFire
  split
  next normal =>
    refine foldl_kept (P := AlarmConsistent) _ (fun _ g hu => hu.fireUnderAlarm g) _ ?_
    unfold fireInNormal
    split
    · exact h.enterInvestigate f normal
    · exact alarmConsistent_enterEvacuate _ _ _ _
    · exact alarmConsistent_enterEvacuate _ _ _ _
  · exact h.fireUnderAlarm f
  · exact h.fireUnderAlarm f

/-! ### The blocks that hand fires over (R78, R90, R91, R95, R98) -/

theorem AlarmConsistent.closeWindow (z : Nat) : AlarmConsistent (closeWindow z s) := by
  have owners := keptByOwners_alarmConsistent
  have begun := closeBegin_kept owners.toKeptByZones z s h
  unfold Machine.closeWindow
  dsimp only
  split
  · refine closeReport_kept owners.toKeptByLinks _ _ _ ?_
    unfold takeFire?
    split
    · exact begun.takeFire _
    · exact begun
  · exact h

theorem AlarmConsistent.closeAllWindows : AlarmConsistent (closeAllWindows s) :=
  foldl_kept (P := AlarmConsistent) _ (fun _ z hu => hu.closeWindow z) _ h

theorem AlarmConsistent.suppressAt (zs : List Nat) (d : Nat) : AlarmConsistent (suppressAt zs d s).state := by
  refine answer_ite_kept h (answer_ite_kept h (answer_ite_kept ?_ ?_))
  · exact foldl_pair_kept _ _ (fun _ z hu => hu.closeWindow z) h
  · exact suppressZones_kept keptByOwners_alarmConsistent.toKeptByZones _ _ _ _ h

theorem AlarmConsistent.reportFire (r : Zone) : AlarmConsistent (reportFire r s) := by
  have zones := keptByOwners_alarmConsistent.toKeptByZones
  unfold Machine.reportFire
  split
  · exact ite_kept h (AlarmConsistent.takeFire (latchZone_kept zones r s h) _)
  · exact ite_kept h (post_kept zones.posted _ _ _ _ (modZone_kept zones _ _ _ h))

/-- The last prealarm stands beside what the stage binds (R106). -/
theorem AlarmConsistent.notePrealarm (z : Nat) (before after : Condition) :
    AlarmConsistent (notePrealarm z before after s) := ite_kept h h

theorem AlarmConsistent.inputReport (unit input value : Nat) : AlarmConsistent (inputReport unit input value s) := by
  have owners := keptByOwners_alarmConsistent
  unfold Machine.inputReport
  split
  next r _ =>
    have noted := modZone_kept owners.toKeptByZones r.number
      (fun x => { x with condition := Condition.ofReport value }) s h
    have told := postCondition_kept owners.toKeptByLinks r.number r.condition (Condition.ofReport value) _
      (ite_kept (c := Condition.ofReport value = .fire) (AlarmConsistent.reportFire noted r) noted)
    have recorded := AlarmConsistent.notePrealarm told r.number r.condition (Condition.ofReport value)
    exact ite_kept recorded (clearDeferred_kept owners.toKeptByZones r _ recorded)
  · exact h

theorem AlarmConsistent.transition (new : Phase) (minutes : Option Nat) :
    AlarmConsistent (transition new minutes s) := by
  have owners := keptByOwners_alarmConsistent
  have begun : AlarmConsistent (s.setPhc (enteredRecord s new minutes)) := h
  have exited : AlarmConsistent (exitPhase s.phc.phase (s.setPhc (enteredRecord s new minutes))) := by
    unfold exitPhase
    split
    · exact begun.closeAllWindows
    · exact clearSchedule_kept owners.toKeptByCalls _ begun
    all_goals exact begun
  have filled := fillPhase_kept owners.toKeptByCalls new _
    (reexamine_kept owners _ (enterPhase_kept owners new _ exited))
  have posted {u : State} (hu : AlarmConsistent u) {r : EventRecord} : AlarmConsistent (postRecord r u) :=
    owners.toKeptByLinks.posted hu
  exact ite_kept (posted (posted filled)) (posted filled)

theorem AlarmConsistent.setPhaseAt (code : Nat) (minutes : Option Nat) :
    AlarmConsistent (setPhaseAt code minutes s).state := by
  unfold Machine.setPhaseAt
  split
  · exact h
  · exact answer_ite_kept h (answer_ite_kept h (answer_ite_kept h (answer_ite_kept h (h.transition _ _))))

/-! ### The commands and the timers of ASC (R108 to R110, R112, R116) -/

theorem AlarmConsistent.alarmAckCmd (p : List Byte) : AlarmConsistent (alarmAckCmd p s).state := by
  refine answer_ite_kept h ?_
  split
  next awaiting =>
    obtain ⟨stage, -⟩ := awaiting
    have outside : s.asc.stage ≠ .evacuate := by rw [stage]; exact nofun
    exact post_kept keptByOwners_alarmConsistent.toKeptByLinks.posted _ _ _ _ (h.outsideEvacuate outside outside
      ⟨rfl, rfl, rfl, rfl⟩ (fun ne => absurd stage ne) fun normal => nomatch stage.symm.trans normal)
  · exact h

/-- ALARM FALSE leaves neither origin, step nor timer (R110). -/
theorem AlarmConsistent.falseDeclared (hi : s.asc.stage = .investigate) : AlarmConsistent (falseDeclared s) := by
  refine h.outsideEvacuate (by rw [hi]; exact nofun) ?_ ?_ ?_ ?_
  all_goals rw [falseDeclared_asc]
  · exact nofun
  · exact ⟨rfl, rfl, rfl, rfl⟩
  · exact fun _ => ⟨rfl, rfl, rfl⟩
  · exact fun _ => ⟨rfl, rfl⟩

theorem AlarmConsistent.alarmFalseCmd (p : List Byte) : AlarmConsistent (alarmFalseCmd p s).state := by
  refine answer_ite_kept h ?_
  split
  next stage => exact answer_ite_kept h (freed_kept keptByOwners_alarmConsistent _ (h.falseDeclared stage))
  · exact h

/-- ALARM RESET leaves every group CLEAR, no origin and SHOW STOP off (R116). -/
theorem AlarmConsistent.alarmCleared (he : s.asc.stage = .evacuate) : AlarmConsistent (alarmCleared s) := by
  obtain ⟨-, -, -, timers, -⟩ := h
  have none := timers (by rw [he]; exact nofun)
  rw [AlarmConsistent, alarmCleared_asc]
  exact ⟨⟨nofun, nofun⟩, fun _ => ⟨rfl, rfl, rfl⟩, nofun, fun _ => none, fun _ => ⟨rfl, rfl⟩⟩

theorem AlarmConsistent.alarmResetCmd (p : List Byte) : AlarmConsistent (alarmResetCmd p s).state := by
  refine answer_ite_kept h ?_
  split
  next stage => exact answer_ite_kept h (freed_kept keptByOwners_alarmConsistent _
      (channelAlarmReset_kept keptByOwners_alarmConsistent.toKeptByCalls _ (h.alarmCleared stage)))
  · exact h

/-! ### The authority record (R204, R205) -/

theorem AlarmConsistent.setAuthorityCmd (p : List Byte) : AlarmConsistent (setAuthorityCmd p s).state := by
  unfold Machine.setAuthorityCmd
  split
  · exact h
  · split
    · exact h
    · exact h

theorem AlarmConsistent.lockAuthorityCmd (p : List Byte) : AlarmConsistent (lockAuthorityCmd p s).state := by
  refine answer_ite_kept h (answer_ite_kept h ?_)
  exact post_kept keptByOwners_alarmConsistent.toKeptByLinks.posted _ _ _ _ h
end

/-! ### The step -/

theorem coreLaw_alarmConsistent : CoreLaw AlarmConsistent where
  same h same := by
    obtain ⟨-, -, -, asc, -⟩ := core_eq_iff.mp same
    exact h.of_asc asc
  reexamined h := reexamine_kept keptByOwners_alarmConsistent _ h
  restarted h := storeRestart_kept keptByOwners_alarmConsistent.toKeptByTables _ h
  opened h := stageOpenCmd_kept keptByOwners_alarmConsistent.toKeptByTables _ _ h
  written h := stageWriteCmd_kept keptByOwners_alarmConsistent.toKeptByTables _ _ h
  queued h := stageQueueCmd_kept keptByOwners_alarmConsistent.toKeptByTables _ _ h
  committed h := commitCmd_kept keptByOwners_alarmConsistent _ _ h
  aborted h := abortCommitCmd_kept keptByOwners_alarmConsistent.toKeptByTables _ _ h
  authority h := h.setAuthorityCmd _
  locked h := h.lockAuthorityCmd _
  suppressed h := h.suppressAt _ _
  reported h := h.inputReport _ _ _
  lost h := loseZone_kept keptByOwners_alarmConsistent _ _ _ h
  windowEnded h := ite_kept (h.closeWindow _) h
  zonesRestarted h := h.closeAllWindows
  phaseSet h := h.setPhaseAt _ _
  acknowledged h := h.alarmAckCmd _
  dismissed h := h.alarmFalseCmd _
  reset h := h.alarmResetCmd _
  ackEnded h := ite_kept (alarmConsistent_enterEvacuate _ _ _ _) h
  invEnded h := ite_kept (alarmConsistent_enterEvacuate _ _ _ _) h
  offsetEnded h := ite_kept (h.startGroup _ _) h
  asserted _ := ⟨⟨nofun, nofun⟩, fun _ => ⟨rfl, rfl, rfl⟩, nofun, fun _ => ⟨rfl, rfl, rfl⟩, fun _ => ⟨rfl, rfl⟩⟩
  released h := ite_kept (post_kept keptByOwners_alarmConsistent.toKeptByLinks.posted _ _ _ _ h) h
  idled h := ite_kept h (ite_kept h h)

/-- Settles O54: an entry to EVACUATE makes the whole record (`alarmConsistent_evacuateRecord`), one to INVESTIGATE adds
its step and timer, a return to NORMAL clears it, and every other operation changes a group, a timer or the last
prealarm at most (`coreLaw_alarmConsistent`). -/
theorem everyStepKeepsTheAlarmConsistent : Obligations.EveryStepKeepsTheAlarmConsistent :=
  fun _ _ hs he => coreLaw_alarmConsistent.step hs he

end Sys2Proof.Machine
end

section
/-! CTC's operations where the record of one curtain, whose number stands once, is replaced (R123 to R132, R142): what
each makes of the record and of the demonstration record, and what it hands over and posts. -/

namespace Sys2Proof.Machine

/-! ### The searches in records where one is replaced -/

/-- `c` is one of the records, and no other has its number. -/
structure OneOf (k : Curtains) (c : Curtain) : Prop where
  mem : c ∈ k.curtains
  sole : ∀ z ∈ k.curtains, z.number = c.number → z = c

/-- `y` is a record of the curtain `c`: its number, drive unit and demonstration flag. -/
structure Curtain.Of (c y : Curtain) : Prop where
  number : y.number = c.number
  unit : y.unit = c.unit
  flag : y.demoFlag = c.demoFlag

/-- The first curtain with the demonstration flag is `c`. -/
def Curtains.flags (k : Curtains) (c : Curtain) : Bool :=
  (k.curtains.find? (·.demoFlag)).any fun x => x.number == c.number

theorem oneOf_of_nodup {k : Curtains} {c : Curtain} (h : (k.curtains.map (·.number)).Nodup) (hc : c ∈ k.curtains) :
    OneOf k c :=
  ⟨hc, fun _ hz hn => List.inj_on_of_nodup_map h hz hc hn⟩

section
variable {k : Curtains} {c y : Curtain} {d : Demo} {t : State} (h : OneOf k c)
include h

theorem OneOf.put_self : k.put c c k.demo = k := by
  have same : k.curtains.map (fun z => if z.number = c.number then c else z) = k.curtains := by
    refine (List.map_congr_left fun z hz => ?_).trans (List.map_id _)
    split
    · exact (h.sole z hz ‹_›).symm
    · rfl
  rw [Curtains.put, same]

/-- What a search finds that cannot tell the replaced record from the new one. -/
theorem OneOf.find?_put {p : Curtain → Bool} (hp : p y = p c) : (k.put c y d).curtains.find? p =
    (k.curtains.find? p).map fun z => if z.number = c.number then y else z := by
  rw [Curtains.put, List.find?_map]
  refine congrArg (Option.map _) (List.find?_congr fun z hz => ?_)
  by_cases hn : z.number = c.number
  · rw [Function.comp_apply, if_pos hn, hp, h.sole z hz hn]
  · rw [Function.comp_apply, if_neg hn]

theorem OneOf.find?_put_of_some {p : Curtain → Bool} (hp : p y = p c) (hc : k.curtains.find? p = some c) :
    (k.put c y d).curtains.find? p = some y := by
  rw [h.find?_put hp, hc, Option.map_some, if_pos rfl]

theorem OneOf.find?_number : k.curtains.find? (fun x => x.number == c.number) = some c := by
  obtain ⟨z, hz⟩ : ∃ z, k.curtains.find? (fun x => x.number == c.number) = some z :=
    Option.isSome_iff_exists.mp (List.find?_isSome.mpr ⟨c, h.mem, by simp⟩)
  rw [hz, h.sole z (List.mem_of_find?_eq_some hz) (by simpa using List.find?_some hz)]

theorem OneOf.flags_iff : k.flags c = true ↔ k.curtains.find? (·.demoFlag) = some c := by
  rw [Curtains.flags]
  cases hx : k.curtains.find? (·.demoFlag) with
  | none => simp
  | some x =>
    rw [Option.any_some, beq_iff_eq, Option.some_inj]
    exact ⟨h.sole x (List.mem_of_find?_eq_some hx), fun hn => by rw [hn]⟩

variable (hy : c.Of y)
include hy

theorem OneOf.findCurtain_put : findCurtain (t.setCtc (k.put c y d)) c.number = some y :=
  h.find?_put_of_some (by simp [hy.number]) h.find?_number

theorem OneOf.curtainOfUnit_put (hu : k.curtains.find? (·.unit == c.unit) = some c) :
    curtainOfUnit (t.setCtc (k.put c y d)) c.unit = some y :=
  h.find?_put_of_some (by simp [hy.unit]) hu

theorem OneOf.withUnit_put (hu : k.curtains.find? (·.unit == c.unit) = some c) (f : Curtain → State → State) :
    withUnit c.unit f (t.setCtc (k.put c y d)) = f y (t.setCtc (k.put c y d)) := by
  rw [withUnit, h.curtainOfUnit_put hy hu]

theorem OneOf.demoCurtain_put : demoCurtain (t.setCtc (k.put c y d)) =
    (k.curtains.find? (·.demoFlag)).map fun z => if z.number = c.number then y else z := h.find?_put hy.flag

theorem OneOf.demoRunsOn_put : demoRunsOn (t.setCtc (k.put c y d)) c.number = (d.running && k.flags c) := by
  rw [demoRunsOn, h.demoCurtain_put hy, Curtains.flags, Option.any_map]
  refine congrArg (d.running && ·) (congrArg (Option.any · _) (funext fun z => ?_))
  split
  next hz => rw [hy.number, hz]
  next => rfl

/-! ### The operations -/

/-- A command is issued, or barred by the release field (R123). -/
theorem OneOf.issueDrive_put (cmd : DriveCmd) : issueDrive c.number cmd (t.setCtc (k.put c y d)) =
    if y.release = .sent ∧ cmd ≠ .release then t.setCtc (k.put c y d)
    else (issue c.unit (.drive cmd) t).setCtc (k.put c { y with outstanding := some cmd } d) :=
  issueDrive_acted (s := t.setCtc { k with demo := d }) (ds := []) h.find?_number hy.number hy.unit cmd

/-- The end of a segment (R132). -/
theorem OneOf.segmentEnded_put : segmentEnded c.number (t.setCtc (k.put c y d)) =
    (handAll (y.segmentDrives.map (c.unit, ·)) t).setCtc (k.put c y.afterSegment d) := by
  refine (segmentEnded_acted (s := t.setCtc { k with demo := d }) (ds := []) h.find?_number hy.number hy.unit).trans ?_
  rw [State.acted, handAll_setCtc]
  rfl

theorem OneOf.yieldIfHeld_put : yieldIfHeld c.number (t.setCtc (k.put c y d)) =
    if y.ownership = .implicit ∧ y.outstanding ≠ some .yield ∧ y.release ≠ .sent then
      (issue c.unit (.drive .yield) t).setCtc (k.put c { y with outstanding := some .yield } d)
    else t.setCtc (k.put c y d) :=
  yieldIfHeld_acted (s := t.setCtc { k with demo := d }) (ds := []) h.find?_number hy.number hy.unit

/-- A demonstration that runs on the curtain fails (R142). -/
theorem OneOf.failDemo_put (why : DemoFailure) : failDemo c.number why (t.setCtc (k.put c y d)) =
    if d.running && k.flags c then
      (post .demonstrationFailed c.number (some why.code) t).setCtc (k.put c y (d.ended .failed (some why)))
    else t.setCtc (k.put c y d) := by
  rw [failDemo, h.demoRunsOn_put hy]
  refine if_congr Iff.rfl ?_ rfl
  rw [setDemo_put, State.setCtc_ctc, Curtains.put_demo, post_setCtc]
end

end Sys2Proof.Machine
end

section
/-! The curtain laws record by record (R123, R126, R127, R131, R138): what each operation of CTC makes of a record keeps
them. The stage is a parameter, for at a change of stage CTC is told after the alarm record has changed. -/

namespace Sys2Proof.Machine

/-! ### The laws of one record -/

/-- The laws of a curtain's record in a stage: EXPLICIT just in a segment, in which no YIELD and no RESUME is
outstanding (R126, R127, R131); a RAISE only without a latch and in NORMAL (R138); no LOWER, RAISE or STOP under
PENDANT (R131); none but RELEASE while the release field is SENT (R123). -/
structure CurtainSound (x : Stage) (c : Curtain) : Prop where
  segment : c.ownership = .explicit ↔ c.motion.isSome = true
  moving : c.motion.isSome = true → c.outstanding ≠ some .yield ∧ c.outstanding ≠ some .resume
  raise : c.outstanding = some .raise → c.latch = none ∧ x = .normal
  pendant : c.ownership = .pendant →
    c.outstanding ≠ some .lower ∧ c.outstanding ≠ some .raise ∧ c.outstanding ≠ some .stop
  sent : c.release = .sent → c.outstanding = none ∨ c.outstanding = some .release

/-- A command may become outstanding at the curtain: a RAISE only without a latch and in NORMAL, LOWER, RAISE and STOP
not under PENDANT, YIELD and RESUME not in a segment. -/
def Curtain.MayTake (x : Stage) (c : Curtain) : DriveCmd → Prop
  | .raise => c.ownership ≠ .pendant ∧ c.latch = none ∧ x = .normal
  | .lower | .stop => c.ownership ≠ .pendant
  | .yield | .resume => c.motion = none
  | .release => True

/-- The record after a command is issued, unless the release field bars it (R123). -/
def Curtain.issued (cmd : DriveCmd) (c : Curtain) : Curtain :=
  if c.release = .sent ∧ cmd ≠ .release then c else { c with outstanding := some cmd }

theorem Ownership.ended_ne_explicit (o : Ownership) : o.ended ≠ .explicit := by cases o <;> exact nofun

theorem Ownership.ended_eq_pendant {o : Ownership} : o.ended = .pendant ↔ o = .pendant := by
  cases o <;> simp [Ownership.ended]

section
variable {x : Stage} {c y : Curtain}

theorem Curtain.issued_eq_or (cmd : DriveCmd) (c : Curtain) :
    c.issued cmd = c ∨ c.issued cmd = { c with outstanding := some cmd } := by
  unfold Curtain.issued
  split
  · exact .inl rfl
  · exact .inr rfl

theorem Curtain.Of.issued (h : c.Of y) (cmd : DriveCmd) : c.Of (y.issued cmd) := by
  obtain he | he := Curtain.issued_eq_or cmd y <;> rw [he] <;> exact ⟨h.number, h.unit, h.flag⟩

theorem Curtain.Of.afterSegment (h : c.Of y) : c.Of y.afterSegment := ⟨h.number, h.unit, h.flag⟩

/-- A new record (R122). -/
theorem CurtainSound.new (hm : c.motion = none) (ho : c.ownership = .implicit) (hout : c.outstanding = none) :
    CurtainSound x c := by
  constructor <;> simp [hm, ho, hout]

/-- The ownership changes outside a segment, with nothing outstanding (R131, R133). -/
theorem CurtainSound.owned (hm : c.motion = none) (hout : c.outstanding = none) {o : Ownership} (ho : o ≠ .explicit) :
    CurtainSound x { c with ownership := o } := by
  constructor <;> simp [ho, hm, hout]

variable (h : CurtainSound x c)
include h

theorem CurtainSound.of_same (hown : y.ownership = c.ownership) (hmot : y.motion.isSome = c.motion.isSome)
    (hout : y.outstanding = c.outstanding) (hlatch : y.latch = c.latch) (hrel : y.release = c.release) :
    CurtainSound x y := by
  obtain ⟨segment, moving, raise, pendant, sent⟩ := h
  constructor <;> simpa only [hown, hmot, hout, hlatch, hrel]

theorem CurtainSound.motion_eq_none (ho : c.ownership ≠ .explicit) : c.motion = none :=
  Option.not_isSome_iff_eq_none.mp fun hm => ho (h.segment.mpr hm)

theorem CurtainSound.not_pendant_of_motion (hm : c.motion.isSome = true) : c.ownership ≠ .pendant := by
  rw [h.segment.mpr hm]
  exact nofun

theorem CurtainSound.not_pendant_of_moving (hm : c.moving = true) : c.ownership ≠ .pendant := fun hp => by
  obtain ⟨lower, raise, -⟩ := h.pendant hp
  simp [Curtain.moving, lower, raise] at hm

theorem CurtainSound.issued {cmd : DriveCmd} (hc : c.MayTake x cmd) : CurtainSound x (c.issued cmd) := by
  unfold Curtain.issued
  split
  · exact h
  next open_ =>
    refine ⟨h.segment, fun hm => ?_, fun hr => ?_, fun hp => ?_, fun hs => ?_⟩
    · cases cmd <;> simp_all [Curtain.MayTake]
    · obtain rfl : cmd = .raise := by simpa using hr
      exact hc.2
    · cases cmd <;> simp_all [Curtain.MayTake]
    · have sent : c.release = .sent := hs
      exact .inr (by simpa [sent] using open_)

/-- The segment is removed from the record. -/
theorem CurtainSound.endMotion : CurtainSound x c.endMotion :=
  ⟨⟨fun he => absurd he (Ownership.ended_ne_explicit _), nofun⟩, nofun, h.raise,
    fun hp => h.pendant (Ownership.ended_eq_pendant.mp hp), h.sent⟩

/-- The outstanding command is removed, and the release field at most leaves SENT. -/
theorem CurtainSound.answered : CurtainSound x { c with outstanding := none } :=
  ⟨h.segment, fun _ => ⟨nofun, nofun⟩, nofun, fun _ => ⟨nofun, nofun, nofun⟩, fun _ => .inl rfl⟩

/-- The end of a segment (R132). -/
theorem CurtainSound.afterSegment : CurtainSound x c.afterSegment := by
  by_cases hy : c.owesYield
  · rw [Curtain.afterSegment_of_owes hy]
    obtain ⟨-, -, ho, hr⟩ := hy
    have none := h.motion_eq_none (by rw [ho]; exact nofun)
    constructor <;> simp [ho, none, hr]
  · rw [Curtain.afterSegment_of_not_owes hy]
    exact h.of_same rfl rfl rfl rfl rfl

/-- A record with no RAISE outstanding meets the laws in every stage. -/
theorem CurtainSound.of_not_raise (hout : c.outstanding ≠ some .raise) (y : Stage) : CurtainSound y c :=
  ⟨h.segment, h.moving, fun hr => absurd hr hout, h.pendant, h.sent⟩

theorem CurtainSound.unlatched : CurtainSound x { c with latch := none } :=
  ⟨h.segment, h.moving, fun hr => ⟨rfl, (h.raise hr).2⟩, h.pendant, h.sent⟩

theorem CurtainSound.latched (hout : c.outstanding ≠ some .raise) (l : LatchCause) :
    CurtainSound x { c with latch := some l } :=
  ⟨h.segment, h.moving, fun hr => absurd hr hout, h.pendant, h.sent⟩

/-- The release field leaves SENT. -/
theorem CurtainSound.released {f : ReleaseField} (hf : f ≠ .sent) : CurtainSound x { c with release := f } :=
  ⟨h.segment, h.moving, h.raise, h.pendant, fun hs => absurd hs hf⟩

/-! ### A raising segment is stopped, and the entry to EVACUATE (R134, R135, R138) -/

theorem CurtainSound.raiseStopped : CurtainSound x c.raiseStopped ∧ c.raiseStopped.outstanding ≠ some .raise := by
  unfold Curtain.raiseStopped
  split
  next hm =>
    have moves : c.motion.isSome = true := by cases hc : c.motion <;> simp_all
    have stopped : CurtainSound x c.raiseEnded ∧ c.raiseEnded.outstanding ≠ some .raise := by
      unfold Curtain.raiseEnded
      split
      next hr =>
        refine ⟨h.endMotion.of_same rfl rfl rfl rfl rfl, fun hout => ?_⟩
        obtain hc | hc := h.sent hr <;> exact absurd (hc.symm.trans hout) nofun
      next hr =>
        have stops := (h.issued (cmd := .stop) (h.not_pendant_of_motion moves)).endMotion
        rw [Curtain.issued, if_neg fun hs => hr hs.1] at stops
        exact ⟨stops.of_same rfl rfl rfl rfl rfl, nofun⟩
    obtain ⟨sound, out⟩ := stopped
    refine ⟨sound.afterSegment, ?_⟩
    unfold Curtain.afterSegment
    split
    · exact nofun
    · exact out
  next =>
    split
    next hout =>
      have mayStop : c.ownership ≠ .pendant := fun hp => (h.pendant hp).2.1 hout.1
      have stops := h.issued (cmd := .stop) mayStop
      rw [Curtain.issued, if_neg fun hs => hout.2 hs.1] at stops
      exact ⟨stops, nofun⟩
    next hout =>
      refine ⟨h, fun hr => hout ⟨hr, fun hs => ?_⟩⟩
      obtain hc | hc := h.sent hs <;> exact absurd (hc.symm.trans hr) nofun

theorem CurtainSound.evacuated : CurtainSound x c.evacuated ∧ c.evacuated.outstanding ≠ some .raise := by
  unfold Curtain.evacuated
  split
  · obtain ⟨sound, out⟩ := h.raiseStopped
    exact ⟨sound.latched out .fire, out⟩
  · refine ⟨⟨h.endMotion.segment, nofun, nofun, fun _ => ⟨nofun, nofun, nofun⟩, fun _ => .inr rfl⟩, nofun⟩

/-- A warm restart (R145). -/
theorem CurtainSound.restarted : CurtainSound x c.restarted := by
  refine ⟨h.endMotion.segment, nofun, fun hr => ?_, fun hp => ?_, fun hs => ?_⟩
  all_goals simp only [Curtain.restarted] at *
  · split at hr
    · exact nomatch hr
    · split at hr <;> exact nomatch hr
  · have stays : c.motion.isSome = false := by
      rw [h.motion_eq_none (by rw [Ownership.ended_eq_pendant.mp hp]; exact nofun)]
      rfl
    rw [stays]
    split
    · exact ⟨nofun, nofun, nofun⟩
    · exact ⟨nofun, nofun, nofun⟩
  · exact .inr (if_pos hs)

end

end Sys2Proof.Machine
end

section
/-! The curtain laws of the whole part, in a stage that is a parameter; and what CTC's operations at one curtain make of
its record and of the demonstration record, up to what they hand over and post. -/

namespace Sys2Proof.Machine

/-! ### The laws of a state -/

/-- The staged entries of the Curtain Table stand in rising index (R197). -/
def CurtainsStaged (s : State) : Prop := s.tbs.staging.curtain.bank.Pairwise fun x y => x.index < y.index

/-- The curtain laws in the stage `x`. -/
structure CurtainLaws (x : Stage) (s : State) : Prop where
  numbers : (s.ctc.curtains.map (·.number)).Nodup
  each : ∀ c ∈ s.ctc.curtains, CurtainSound x c
  demo : s.ctc.demo.running = true →
    x = .normal ∧ ∃ c, demoCurtain s = some c ∧ c.motion.isSome = true ∧ c.latch = none
  staged : CurtainsStaged s

theorem curtainsConsistent_iff (s : State) : CurtainsConsistent s ↔ CurtainLaws s.asc.stage s := by
  refine ⟨fun ⟨numbers, each, demo, staged⟩ => ⟨numbers, fun c hc => ?_, demo, staged⟩,
    fun ⟨numbers, each, demo, staged⟩ => ⟨numbers, fun c hc => ?_, demo, staged⟩⟩
  · obtain ⟨segment, moving, raise, pendant, sent⟩ := each c hc
    exact ⟨segment, moving, raise, pendant, sent⟩
  · obtain ⟨segment, moving, raise, pendant, sent⟩ := each c hc
    exact ⟨segment, moving, raise, pendant, sent⟩

/-- `t` is `s` with the record of `c` replaced by `y` and the demonstration record by `d`, as far as CTC, ASC and TBS
go. -/
structure Puts (s : State) (c y : Curtain) (d : Demo) (t : State) : Prop where
  ctc : t.ctc = s.ctc.put c y d
  asc : t.asc = s.asc
  tbs : t.tbs = s.tbs

section
variable {s t : State} {c y : Curtain} {d : Demo}

theorem OneOf.puts_self (h : OneOf s.ctc c) : Puts s c c s.ctc.demo s := ⟨h.put_self.symm, rfl, rfl⟩

theorem handAll_asc (ds : List (Nat × DriveCmd)) (s : State) : (handAll ds s).asc = s.asc := by
  rw [handAll_eq]
  rfl

theorem handAll_tbs (ds : List (Nat × DriveCmd)) (s : State) : (handAll ds s).tbs = s.tbs := by
  rw [handAll_eq]
  rfl

section
variable (p : Puts s c y d t)
include p

theorem Puts.setCtc_put : t.setCtc (s.ctc.put c y d) = t := by
  rw [← p.ctc]
  rfl

theorem Puts.post (e : Event) (index : Nat) (arg : Option Nat) : Puts s c y d (post e index arg t) :=
  ⟨(post_ctc ..).trans p.ctc, (post_asc ..).trans p.asc, (post_tbs ..).trans p.tbs⟩

theorem Puts.setDemo (d' : Demo) : Puts s c y d' (setDemo d' t) := by
  have set := setDemo_put (k := s.ctc) (c := c) (y := y) (d := d) (t := t) d'
  rw [p.setCtc_put] at set
  rw [set]
  exact ⟨rfl, p.asc, p.tbs⟩

theorem Puts.modCurtain (hy : y.number = c.number) (f : Curtain → Curtain) :
    Puts s c (f y) d (modCurtain c.number f t) := by
  have changed := modCurtain_put (k := s.ctc) (d := d) (t := t) hy f
  rw [p.setCtc_put] at changed
  rw [changed]
  exact ⟨rfl, p.asc, p.tbs⟩

theorem Puts.demo : t.ctc.demo = d := by
  rw [p.ctc]
  rfl

variable (h : OneOf s.ctc c) (hy : c.Of y)
include h hy

theorem Puts.issueDrive (cmd : DriveCmd) : Puts s c (y.issued cmd) d (issueDrive c.number cmd t) := by
  have issued := h.issueDrive_put (t := t) (d := d) hy cmd
  rw [p.setCtc_put] at issued
  rw [issued, Curtain.issued]
  split
  · exact p
  · exact ⟨rfl, p.asc, p.tbs⟩

theorem Puts.segmentEnded : Puts s c y.afterSegment d (segmentEnded c.number t) := by
  have ended := h.segmentEnded_put (t := t) (d := d) hy
  rw [p.setCtc_put] at ended
  rw [ended]
  exact ⟨rfl, (handAll_asc _ t).trans p.asc, (handAll_tbs _ t).trans p.tbs⟩

theorem Puts.yieldIfHeld : ∃ z, Puts s c z d (yieldIfHeld c.number t) ∧
    (z = y ∨ y.ownership = .implicit ∧ z = y.issued .yield) := by
  have held := h.yieldIfHeld_put (t := t) (d := d) hy
  rw [p.setCtc_put] at held
  rw [held]
  split
  next hz =>
    obtain ⟨ho, -, hr⟩ := hz
    exact ⟨_, ⟨rfl, p.asc, p.tbs⟩, .inr ⟨ho, (if_neg fun hs => hr hs.1).symm⟩⟩
  · exact ⟨y, p, .inl rfl⟩

/-- After a demonstration that runs on `c` has failed, none runs there. -/
theorem Puts.failDemo (why : DemoFailure) : ∃ d', Puts s c y d' (failDemo c.number why t) ∧
    (d'.running = true → d.running = true ∧ s.ctc.flags c = false) := by
  have failed := h.failDemo_put (t := t) (d := d) hy why
  rw [p.setCtc_put] at failed
  rw [failed]
  split
  · exact ⟨_, ⟨rfl, (post_asc ..).trans p.asc, (post_tbs ..).trans p.tbs⟩, nofun⟩
  next hn =>
    refine ⟨d, p, fun hd => ⟨hd, ?_⟩⟩
    rw [hd, Bool.true_and] at hn
    exact Bool.eq_false_iff.mpr hn

theorem Puts.demoRunsOn : demoRunsOn t c.number = (d.running && s.ctc.flags c) := by
  have runs := h.demoRunsOn_put (t := t) (d := d) hy
  rwa [p.setCtc_put] at runs

theorem Puts.withUnit (hu : curtainOfUnit s c.unit = some c) (f : Curtain → State → State) :
    withUnit c.unit f t = f y t := by
  have found := h.withUnit_put (t := t) (d := d) hy hu f
  rwa [p.setCtc_put] at found
end
end

/-! ### The laws where one record is replaced -/

section
variable {x : Stage} {s t : State} {c y : Curtain} {d : Demo} (h : CurtainLaws x s)
include h

theorem CurtainLaws.of_same (hctc : t.ctc = s.ctc) (htbs : t.tbs = s.tbs) : CurtainLaws x t := by
  obtain ⟨numbers, each, demo, staged⟩ := h
  refine ⟨?_, ?_, ?_, ?_⟩
  · rwa [hctc]
  · rwa [hctc]
  · simpa only [demoCurtain, hctc] using demo
  · rwa [CurtainsStaged, htbs]

theorem CurtainLaws.oneOf (hc : c ∈ s.ctc.curtains) : OneOf s.ctc c := oneOf_of_nodup h.numbers hc

/-- The demonstration that runs on `c`. -/
theorem CurtainLaws.runs (hr : s.ctc.demo.running = true) (hc : c ∈ s.ctc.curtains) (hf : s.ctc.flags c = true) :
    x = .normal ∧ c.motion.isSome = true ∧ c.latch = none := by
  obtain ⟨stage, z, hz, hm, hl⟩ := h.demo hr
  obtain rfl : z = c := Option.some.inj (hz.symm.trans ((h.oneOf hc).flags_iff.mp hf))
  exact ⟨stage, hm, hl⟩

variable (hc : c ∈ s.ctc.curtains) (p : Puts s c y d t) (hy : c.Of y) (sound : CurtainSound x y)
include hc p hy sound

/-- The laws, where a demonstration on `c` has a segment of an unlatched record, and one elsewhere ran before. -/
theorem CurtainLaws.put (here : d.running = true → s.ctc.flags c = true →
      x = .normal ∧ y.motion.isSome = true ∧ y.latch = none)
    (elsewhere : d.running = true → s.ctc.flags c = false → s.ctc.demo.running = true) : CurtainLaws x t := by
  have one := h.oneOf hc
  have curtains : t.ctc.curtains = s.ctc.curtains.map fun z => if z.number = c.number then y else z := by
    rw [p.ctc]
    rfl
  refine ⟨?_, fun z hz => ?_, fun hr => ?_, ?_⟩
  · rw [curtains, List.map_map]
    refine (List.map_congr_left fun z hz => ?_) ▸ h.numbers
    rw [Function.comp_apply]
    split
    next hn => rw [hn, hy.number]
    next => rfl
  · rw [curtains] at hz
    obtain ⟨w, hw, rfl⟩ := List.mem_map.mp hz
    split
    · exact sound
    · exact h.each w hw
  · rw [p.demo] at hr
    have found : demoCurtain t = (demoCurtain s).map fun z => if z.number = c.number then y else z := by
      rw [demoCurtain, p.ctc]
      exact one.find?_put hy.flag
    cases hf : s.ctc.flags c with
    | true =>
      obtain ⟨stage, rest⟩ := here hr hf
      refine ⟨stage, y, ?_, rest⟩
      rw [found, demoCurtain, one.flags_iff.mp hf, Option.map_some, if_pos rfl]
    | false =>
      obtain ⟨stage, z, hz, rest⟩ := h.demo (elsewhere hr hf)
      refine ⟨stage, z, ?_, rest⟩
      have other : z.number ≠ c.number := fun hn => by
        obtain rfl := one.sole z (List.mem_of_find?_eq_some hz) hn
        rw [one.flags_iff.mpr hz] at hf
        exact nomatch hf
      rw [found, hz, Option.map_some, if_neg other]
  · rw [CurtainsStaged, p.tbs]
    exact h.staged

/-- The demonstration goes on, with the segment and without a latch where it had them. -/
theorem CurtainLaws.put_running (hd : d.running = true → s.ctc.demo.running = true)
    (hm : c.motion.isSome = true → y.motion.isSome = true) (hl : c.latch = none → y.latch = none) :
    CurtainLaws x t := by
  refine h.put hc p hy sound (fun hr hf => ?_) fun hr _ => hd hr
  obtain ⟨stage, moves, unlatched⟩ := h.runs (hd hr) hc hf
  exact ⟨stage, hm moves, hl unlatched⟩

/-- No demonstration runs on `c` any more. -/
theorem CurtainLaws.put_apart (hd : d.running = true → s.ctc.demo.running = true ∧ s.ctc.flags c = false) :
    CurtainLaws x t :=
  h.put hc p hy sound (fun hr hf => absurd ((hd hr).2.symm.trans hf) nofun) fun hr _ => (hd hr).1
end

end Sys2Proof.Machine
end

section
/-! Every operation of CTC at one curtain keeps the curtain laws (R123 to R143): the five steps of a reply, the loss
of a unit, the commands and the timers. -/

namespace Sys2Proof.Machine

theorem Curtain.Of.refl (c : Curtain) : c.Of c := ⟨rfl, rfl, rfl⟩

/-- The demonstration runs while its state is one of the three (R140). -/
theorem Demo.running_congr {d e : Demo} (h : d.state = e.state) : d.running = e.running := by
  simp only [Demo.running, h]

theorem mem_of_curtainOfUnit {s : State} {a : Nat} {c : Curtain} (h : curtainOfUnit s a = some c) :
    c ∈ s.ctc.curtains := List.mem_of_find?_eq_some h

theorem unit_of_curtainOfUnit {s : State} {a : Nat} {c : Curtain} (h : curtainOfUnit s a = some c) : c.unit = a := by
  simpa using List.find?_some h

theorem number_of_findCurtain {s : State} {n : Nat} {c : Curtain} (h : findCurtain s n = some c) : c.number = n := by
  simpa using List.find?_some h

/-- The record after STOP is issued, where a segment runs or a LOWER or a RAISE is outstanding (R137, R143). -/
def Curtain.stoppedIfMoving (c : Curtain) : Curtain := if c.motion.isSome || c.moving then c.issued .stop else c

/-- No RAISE is outstanding at such a record. -/
theorem CurtainSound.stoppedIfMoving {x : Stage} {c : Curtain} (h : CurtainSound x c) :
    CurtainSound x c.stoppedIfMoving ∧ c.stoppedIfMoving.outstanding ≠ some .raise := by
  unfold Curtain.stoppedIfMoving
  split
  next moves =>
    have mayStop : c.ownership ≠ .pendant :=
      (Bool.or_eq_true _ _ ▸ moves).elim h.not_pendant_of_motion h.not_pendant_of_moving
    refine ⟨h.issued (cmd := .stop) mayStop, ?_⟩
    unfold Curtain.issued
    split
    next hs => obtain hc | hc := h.sent hs.1 <;> rw [hc] <;> exact nofun
    next => exact nofun
  next still =>
    refine ⟨h, fun hr => still ?_⟩
    simp [Curtain.moving, hr]

section
variable {x : Stage} {s t : State} {c y : Curtain} {d : Demo} {r : DriveReply}

/-! ### Confirmation (R125) -/

theorem Puts.postConfirmed (p : Puts s c y d t) (z : Curtain) (v : CurtainState) :
    Puts s c y d (postConfirmed z v t) := by
  have found : Puts s c y d (if z.state = .unknown then Machine.post .curtainFound z.number
      (some v.code) t else t) := by
    split
    · exact p.post _ _ _
    · exact p
  unfold Machine.postConfirmed
  dsimp only
  split
  · exact found.post _ _ _
  · exact found

theorem Curtain.Of.stopIf (hy : c.Of y) (b : Bool) : c.Of (if b then y.issued .stop else y) := by
  cases b
  · exact hy
  · exact hy.issued .stop

theorem Puts.stopIf (p : Puts s c y d t) (h : OneOf s.ctc c) (hy : c.Of y) (b : Bool) :
    Puts s c (if b then y.issued .stop else y) d (if b then Machine.issueDrive c.number .stop t else t) := by
  cases b
  · exact p
  · exact p.issueDrive h hy .stop

/-- A confirmation changes the state, and issues STOP at most, outside a segment. -/
theorem Puts.confirmCurtain (p : Puts s c y d t) (h : OneOf s.ctc c) (hy : c.Of y) (sound : CurtainSound x y) :
    ∃ z, Puts s c z d (confirmCurtain r y t) ∧ c.Of z ∧ CurtainSound x z ∧ z.motion = y.motion ∧ z.latch = y.latch := by
  have set {n : Nat} (hn : n = c.number) (v : CurtainState) :
      Puts s c { y with state := v } d (Machine.postConfirmed y v (setCurtainState n v t)) := by
    subst hn
    exact (p.modCurtain hy.number fun z => { z with state := v }).postConfirmed y v
  have stops {n : Nat} (hn : n = c.number) (v : CurtainState) : Puts s c (Curtain.issued .stop { y with state := v }) d
      (Machine.issueDrive n .stop (Machine.postConfirmed y v (setCurtainState n v t))) := by
    have confirmed := set hn v
    subst hn
    exact confirmed.issueDrive h ⟨hy.number, hy.unit, hy.flag⟩ .stop
  have same (v : CurtainState) : CurtainSound x { y with state := v } := sound.of_same rfl rfl rfl rfl rfl
  unfold Machine.confirmCurtain
  split
  · split
    · exact ⟨y, p, hy, sound, rfl, rfl⟩
    next v _ =>
      dsimp only
      split
      next hun =>
        have implicit : y.ownership = .implicit := by simp_all [uncommanded]
        refine ⟨_, (stops hy.number v).post _ _ _,
          Curtain.Of.issued (y := { y with state := v }) ⟨hy.number, hy.unit, hy.flag⟩ _,
          (same v).issued (cmd := .stop) (by simp [Curtain.MayTake, implicit]), ?_⟩
        obtain he | he := Curtain.issued_eq_or .stop { y with state := v } <;> rw [he] <;> exact ⟨rfl, rfl⟩
      · exact ⟨_, set hy.number v, ⟨hy.number, hy.unit, hy.flag⟩, same v, rfl, rfl⟩
  · exact ⟨y, p, hy, sound, rfl, rfl⟩

variable (h : CurtainLaws x s)
include h

theorem CurtainLaws.withUnit {a : Nat} {f : Curtain → State → State}
    (hf : ∀ c, curtainOfUnit s a = some c → CurtainLaws x (f c s)) : CurtainLaws x (withUnit a f s) := by
  unfold Machine.withUnit
  split
  · exact hf _ ‹_›
  · exact h

variable (hc : c ∈ s.ctc.curtains)
include hc

/-- A change of the record that leaves what the laws speak of. -/
theorem CurtainLaws.modCurtain {f : Curtain → Curtain} (hf : c.Of (f c)) (hown : (f c).ownership = c.ownership)
    (hmot : (f c).motion.isSome = c.motion.isSome) (hout : (f c).outstanding = c.outstanding)
    (hlatch : (f c).latch = c.latch) (hrel : (f c).release = c.release) :
    CurtainLaws x (modCurtain c.number f s) :=
  h.put_running hc ((h.oneOf hc).puts_self.modCurtain rfl f) hf
    ((h.each c hc).of_same hown hmot hout hlatch hrel) id hmot.ge (hlatch ▸ ·)

theorem CurtainLaws.setState (v : CurtainState) : CurtainLaws x (setCurtainState c.number v s) :=
  h.modCurtain hc ⟨rfl, rfl, rfl⟩ rfl rfl rfl rfl rfl

theorem CurtainLaws.issueDrive {cmd : DriveCmd} (hcmd : c.MayTake x cmd) : CurtainLaws x
    (issueDrive c.number cmd s) := by
  refine h.put_running hc ((h.oneOf hc).puts_self.issueDrive (h.oneOf hc) (.refl c) cmd) (Curtain.Of.issued (.refl c) _)
    ((h.each c hc).issued hcmd) id ?_ ?_
  all_goals obtain he | he := Curtain.issued_eq_or cmd c <;> rw [he] <;> exact id

theorem CurtainLaws.yieldIfHeld : CurtainLaws x (yieldIfHeld c.number s) := by
  obtain ⟨z, p, hz⟩ := (h.oneOf hc).puts_self.yieldIfHeld (h.oneOf hc) (.refl c)
  obtain rfl | ⟨ho, rfl⟩ := hz
  · exact h.put_running hc p (.refl z) (h.each z hc) id id id
  · have still := (h.each c hc).motion_eq_none (by rw [ho]; exact nofun)
    refine h.put_running hc p (Curtain.Of.issued (.refl c) _) ((h.each c hc).issued (cmd := .yield) still) id ?_ ?_
    all_goals obtain he | he := Curtain.issued_eq_or .yield c <;> rw [he] <;> exact id

theorem CurtainLaws.confirmCurtain : CurtainLaws x (confirmCurtain r c s) := by
  obtain ⟨z, p, hz, sound, motion, latch⟩ := (h.oneOf hc).puts_self.confirmCurtain (h.oneOf hc) (.refl c)
    (h.each c hc) (r := r)
  exact h.put_running hc p hz sound id (by rw [motion]; exact id) (by rw [latch]; exact id)

/-! ### The acknowledgement (R124, R128, R131, R133, R136) -/

/-- The change of a curtain at which a command is outstanding no longer, and of the demonstration's times. -/
theorem CurtainLaws.answered_put {d : Demo} (p : Puts s c { c with outstanding := none } d t)
    (hd : d.running = s.ctc.demo.running) : CurtainLaws x t :=
  h.put_running hc p ⟨rfl, rfl, rfl⟩ (h.each c hc).answered hd.le id id

theorem CurtainLaws.moveRefused (hu : curtainOfUnit s c.unit = some c)
    (p : Puts s c { c with outstanding := none } s.ctc.demo t) (cmd : DriveCmd) :
    CurtainLaws x (moveRefused r cmd c t) := by
  have one := h.oneOf hc
  have ended := p.modCurtain rfl Curtain.endMotion
  obtain ⟨z, confirmed, hz, sound, -⟩ := ended.confirmCurtain one ⟨rfl, rfl, rfl⟩
    (h.each c hc).answered.endMotion (r := r)
  obtain ⟨d', failed, hd⟩ := (confirmed.post .curtainRefused c.number (some cmd.code)).failDemo one hz .refused
  unfold Machine.moveRefused
  dsimp only
  rw [ended.withUnit one ⟨rfl, rfl, rfl⟩ hu]
  split
  · exact h.put_apart hc (failed.segmentEnded one hz) hz.afterSegment sound.afterSegment hd
  · exact h.put_apart hc failed hz sound hd

/-- The acknowledgement of the outstanding command is taken (R124). -/
theorem CurtainLaws.takeAck (hu : curtainOfUnit s c.unit = some c) {cmd : DriveCmd} (hout : c.outstanding = some cmd)
    (taken : Bool) : CurtainLaws x (takeAck r (some (cmd, taken)) c s) := by
  have one := h.oneOf hc
  have sound := h.each c hc
  have free := sound.answered
  have p := one.puts_self.modCurtain rfl fun c => { c with outstanding := none }
  have kept := h.answered_put hc p rfl
  have still (hy : cmd = .yield ∨ cmd = .resume) : c.motion = none := by
    refine Option.not_isSome_iff_eq_none.mp fun hm => ?_
    obtain ⟨yields, resumes⟩ := sound.moving hm
    obtain rfl | rfl := hy
    · exact yields hout
    · exact resumes hout
  simp only [Machine.takeAck]
  cases cmd <;> cases taken <;> simp only [driveAnswered]
  case lower.false => exact h.moveRefused hc hu p .lower
  case lower.true =>
    unfold lowerTaken
    split
    · exact h.answered_put hc (p.setDemo _) (Demo.running_congr (by rw [p.demo]))
    · exact kept
  case raise.false => exact h.moveRefused hc hu p .raise
  case raise.true =>
    exact h.put_running hc (p.modCurtain rfl _) ⟨rfl, rfl, rfl⟩ (free.released (f := .none) nofun) id id id
  case stop.false =>
    exact h.put_running hc ((p.modCurtain rfl _).post _ _ _) ⟨rfl, rfl, rfl⟩
      (free.of_same (y := { c with outstanding := none, state := .fault }) rfl rfl rfl rfl rfl) id id id
  case stop.true => exact kept
  case release.false =>
    have issued := p.issueDrive one ⟨rfl, rfl, rfl⟩ .release
    have again := free.issued (cmd := .release) trivial
    have open_ : Curtain.issued .release { c with outstanding := none } = { c with outstanding := some .release } :=
      if_neg fun hs => hs.2 rfl
    rw [open_] at issued again
    unfold Machine.releaseRefused
    dsimp only
    split
    · exact h.put_running hc issued ⟨rfl, rfl, rfl⟩ again id id id
    · exact h.put_running hc ((issued.modCurtain rfl _).post _ _ _) ⟨rfl, rfl, rfl⟩
        (again.of_same (y := { c with outstanding := some .release, releaseRefused := true }) rfl rfl rfl rfl rfl)
        id id id
  case release.true =>
    exact h.put_running hc ((p.modCurtain rfl _).post _ _ _) ⟨rfl, rfl, rfl⟩
      ((free.released (f := .taken) nofun).of_same rfl rfl rfl rfl rfl) id id id
  case yield.false => exact h.answered_put hc (p.post _ _ _) rfl
  case yield.true =>
    unfold yieldTaken
    split
    · exact kept
    · exact h.put_running hc ((p.modCurtain rfl _).post _ _ _) ⟨rfl, rfl, rfl⟩
        (CurtainSound.owned (c := { c with outstanding := none }) (still (.inl rfl)) rfl (o := .pendant) nofun) id id id
  case resume.false => exact kept
  case resume.true =>
    exact h.put_running hc ((p.modCurtain rfl _).post _ _ _) ⟨rfl, rfl, rfl⟩
      (CurtainSound.owned (c := { c with outstanding := none }) (still (.inr rfl)) rfl (o := .implicit) nofun) id id id

/-! ### Release and loss (R137, R143) -/

/-- A release made at the unit ends the segment, with the latch set and STOP where something moved (R137). -/
theorem CurtainLaws.takeRelease : CurtainLaws x (takeRelease r c s) := by
  have one := h.oneOf hc
  unfold Machine.takeRelease
  split
  · have p := (one.puts_self.modCurtain rfl (localRecord r s)).post .curtainLocalRelease c.number (some c.position)
    have released := (h.each c hc).released (f := .localRelease) nofun
    have stopped := p.stopIf one ⟨rfl, rfl, rfl⟩ (c.motion.isSome || c.moving)
    have hz := Curtain.Of.stopIf (c := c) (y := localRecord r s c) ⟨rfl, rfl, rfl⟩ (c.motion.isSome || c.moving)
    have sound : CurtainSound x
        (if c.motion.isSome || c.moving then (localRecord r s c).issued .stop else localRecord r s c) := by
      obtain ⟨sound, out⟩ := ((h.each c hc).released (f := .localRelease) nofun).stoppedIfMoving
      have record := sound.endMotion.latched out .localRelease
      unfold Curtain.stoppedIfMoving at record
      by_cases moves : (c.motion.isSome || c.moving) = true
      · rw [if_pos (by exact moves), Curtain.issued, if_neg (by exact nofun)] at record
        rw [if_pos moves, Curtain.issued, if_neg (by exact nofun)]
        exact record.of_same rfl rfl rfl rfl rfl
      · rw [if_neg (by exact moves)] at record
        rw [if_neg moves]
        exact record.of_same rfl rfl rfl rfl rfl
    obtain ⟨d', failed, hd⟩ := stopped.failDemo one hz .localRelease
    unfold Machine.localRelease
    dsimp only
    split
    · exact h.put_apart hc (failed.post _ _ _) hz sound hd
    · exact h.put_apart hc failed hz sound hd
  · exact h
end

end Sys2Proof.Machine
end

section
/-! The curtain laws through the states that a reply shows, the hold request, the loss of a unit, the commands and the
timers (R124 to R143). -/

namespace Sys2Proof.Machine

section
variable {x : Stage} {s t : State} {c y : Curtain} {d : Demo} {r : DriveReply}

theorem Curtain.Of.state (h : c.Of y) (v : CurtainState) : c.Of { y with state := v } := ⟨h.number, h.unit, h.flag⟩

theorem CurtainSound.state (h : CurtainSound x c) (v : CurtainState) : CurtainSound x { c with state := v } :=
  h.of_same rfl rfl rfl rfl rfl

/-- The record after STOP is issued and the segment removed, in the state `v` (R127, R129, R130). -/
def Curtain.stoppedAs (v : CurtainState) (c : Curtain) : Curtain := { (c.issued .stop).endMotion with state := v }

theorem Curtain.Of.stoppedAs (h : c.Of y) (v : CurtainState) : c.Of (y.stoppedAs v) :=
  have hi := h.issued .stop
  ⟨hi.number, hi.unit, hi.flag⟩

theorem CurtainSound.stoppedAs (h : CurtainSound x c) (hm : c.motion.isSome = true) (v : CurtainState) :
    CurtainSound x (c.stoppedAs v) := (h.issued (cmd := .stop) (h.not_pendant_of_motion hm)).endMotion.state v

/-- The record in which a segment has begun (R127). -/
def Curtain.startedAt (now : Nat) (up : Bool) (c : Curtain) : Curtain :=
  { c.issued (if up then .raise else .lower) with
    ownership := .explicit, motion := some ⟨up, now, now⟩, state := if up then .raising else .lowering }

theorem Curtain.Of.startedAt (h : c.Of y) (now : Nat) (up : Bool) : c.Of (y.startedAt now up) :=
  have hi := h.issued (if up then .raise else .lower)
  ⟨hi.number, hi.unit, hi.flag⟩

theorem Curtain.startedAt_latch (now : Nat) (up : Bool) (c : Curtain) : (c.startedAt now up).latch = c.latch := by
  obtain he | he := Curtain.issued_eq_or (if up then .raise else .lower) c <;> simp [Curtain.startedAt, he]

/-- LOWER, or with no latch in NORMAL RAISE, begins a segment. -/
theorem CurtainSound.startedAt (h : CurtainSound x c) (now : Nat) {up : Bool}
    (hr : up = true → c.latch = none ∧ x = .normal) : CurtainSound x (c.startedAt now up) := by
  unfold Curtain.startedAt Curtain.issued
  generalize hcmd : (if up then DriveCmd.raise else DriveCmd.lower) = cmd
  have move : cmd ≠ .yield ∧ cmd ≠ .resume ∧ cmd ≠ .release ∧ (cmd = .raise → up = true) := by
    cases up <;> subst hcmd <;> simp
  obtain ⟨not_yield, not_resume, not_release, raises⟩ := move
  split
  next hs =>
    obtain hout | hout := h.sent hs.1 <;> constructor <;> simp [hout]
  next hs =>
    have unsent : c.release ≠ .sent := fun hc => hs ⟨hc, not_release⟩
    refine ⟨⟨fun _ => rfl, fun _ => rfl⟩, fun _ => ⟨?_, ?_⟩, fun hc => hr (raises ?_), nofun,
      fun hc => absurd hc unsent⟩
    · simpa using not_yield
    · simpa using not_resume
    · simpa using hc

variable (h : CurtainLaws x s)
include h

theorem CurtainLaws.posted {rec : EventRecord} : CurtainLaws x (postRecord rec s) :=
  h.of_same (postRecord_ctc _ _) (postRecord_tbs _ _)

theorem CurtainLaws.post (e : Event) (n : Nat) (arg : Option Nat) : CurtainLaws x (post e n arg s) :=
  h.of_same (post_ctc ..) (post_tbs ..)

/-- No demonstration runs in the new record. -/
theorem CurtainLaws.setDemo (hd : d.running = false) : CurtainLaws x (setDemo d s) :=
  ⟨h.numbers, h.each, fun hr => absurd (hd.symm.trans hr) nofun, h.staged⟩

variable (hc : c ∈ s.ctc.curtains)
include hc

theorem CurtainLaws.segmentEnded : CurtainLaws x (segmentEnded c.number s) :=
  h.put_running hc ((h.oneOf hc).puts_self.segmentEnded (h.oneOf hc) (.refl c)) (Curtain.Of.afterSegment (.refl c))
    (h.each c hc).afterSegment id id id

theorem CurtainLaws.demoRunsOn : demoRunsOn s c.number = (s.ctc.demo.running && s.ctc.flags c) :=
  (h.oneOf hc).puts_self.demoRunsOn (h.oneOf hc) (.refl c)

/-- Where the demonstration does not run on `c`, it runs elsewhere or not at all. -/
theorem CurtainLaws.apart (hn : Machine.demoRunsOn s c.number = false) (hr : s.ctc.demo.running = true) :
    s.ctc.demo.running = true ∧ s.ctc.flags c = false := by
  rw [h.demoRunsOn hc, hr, Bool.true_and] at hn
  exact ⟨hr, hn⟩

/-! ### The end of a segment (R127 to R130, R141, R142) -/

/-- A segment is stopped, with an event, and the demonstration on it fails (R129, R130). -/
theorem CurtainLaws.segmentFails (hm : c.motion.isSome = true) (v : CurtainState) (e : Event) (arg : Option Nat)
    (why : DemoFailure) : CurtainLaws x (Machine.segmentEnded c.number (failDemo c.number why
      (Machine.post e c.number arg
      (Machine.modCurtain c.number (fun c => { c.endMotion with state := v })
        (Machine.issueDrive c.number .stop s))))) := by
  have one := h.oneOf hc
  have hy := Curtain.Of.stoppedAs (.refl c) v
  obtain ⟨d', failed, hd⟩ := (((one.puts_self.issueDrive one (.refl c) .stop).modCurtain
    (Curtain.Of.issued (.refl c) .stop).number fun c => { c.endMotion with state := v }).post e c.number arg).failDemo
      one hy why
  exact h.put_apart hc (failed.segmentEnded one hy) hy.afterSegment ((h.each c hc).stoppedAs hm v).afterSegment hd

theorem CurtainLaws.stopSegment (hm : c.motion.isSome = true) (hn : Machine.demoRunsOn s c.number = false) :
    CurtainLaws x (stopSegment c.number s) := by
  have one := h.oneOf hc
  have hy := Curtain.Of.stoppedAs (.refl c) .stopped
  have ended := (one.puts_self.issueDrive one (.refl c) .stop).modCurtain (Curtain.Of.issued (.refl c) .stop).number
    fun c => { c.endMotion with state := .stopped }
  exact h.put_apart hc (ended.segmentEnded one hy) hy.afterSegment ((h.each c hc).stoppedAs hm .stopped).afterSegment
    (h.apart hc hn)

theorem CurtainLaws.segmentLimit (hn : Machine.demoRunsOn s c.number = false) (v : CurtainState) :
    CurtainLaws x (segmentLimit v c s) := by
  have one := h.oneOf hc
  have ended := (one.puts_self.modCurtain rfl fun c => { c.endMotion with state := v }).post .curtainMoved c.number
    (some v.code)
  have sound := ((h.each c hc).endMotion.state v).afterSegment
  exact h.put_apart hc (ended.segmentEnded one ⟨rfl, rfl, rfl⟩) ⟨rfl, rfl, rfl⟩ sound (h.apart hc hn)

theorem CurtainLaws.demoPassed : CurtainLaws x (demoPassed c s) := by
  have one := h.oneOf hc
  have passed := (((one.puts_self.modCurtain rfl fun c => { c.endMotion with state := .raised }).setDemo
    { s.ctc.demo with state := .passed }).post .demonstrationPassed c.number
      (s.ctc.demo.loweringTime.map fun t => t / 100))
  have sound := ((h.each c hc).endMotion.state .raised).afterSegment
  exact h.put_apart hc (passed.segmentEnded one ⟨rfl, rfl, rfl⟩) ⟨rfl, rfl, rfl⟩ sound nofun

theorem CurtainLaws.demoLowered (hr : s.ctc.demo.running = true) : CurtainLaws x (demoLowered c s) :=
  h.put_running hc (((h.oneOf hc).puts_self.modCurtain rfl fun c => { c with state := .lowered }).setDemo _)
    ⟨rfl, rfl, rfl⟩ ((h.each c hc).state .lowered) (fun _ => hr) id id

/-! ### Step 4: state -/

theorem CurtainLaws.segmentReply {m : Motion} (hm : c.motion = some m) : CurtainLaws x (segmentReply r m c s) := by
  have moves : c.motion.isSome = true := by rw [hm]; rfl
  have obstructed : CurtainLaws x (segmentObstructed c s) :=
    h.segmentFails hc moves .stopped .curtainObstructed (some c.position) .obstruction
  unfold Machine.segmentReply
  split
  next runs =>
    split
    next lowering =>
      have running : s.ctc.demo.running = true := by simp only [Demo.running, lowering]
      exact ite_kept (h.demoLowered hc running) (ite_kept obstructed h)
    · exact ite_kept (h.demoPassed hc) h
    all_goals exact h
  next apart =>
    have apart := Bool.eq_false_iff.mpr apart
    exact ite_kept (ite_kept (h.segmentLimit hc apart _) h)
      (ite_kept (h.segmentLimit hc apart _) (ite_kept obstructed h))

theorem CurtainLaws.descentReply (before : Bool) : CurtainLaws x (descentReply r before c s) := by
  have down : CurtainLaws x (Machine.modCurtain c.number (fun z =>
      { z with state := .lowered, lastDescent := some (descentTimeOf c s), descent := none }) s) :=
    h.modCurtain hc ⟨rfl, rfl, rfl⟩ rfl rfl rfl rfl rfl
  unfold Machine.descentReply
  refine ite_kept ?_ (ite_kept (h.setState hc _).posted (h.setState hc _))
  exact (down.of_same (t := (Machine.modCurtain c.number _ s).setFresh (s.fresh + 1)) rfl rfl).post _ _ _

theorem CurtainLaws.postConfirmed (z : Curtain) (v : CurtainState) : CurtainLaws x (postConfirmed z v s) := by
  have p := (h.oneOf hc).puts_self.postConfirmed z v
  exact h.put_running hc p (.refl c) (h.each c hc) id id id

theorem CurtainLaws.pendantReply (before : Bool) : CurtainLaws x (pendantReply r before c s) := by
  have shown : CurtainLaws x (match r.confirmed with
      | some v => Machine.postConfirmed c v (setCurtainState c.number v s)
      | none => s) := by
    split
    next v _ =>
      exact h.put_running hc (((h.oneOf hc).puts_self.modCurtain rfl fun c => { c with state := v }).postConfirmed c v)
        ⟨rfl, rfl, rfl⟩ ((h.each c hc).state v) id id id
    · exact h
  exact ite_kept (shown.post _ _ _) shown

theorem CurtainLaws.takeState (before : Bool) : CurtainLaws x (takeState r before c s) := by
  unfold Machine.takeState
  refine ite_kept (h.descentReply hc before) (ite_kept (ite_kept (h.post _ _ _) h) ?_)
  split
  · exact h.segmentReply hc ‹_›
  · exact ite_kept (h.pendantReply hc before) (h.confirmCurtain hc)

/-! ### Step 5: the hold request (R131 to R133) -/

theorem CurtainLaws.takeHold (ack : Option (DriveCmd × Bool)) : CurtainLaws x (takeHold r ack c s) := by
  have still (hp : c.ownership = .pendant) : c.motion = none :=
    (h.each c hc).motion_eq_none (by rw [hp]; exact nofun)
  unfold Machine.takeHold
  split
  · exact ite_kept h (h.yieldIfHeld hc)
  · exact h
  · exact h.modCurtain hc ⟨rfl, rfl, rfl⟩ rfl rfl rfl rfl rfl
  · exact h
  next hp _ => exact ite_kept (h.issueDrive hc (cmd := .yield) (still hp)) h
  next hp _ => exact ite_kept h (h.issueDrive hc (cmd := .resume) (still hp))

/-! ### Loss of a unit (R143) -/

theorem CurtainLaws.lost : CurtainLaws x (failDemo c.number .lost
    (Machine.modCurtain c.number (fun c => { c.endMotion with holdWaiting := false })
      (if c.motion.isSome || c.moving then Machine.issueDrive c.number .stop (Machine.post .curtainLost c.number
          (some c.position) (Machine.modCurtain c.number (fun c =>
            { c with state := .unknown, latch := some .lost }) s))
        else Machine.post .curtainLost c.number (some c.position)
          (Machine.modCurtain c.number (fun c => { c with state := .unknown, latch := some .lost }) s)))) := by
  have one := h.oneOf hc
  have p := (one.puts_self.modCurtain rfl fun c => { c with state := .unknown, latch := some .lost }).post
    .curtainLost c.number (some c.position)
  have record : c.Of { c with state := .unknown, latch := some .lost } := ⟨rfl, rfl, rfl⟩
  have stopped := record.stopIf (c.motion.isSome || c.moving)
  have ended := (p.stopIf one record (c.motion.isSome || c.moving)).modCurtain stopped.number
    fun c => { c.endMotion with holdWaiting := false }
  obtain ⟨d', failed, hd⟩ := ended.failDemo one ⟨stopped.number, stopped.unit, stopped.flag⟩ .lost
  refine h.put_apart hc failed ⟨stopped.number, stopped.unit, stopped.flag⟩ ?_ hd
  obtain ⟨sound, out⟩ := (h.each c hc).stoppedIfMoving
  have sound := sound.endMotion.latched out .lost
  unfold Curtain.stoppedIfMoving at sound
  by_cases moves : (c.motion.isSome || c.moving) = true
  · rw [if_pos moves] at sound ⊢
    unfold Curtain.issued at sound ⊢
    by_cases hs : c.release = .sent
    · rw [if_pos ⟨hs, nofun⟩] at sound
      rw [if_pos ⟨hs, nofun⟩]
      exact sound.of_same rfl rfl rfl rfl rfl
    · rw [if_neg fun h => hs h.1] at sound
      rw [if_neg fun h => hs h.1]
      exact sound.of_same rfl rfl rfl rfl rfl
  · rw [if_neg moves] at sound ⊢
    exact sound.of_same rfl rfl rfl rfl rfl

omit hc in
theorem CurtainLaws.curtainLost (a : Nat) : CurtainLaws x (curtainLost a s) := by
  unfold Machine.curtainLost
  split
  · exact h
  next hu => exact h.lost (mem_of_curtainOfUnit hu)

/-! ### The commands and the timers (R126, R127, R130, R136, R139, R140, R141, R142) -/

/-- A segment begins (R127). -/
theorem Puts.startSegment (up : Bool) :
    Puts s c (c.startedAt s.time up) s.ctc.demo (startSegment c.number up s) := by
  have one := h.oneOf hc
  have begun := (one.puts_self.issueDrive one (.refl c) (if up then .raise else .lower)).modCurtain
    (Curtain.Of.issued (.refl c) _).number fun c =>
      { c with
        ownership := .explicit
        motion := some ⟨up, s.time, s.time⟩
        state := if up then .raising else .lowering }
  unfold Machine.startSegment
  exact begun

theorem CurtainLaws.startSegment {up : Bool} (hr : up = true → c.latch = none ∧ x = .normal) :
    CurtainLaws x (startSegment c.number up s) :=
  h.put_running hc (Puts.startSegment h hc up) (Curtain.Of.startedAt (.refl c) _ up)
    ((h.each c hc).startedAt s.time hr) id (fun _ => rfl) (by rw [Curtain.startedAt_latch]; exact id)

/-- The latch is removed (R139). -/
theorem CurtainLaws.unlatched : CurtainLaws x (Machine.modCurtain c.number (fun c => { c with latch := none }) s) :=
  h.put_running hc ((h.oneOf hc).puts_self.modCurtain rfl fun c => { c with latch := none }) ⟨rfl, rfl, rfl⟩
    (h.each c hc).unlatched id id fun _ => rfl

/-- The demonstration's curtain is the one flagged. -/
theorem CurtainLaws.flagged (hf : demoCurtain s = some c) : s.ctc.flags c = true :=
  (h.oneOf hc).flags_iff.mpr hf

/-- The demonstration starts in NORMAL at its unlatched curtain (R140). -/
theorem CurtainLaws.startDemo (hf : demoCurtain s = some c) (stage : x = .normal) (hl : c.latch = none) :
    CurtainLaws x (startDemo c.number s) :=
  h.put hc ((Puts.startSegment h hc false).setDemo _) (Curtain.Of.startedAt (.refl c) _ _)
    ((h.each c hc).startedAt s.time nofun) (fun _ _ => ⟨stage, rfl, by rw [Curtain.startedAt_latch, hl]⟩)
    fun _ apart => absurd (apart.symm.trans (h.flagged hc hf)) nofun

/-- The demonstration's curtain is raised again at the end of the dwell (R141). -/
theorem CurtainLaws.dwellEnds (hf : demoCurtain s = some c) (hr : s.ctc.demo.running = true) {d : Demo} :
    CurtainLaws x (Machine.setDemo d (Machine.startSegment c.number true s)) := by
  obtain ⟨stage, -, hl⟩ := h.runs hr hc (h.flagged hc hf)
  exact h.put hc ((Puts.startSegment h hc true).setDemo _) (Curtain.Of.startedAt (.refl c) _ _)
    ((h.each c hc).startedAt s.time fun _ => ⟨hl, stage⟩)
    (fun _ _ => ⟨stage, rfl, by rw [Curtain.startedAt_latch, hl]⟩)
    fun _ apart => absurd (apart.symm.trans (h.flagged hc hf)) nofun

/-- The demonstration's lowering is stopped at its limit (R142). -/
theorem CurtainLaws.loweringEnds (hf : demoCurtain s = some c) (hr : s.ctc.demo.running = true) :
    CurtainLaws x (Machine.segmentEnded c.number (failDemo c.number .overtime
      (Machine.modCurtain c.number (fun c => { c.endMotion with state := .stopped })
        (Machine.issueDrive c.number .stop s)))) := by
  obtain ⟨-, hm, -⟩ := h.runs hr hc (h.flagged hc hf)
  have one := h.oneOf hc
  have hy := Curtain.Of.stoppedAs (.refl c) .stopped
  obtain ⟨d', failed, hd⟩ := ((one.puts_self.issueDrive one (.refl c) .stop).modCurtain
    (Curtain.Of.issued (.refl c) .stop).number
      fun c => { c.endMotion with state := .stopped }).failDemo one hy .overtime
  exact h.put_apart hc (failed.segmentEnded one hy) hy.afterSegment
    ((h.each c hc).stoppedAs hm .stopped).afterSegment hd

end

end Sys2Proof.Machine
end

section
/-! The curtain laws through what the alarm, the phases and the restart do to every curtain (R134, R135, R138, R142,
R145): after the entry to a stage other than NORMAL they hold in every stage. -/

namespace Sys2Proof.Machine

section
variable {x y : Stage} {s t : State} (h : CurtainLaws x s)
include h

/-- An abandoned demonstration does not run, nor does any other (R142). -/
theorem CurtainLaws.abandoned_not_running : (abandonedDemo s).running = false := by
  unfold abandonedDemo
  split
  · rfl
  next hn =>
    refine Bool.eq_false_iff.mpr fun hr => hn ⟨hr, ?_⟩
    obtain ⟨-, c, hc, -⟩ := h.demo hr
    rw [hc]
    rfl

theorem CurtainLaws.abandonDemo (cause : Nat) : CurtainLaws x (abandonDemo cause s) := by
  have ctc := abandonDemo_ctc cause s
  have demo : (Machine.abandonDemo cause s).ctc.demo.running = false := by
    rw [ctc]
    exact h.abandoned_not_running
  refine ⟨?_, ?_, fun hr => absurd (demo.symm.trans hr) nofun, ?_⟩
  · rw [ctc]
    exact h.numbers
  · rw [ctc]
    exact h.each
  · rw [CurtainsStaged, (abandonDemo_sameCore cause s).tbs]
    exact h.staged

omit h in
theorem CurtainSound.segmentEndedIf {c : Curtain} (h : CurtainSound x c) (b : Curtain → Bool) (demo : Option Curtain) :
    CurtainSound x (c.segmentEndedIf b demo) := by
  unfold Curtain.segmentEndedIf
  split
  · exact h.endMotion.afterSegment
  · exact h

/-- Every curtain in turn, after the demonstration is abandoned and its segment ended. -/
theorem CurtainLaws.foldl_acted {cause : Nat} {b : Curtain → Bool} {op : Nat → State → State}
    {f : Curtain → Curtain} {g : Curtain → List DriveCmd} (hn : ∀ c, (f c).number = c.number)
    (hop : ∀ (s : State) (c : Curtain), (s.ctc.curtains.map (·.number)).Nodup → c ∈ s.ctc.curtains →
      op c.number s = s.acted c (f c) (g c))
    (ht : t = (s.ctc.curtains.map (·.number)).foldl (fun s n => op n s) (endSegmentIf b (Machine.abandonDemo cause s)))
    (driven : Driven (Machine.abandonDemo cause s) t) (sound : ∀ c, CurtainSound x c → CurtainSound y (f c)) :
    CurtainLaws y t := by
  have records := foldl_acted_curtains hn hop b cause h.numbers ht
  have demo : t.ctc.demo.running = false := by
    rw [driven.abandoned_demo]
    exact h.abandoned_not_running
  refine ⟨?_, fun c hc => ?_, fun hr => absurd (demo.symm.trans hr) nofun, ?_⟩
  · have same : t.ctc.curtains.map (·.number) = s.ctc.curtains.map (·.number) := by
      rw [records, List.map_map]
      exact List.map_congr_left fun c _ => (hn _).trans (Curtain.segmentEndedIf_number _ _ c)
    rw [same]
    exact h.numbers
  · rw [records] at hc
    obtain ⟨z, hz, rfl⟩ := List.mem_map.mp hc
    exact sound _ ((h.each z hz).segmentEndedIf b _)
  · rw [CurtainsStaged, driven.abandoned_sameCore.tbs]
    exact h.staged

/-- The stage leaves NORMAL for INVESTIGATE (R134). -/
theorem CurtainLaws.curtainsInvestigate (y : Stage) : CurtainLaws y (curtainsInvestigate s) :=
  h.foldl_acted Curtain.raiseStopped_number (fun _ _ hs hc => stopRaising_eq hs hc) (curtainsInvestigate_eq s)
    (curtainsInvestigate_driven s) fun _ hc =>
      have ⟨sound, out⟩ := hc.raiseStopped
      sound.of_not_raise out y

/-- The entry to EVACUATE (R135). -/
theorem CurtainLaws.curtainsEvacuate (y : Stage) : CurtainLaws y (curtainsEvacuate s) :=
  h.foldl_acted Curtain.evacuated_number (fun _ _ hs hc => evacuateCurtain_eq hs hc) (curtainsEvacuate_eq s)
    (curtainsEvacuate_driven s) fun _ hc =>
      have ⟨sound, out⟩ := hc.evacuated
      sound.of_not_raise out y

/-- The warm restart (R145). -/
theorem CurtainLaws.curtainsRestart : CurtainLaws x (curtainsRestart s) :=
  h.foldl_acted (b := fun _ => false) (f := Curtain.restarted) (fun _ => rfl) (fun _ _ hs hc => restartCurtain_eq hs hc)
    (by
      have none (u : State) : endSegmentIf (fun _ => false) u = u := by
        unfold endSegmentIf
        split
        · rfl
        · rfl
      rw [none]
      rfl)
    (curtainsRestart_driven s) fun _ hc => hc.restarted

/-- The entry to PRESHOW (R142). -/
theorem CurtainLaws.curtainsPreshow : CurtainLaws x (curtainsPreshow s) := by
  unfold Machine.curtainsPreshow
  refine CurtainLaws.setDemo ?_ rfl
  split
  next c hf =>
    split
    next running =>
      have hc : c ∈ s.ctc.curtains := List.mem_of_find?_eq_some hf
      obtain ⟨-, hm, -⟩ := h.runs running hc (h.flagged hc hf)
      have left := h.abandonDemo abandonPreshow
      have mem : c ∈ (Machine.abandonDemo abandonPreshow s).ctc.curtains := by rwa [abandonDemo_ctc]
      have one := left.oneOf mem
      have hi := Curtain.Of.issued (.refl c) .stop
      have ended := ((one.puts_self.issueDrive one (.refl c) .stop).modCurtain hi.number Curtain.endMotion).segmentEnded
        one ⟨hi.number, hi.unit, hi.flag⟩
      have sound := ((h.each c hc).issued (cmd := .stop) ((h.each c hc).not_pendant_of_motion hm)).endMotion
      refine left.put_apart mem ended ⟨hi.number, hi.unit, hi.flag⟩ sound.afterSegment fun hr => ?_
      rw [abandonDemo_ctc] at hr
      exact absurd (h.abandoned_not_running.symm.trans hr) nofun
    next => exact h
  next => exact h
end

end Sys2Proof.Machine
end

section
/-! The curtain laws through the tables (R144, R197 to R202): the staged entries of the Curtain Table stand in rising
index, and a commit of it completes only where every curtain is settled. -/

namespace Sys2Proof.Machine

/-! ### The staged entries (R197, R198) -/

theorem curtainsStaged_iff (s : State) : CurtainsStaged s ↔ InOrder 0 (s.tbs.staging.get .curtain).bank :=
  ⟨fun h => ⟨h, fun _ _ => Nat.zero_le _⟩, fun h => h.1⟩

section
variable {s t : State}

theorem CurtainsStaged.of_staging (h : CurtainsStaged s) (ht : t.tbs.staging = s.tbs.staging) : CurtainsStaged t := by
  rwa [CurtainsStaged, ht]

theorem CurtainsStaged.setStaging {j : TableId} {x : Staging} (h : CurtainsStaged s)
    (hx : j = .curtain → InOrder 0 x.bank) : CurtainsStaged (setStaging j x s) := by
  rw [curtainsStaged_iff, Machine.setStaging, State.setTbs_tbs, perTable_get_set]
  split
  next eq => exact hx eq.symm
  next => exact (curtainsStaged_iff s).mp h

/-- The bank of a table with another state. -/
theorem CurtainsStaged.setState {j : TableId} (h : CurtainsStaged s) (x : BankState) :
    CurtainsStaged (Machine.setStaging j { s.tbs.staging.get j with state := x } s) :=
  h.setStaging fun eq => by subst eq; exact (curtainsStaged_iff s).mp h

theorem CurtainsStaged.empty {j : TableId} (h : CurtainsStaged s) (x : BankState) :
    CurtainsStaged (Machine.setStaging j ⟨x, []⟩ s) := h.setStaging fun _ => inOrder_nil _

theorem CurtainsStaged.reopenQueued (h : CurtainsStaged s) : CurtainsStaged (reopenQueued s) :=
  foldl_kept (P := CurtainsStaged) _ (fun _ _ hu => ite_kept (P := CurtainsStaged) (hu.setState _) hu) _ h

theorem CurtainsStaged.activate (h : CurtainsStaged s) : CurtainsStaged (activate s) :=
  foldl_kept (P := CurtainsStaged) _ (fun _ _ hu => ite_kept (P := CurtainsStaged) (hu.empty _) hu) _ h

theorem CurtainsStaged.changeCommit (h : CurtainsStaged s) (x : CommitState) (f : Option Failure) :
    CurtainsStaged (changeCommit x f s) := h.of_staging rfl

theorem CurtainsStaged.noteTables (h : CurtainsStaged s) : CurtainsStaged (noteTables s) := h.of_staging rfl

theorem CurtainsStaged.complete (h : CurtainsStaged s) : CurtainsStaged (complete s) := by
  have passed := h.activate.changeCommit .passed none
  exact passed.of_staging (by rw [Machine.complete, rebuildOwners_tbs])

theorem CurtainsStaged.commitQueued (h : CurtainsStaged s) : CurtainsStaged (commitQueued s).state := by
  unfold Machine.commitQueued
  split
  · exact h.noteTables.reopenQueued.changeCommit _ _
  · split
    · exact h.noteTables.complete
    · exact h.noteTables.changeCommit _ _

theorem CurtainsStaged.written {p : List Byte} (h : CurtainsStaged s) : CurtainsStaged (stageWriteCmd p s).state := by
  unfold stageWriteCmd
  split
  · exact h
  next j _ =>
    unfold stageWriteAt
    split
    · exact h
    · split
      · exact h
      next writes =>
        refine h.setStaging fun eq => ?_
        subst eq
        exact inOrder_placeEntries ((curtainsStaged_iff s).mp h) (Nat.zero_le _) _
end

theorem storeLaw_curtainsStaged : StoreLaw CurtainsStaged where
  same h ht := h.of_staging (by rw [ht])
  reexamined h := ite_kept (P := CurtainsStaged) (h.complete.of_staging (by rw [post_tbs])) h
  restarted h := by
    rw [storeRestart_eq]
    exact .nil
  opened {p s} h := by
    unfold stageOpenCmd
    split
    · exact h
    · exact answer_ite_kept (answer_ite_kept h (h.empty _)) h
  written h := h.written
  queued {p s} h := by
    unfold stageQueueCmd
    split
    · exact h
    · exact answer_ite_kept (answer_ite_kept h (answer_ite_kept h (h.setState _))) h
  committed h := answer_ite_kept h (answer_ite_kept h (answer_ite_kept h h.commitQueued))
  aborted h := answer_ite_kept h (answer_ite_kept (h.reopenQueued.changeCommit _ _) h)
  authority {p s} h := by
    unfold setAuthorityCmd
    refine answer_ite_kept h ?_
    split
    · exact h
    · exact h.of_staging rfl
  locked h := answer_ite_kept h (answer_ite_kept h (h.of_staging (by rw [post_tbs]; rfl)))

/-! ### What CTC, ASC's stage and TBS determine -/

/-- `P` speaks of CTC's and TBS's records and of the stage alone. -/
structure OfCurtains (P : State → Prop) : Prop where
  same : ∀ {s t}, P s → t.ctc = s.ctc → t.tbs = s.tbs → t.asc.stage = s.asc.stage → P t

theorem ofCurtains_laws (x : Stage) : OfCurtains (CurtainLaws x) := ⟨fun h hctc htbs _ => h.of_same hctc htbs⟩

theorem ofCurtains_consistent : OfCurtains CurtainsConsistent := ⟨fun {s t} h hctc htbs hstage => by
  rw [curtainsConsistent_iff] at h ⊢
  rw [hstage]
  exact h.of_same hctc htbs⟩

section
variable {P : State → Prop} (h : OfCurtains P)
include h

theorem OfCurtains.core {s t : State} (hs : P s) (hc : t.core = s.core) (hctc : t.ctc = s.ctc) : P t := by
  obtain ⟨-, -, -, asc, tbs⟩ := core_eq_iff.mp hc
  exact h.same hs hctc tbs (by rw [asc])

theorem OfCurtains.posted {r : EventRecord} {s : State} (hs : P s) : P (postRecord r s) :=
  h.core hs (core_of_sameCore (sameCore_postRecord r s)) (postRecord_ctc r s)

theorem OfCurtains.links : KeptByLinks P := ⟨h.posted, fun hs => h.same hs rfl rfl rfl⟩

theorem OfCurtains.calls : KeptByCalls P :=
  ⟨h.links, fun _ hs => h.same hs rfl rfl rfl, fun hs =>
    have ⟨core, ctc⟩ := sameCore_placeCall _ _
    h.core hs (core_of_sameCore core) ctc⟩

theorem OfCurtains.output : KeptByOutput P := ⟨fun hs => h.same hs rfl rfl rfl, fun hs => h.same hs rfl rfl rfl⟩

theorem OfCurtains.signal : KeptBySignal P :=
  ⟨h.output, h.posted, fun hs => h.same hs rfl rfl rfl, fun hs => h.same hs rfl rfl rfl⟩

theorem OfCurtains.zones : KeptByZones P := ⟨h.posted, fun hs => h.same hs rfl rfl rfl⟩

variable {s : State} (hs : P s)
include hs

theorem OfCurtains.closeWhole (z : Nat) : P (closeWhole z s).1 := by
  have begun := closeBegin_kept h.zones z s hs
  unfold Machine.closeWhole
  dsimp only
  split
  · exact closeReport_kept h.links _ _ _ begun
  · exact begun

theorem OfCurtains.closeAllWhole : P (closeAllWhole s).1 :=
  foldl_pair_kept _ _ (fun _ z hu => h.closeWhole hu z) hs

theorem OfCurtains.zonesRebuild : P (zonesRebuild s) := h.same (h.closeAllWhole hs) rfl rfl rfl

theorem OfCurtains.windowsTold (leaving : Bool) : P (windowsTold leaving s).1 := by
  cases leaving
  · exact hs
  · exact h.closeAllWhole hs

/-- The owners' rebuilds, that of the curtains apart (R201). -/
theorem OfCurtains.rebuildOwners {q : TableId → Bool}
    (hc : ∀ u, u.ctc = s.ctc → u.tbs = s.tbs → u.asc.stage = s.asc.stage → P u → q .curtain = true →
      P (curtainsRebuild u)) : P (rebuildOwners q s) := by
  have keeps : OfCurtains fun u => P u ∧ u.ctc = s.ctc ∧ u.tbs = s.tbs ∧ u.asc.stage = s.asc.stage :=
    ⟨fun ⟨hu, ctc, tbs, stage⟩ hctc htbs hstage =>
      ⟨h.same hu hctc htbs hstage, hctc.trans ctc, htbs.trans tbs, hstage.trans stage⟩⟩
  unfold Machine.rebuildOwners
  refine whenState_kept _ _ (reissueOutstanding_kept h.links) _ ?_
  refine whenState_kept _ _ (callsLoopRebuilt_kept h.calls) _ ?_
  refine whenState_kept _ _ (callsCleared_kept h.calls) _ ?_
  have rebuilt := fun u hu => keeps.zonesRebuild (s := u) hu
  have before := whenState_kept (q .poll) _ (loopRebuild_kept keeps.links) s ⟨hs, rfl, rfl, rfl⟩
  have before := whenState_kept (q .slot) _ (streamCommit_kept keeps.signal) _ before
  have before := whenState_kept (q .house) _ (houseRebuild_kept keeps.output) _ before
  have before := whenState_kept (q .slot || q .cue) _ (debounceCommit_kept keeps.signal) _ before
  obtain ⟨hu, ctc, tbs, stage⟩ := whenState_kept (q .zone) _ rebuilt _ before
  generalize whenState (q .zone) Machine.zonesRebuild _ = u at hu ctc tbs stage ⊢
  unfold whenState
  split
  next queued => exact hc u ctc tbs stage hu queued
  next => exact hu
end

/-! ### The rebuild of the curtains (R144) -/

theorem rebuiltCurtain_number (old : List Curtain) (e : BankEntry) : (rebuiltCurtain old e).number = e.index := by
  unfold rebuiltCurtain
  dsimp only
  split
  · rfl
  · rfl

theorem CurtainSound.rebuilt {x : Stage} {old : List Curtain} (h : ∀ c ∈ old, CurtainSound x c) (e : BankEntry) :
    CurtainSound x (rebuiltCurtain old e) := by
  unfold rebuiltCurtain
  dsimp only
  split
  next c hc => exact (h c (List.mem_of_find?_eq_some hc)).of_same rfl rfl rfl rfl rfl
  next => exact .new rfl rfl rfl

section
variable {x : Stage} {s : State} (h : CurtainLaws x s)
include h

/-- No demonstration runs while every curtain is settled (R200). -/
theorem CurtainLaws.not_running_of_settled (hs : s.ctc.curtains.all Curtain.settled = true) :
    s.ctc.demo.running = false := by
  refine Bool.eq_false_iff.mpr fun hr => ?_
  obtain ⟨-, c, hc, hm, -⟩ := h.demo hr
  have mem : c ∈ s.ctc.curtains := List.mem_of_find?_eq_some hc
  have settled := List.all_eq_true.mp hs c mem
  simp only [Curtain.settled, Bool.and_eq_true, beq_iff_eq] at settled
  exact nomatch settled.2.symm.trans ((h.each c mem).segment.mpr hm)

/-- The records made of a bank in order, while every curtain is settled, meet the laws. -/
theorem CurtainLaws.curtainsRebuild (hs : s.ctc.curtains.all Curtain.settled = true)
    (hb : InOrder 0 s.tbs.active.curtain) : CurtainLaws x (curtainsRebuild s) := by
  have idle := h.not_running_of_settled hs
  refine ⟨?_, fun c hc => ?_, fun hr => ?_, h.staged⟩
  · have numbers : (Machine.curtainsRebuild s).ctc.curtains.map (·.number) = s.tbs.active.curtain.map (·.index) := by
      show (s.tbs.active.curtain.map (rebuiltCurtain s.ctc.curtains)).map (·.number) = _
      rw [List.map_map]
      exact List.map_congr_left fun e _ => rebuiltCurtain_number _ e
    rw [numbers]
    exact List.pairwise_map.mpr (hb.1.imp fun hlt => hlt.ne)
  · obtain ⟨e, -, rfl⟩ := List.mem_map.mp hc
    exact .rebuilt h.each e
  · have still : (Machine.curtainsRebuild s).ctc.demo.running = false := by
      unfold Machine.curtainsRebuild
      dsimp only [State.setCtc_ctc]
      split
      · exact idle
      · rfl
    exact absurd (still.symm.trans hr) nofun
end

/-- The curtain bank that a completion makes active, when the staged one was in order and QUEUED. -/
theorem inOrder_completedSet_curtain {s : State} (h : CurtainsStaged s) (hq : isQueued s .curtain = true) :
    InOrder 0 (completedSet s).curtain := by
  have queued : (s.tbs.staging.get .curtain).state = .queued := by
    simpa using (List.mem_filter.mp (List.contains_iff_mem.mp hq)).2
  have set : (completedSet s).curtain = s.tbs.staging.curtain.bank := by
    have pick := prospective_get s .curtain
    rwa [if_pos queued] at pick
  rw [set]
  exact (curtainsStaged_iff s).mp h

/-! ### Completion (R200, R201) -/

/-- `t` has the curtain laws of `s` when only TBS's records differ and the staged entries stand in order. -/
theorem CurtainsConsistent.stored {s t : State} (h : CurtainsConsistent s) (hf : t.ctc = s.ctc ∧ t.asc = s.asc)
    (staged : CurtainsStaged t) : CurtainsConsistent t := by
  obtain ⟨hctc, hasc⟩ := hf
  rw [curtainsConsistent_iff] at h ⊢
  obtain ⟨numbers, each, demo, -⟩ := h
  rw [hasc]
  refine ⟨?_, ?_, ?_, staged⟩
  · rwa [hctc]
  · rwa [hctc]
  · simpa only [demoCurtain, hctc] using demo

theorem keptByTables_ctc_asc (s : State) : KeptByTables fun t => t.ctc = s.ctc ∧ t.asc = s.asc where
  posted {r t} h := by rwa [postRecord_ctc, postRecord_asc]
  tbs _ h := h

section
variable {s : State} (h : CurtainsConsistent s)
include h

theorem CurtainsConsistent.staged : CurtainsStaged s := ((curtainsConsistent_iff s).mp h).staged

theorem CurtainsConsistent.complete (hp : safePoint s = true) : CurtainsConsistent (complete s) := by
  have kept : (changeCommit .passed none (activate s)).ctc = s.ctc ∧
    (changeCommit .passed none (activate s)).asc = s.asc :=
    changeCommit_kept (keptByTables_ctc_asc s) .passed none _ (activate_kept (keptByTables_ctc_asc s) _ ⟨rfl, rfl⟩)
  have passed := h.stored kept (h.staged.activate.changeCommit .passed none)
  have active : (changeCommit .passed none (activate s)).tbs.active = completedSet s := by
    rw [changeCommit_active, activate_active]
  have records := kept.1
  unfold Machine.complete
  generalize changeCommit .passed none (activate s) = v at passed active records
  refine ofCurtains_consistent.rebuildOwners passed fun u ctc tbs stage hu queued => ?_
  have settled : u.ctc.curtains.all Curtain.settled = true := by
    rw [ctc]
    simp only [safePoint, Bool.and_eq_true, queued, Bool.not_true, Bool.false_or] at hp
    rw [records]
    exact hp.1.2
  have order : InOrder 0 u.tbs.active.curtain := by
    rw [tbs, active]
    exact inOrder_completedSet_curtain h.staged queued
  exact (curtainsConsistent_iff _).mpr (((curtainsConsistent_iff u).mp hu).curtainsRebuild settled order)

theorem CurtainsConsistent.reexamine : CurtainsConsistent (reexamine s) := by
  unfold Machine.reexamine
  split
  next due =>
    rw [Bool.and_eq_true] at due
    exact post_kept ofCurtains_consistent.posted _ _ _ _ (h.complete due.2)
  next => exact h

theorem CurtainsConsistent.committed (p : List Byte) : CurtainsConsistent (commitCmd p s).state := by
  have noted : CurtainsConsistent (noteTables s) := h.stored ⟨rfl, rfl⟩ h.staged.noteTables
  have beside := keptByTables_ctc_asc (noteTables s)
  refine answer_ite_kept h (answer_ite_kept h (answer_ite_kept h ?_))
  unfold commitQueued
  split
  · exact noted.stored (changeCommit_kept beside _ _ _ (reopenQueued_kept beside _ ⟨rfl, rfl⟩))
      (noted.staged.reopenQueued.changeCommit _ _)
  · split
    next hp => exact noted.complete hp
    next => exact noted.stored ⟨rfl, rfl⟩ (noted.staged.changeCommit _ _)
end

end Sys2Proof.Machine
end

section
/-! The curtain laws through the alarm, the windows, the phases, CTC's own commands and replies, and CLC (chapters 1,
5, 6, 7 and 8). -/

namespace Sys2Proof.Machine

/-! ### A change of stage (R107, R110, R111, R114, R116) -/

section
variable {x y : Stage} {s : State} (h : CurtainLaws x s)
include h

theorem CurtainLaws.consistent (hx : s.asc.stage = x) : CurtainsConsistent s :=
  (curtainsConsistent_iff s).mpr (by rwa [hx])

/-- Outside NORMAL no RAISE is outstanding and no demonstration runs, so that the laws hold in every stage. -/
theorem CurtainLaws.restage (hx : x ≠ .normal) (y : Stage) : CurtainLaws y s := by
  obtain ⟨numbers, each, demo, staged⟩ := h
  exact ⟨numbers, fun c hc => (each c hc).of_not_raise (fun hr => hx ((each c hc).raise hr).2) y,
    fun hr => absurd (demo hr).1 hx, staged⟩

theorem CurtainLaws.setAsc (a : Alarm) : CurtainLaws x (s.setAsc a) := h.of_same rfl rfl

/-- The entry to INVESTIGATE (R107, R114). -/
theorem CurtainLaws.enterInvestigate (y : Stage) : CurtainLaws y (enterInvestigate s).1 :=
  have laws := ofCurtains_laws x
  CurtainLaws.curtainsInvestigate (x := x) (laws.windowsTold (streamTold_kept laws.signal _ _
    (staffAlert_kept laws.calls _ (laws.posted (h.setAsc _)))) _) y

/-- The entry to EVACUATE (R111, R114). -/
theorem CurtainLaws.enterEvacuate (general : Bool) (cause : Nat) (fireGroup : Option Nat) (y : Stage) :
    CurtainLaws y (enterEvacuate general cause fireGroup s).1 :=
  have before := ofCurtains_laws x
  have after := ofCurtains_laws y
  groupsTold_kept after.calls _ _ (seizeChannel_kept after.calls _
    (CurtainLaws.curtainsEvacuate (x := x) (before.windowsTold (streamTold_kept before.signal _ _
      (houseEvacuate_kept before.output _ (foldl_kept _ (fun _ _ hu => postStarted_kept before.links _ _ hu) _
        (before.posted (h.setAsc _))))) _) y))

/-- The stage becomes NORMAL (R110, R116). -/
theorem CurtainLaws.returnToNormal (hx : x ≠ .normal) : CurtainsConsistent (returnToNormal s) :=
  CurtainLaws.consistent (x := .normal) (markIdle_kept (ofCurtains_laws .normal).signal _
    ((h.restage hx _).setAsc _)) rfl
end

section
variable {s : State} (h : CurtainsConsistent s)
include h

theorem CurtainsConsistent.laws : CurtainLaws s.asc.stage s := (curtainsConsistent_iff s).mp h

theorem CurtainsConsistent.setAsc {a : Alarm} (ha : a.stage = s.asc.stage) : CurtainsConsistent (s.setAsc a) :=
  ofCurtains_consistent.same h rfl rfl ha

theorem CurtainsConsistent.entered (general : Bool) (cause : Nat) (fireGroup : Option Nat) :
    CurtainsConsistent (enterEvacuate general cause fireGroup s).1 :=
  (h.laws.enterEvacuate general cause fireGroup _).consistent rfl

theorem CurtainsConsistent.freed : CurtainsConsistent (freed s) := select_kept ofCurtains_consistent.calls _ h.reexamine

/-! ### Fires and windows (R90 to R95, R98, R103 to R105, R112) -/

theorem CurtainsConsistent.startGroup (g : Nat) (cause : StartCause) : CurtainsConsistent (startGroup g cause s) := by
  have laws := ofCurtains_consistent
  unfold Machine.startGroup
  split
  · exact evacuateGroup_kept laws.calls _ _ (postStarted_kept laws.links _ _ (h.setAsc rfl))
  all_goals exact h

theorem CurtainsConsistent.fireUnderAlarm (f : Fire) : CurtainsConsistent (fireUnderAlarm f s) := by
  unfold Machine.fireUnderAlarm
  split
  · exact h.entered _ _ _
  · unfold fireInEvacuate
    split
    · exact h.startGroup _ _
    · exact h.startGroup _ _
    · exact ite_kept h (foldl_kept _ (fun _ _ hu => hu.startGroup _ _) _
        (ofCurtains_consistent.posted (h.setAsc (a := { s.asc with general := true }) rfl)))
  · exact h

theorem CurtainsConsistent.takeFire (f : Fire) : CurtainsConsistent (takeFire f s) := by
  have origin : CurtainsConsistent (recordOrigin f s) := h.setAsc rfl
  have first : CurtainsConsistent (fireInNormal f s).1 := by
    unfold fireInNormal
    split
    · exact (origin.laws.enterInvestigate _).consistent rfl
    · exact origin.entered _ _ _
    · exact origin.entered _ _ _
  unfold Machine.takeFire
  split
  · exact foldl_kept (P := CurtainsConsistent) _ (fun _ f hu => hu.fireUnderAlarm f) _ first
  all_goals exact h.fireUnderAlarm f

theorem CurtainsConsistent.closeWindow (z : Nat) : CurtainsConsistent (closeWindow z s) := by
  have laws := ofCurtains_consistent
  have begun := closeBegin_kept laws.zones z s h
  unfold Machine.closeWindow
  dsimp only
  split
  · refine closeReport_kept laws.links _ _ _ ?_
    unfold takeFire?
    split
    · exact begun.takeFire _
    · exact begun
  · exact h

theorem CurtainsConsistent.closeAllWindows : CurtainsConsistent (closeAllWindows s) :=
  foldl_kept (P := CurtainsConsistent) _ (fun _ z hu => hu.closeWindow z) _ h

theorem CurtainsConsistent.suppressAt (zs : List Nat) (d : Nat) : CurtainsConsistent (suppressAt zs d s).state := by
  refine answer_ite_kept h (answer_ite_kept h (answer_ite_kept ?_ ?_))
  · exact foldl_pair_kept _ _ (fun _ z hu => hu.closeWindow z) h
  · exact suppressZones_kept ofCurtains_consistent.zones _ _ _ _ h

theorem CurtainsConsistent.reportFire (r : Zone) : CurtainsConsistent (reportFire r s) := by
  have zones := ofCurtains_consistent.zones
  unfold Machine.reportFire
  split
  · exact ite_kept h (CurtainsConsistent.takeFire (latchZone_kept zones r s h) _)
  · exact ite_kept h (post_kept zones.posted _ _ _ _ (modZone_kept zones _ _ _ h))

theorem CurtainsConsistent.notePrealarm (z : Nat) (before after : Condition) :
    CurtainsConsistent (notePrealarm z before after s) := ite_kept (h.setAsc rfl) h

theorem CurtainsConsistent.inputReport (unit input value : Nat) :
    CurtainsConsistent (inputReport unit input value s) := by
  have laws := ofCurtains_consistent
  unfold Machine.inputReport
  split
  next r _ =>
    have noted := modZone_kept laws.zones r.number (fun x => { x with condition := Condition.ofReport value }) s h
    have told := postCondition_kept laws.links r.number r.condition (Condition.ofReport value) _
      (ite_kept (c := Condition.ofReport value = .fire) (CurtainsConsistent.reportFire noted r) noted)
    have recorded := CurtainsConsistent.notePrealarm told r.number r.condition (Condition.ofReport value)
    exact ite_kept recorded (clearDeferred_kept laws.zones r _ recorded)
  · exact h

theorem CurtainsConsistent.loseZone (unit input : Nat) : CurtainsConsistent (loseZone unit input s) := by
  have laws := ofCurtains_consistent
  unfold Machine.loseZone
  split
  · exact postCondition_kept laws.links _ _ _ _ (modZone_kept laws.zones _ _ _ h)
  · exact h

/-! ### The phases (R4, R5, R12) -/

theorem CurtainsConsistent.enterPhase (new : Phase) : CurtainsConsistent (enterPhase new s) := by
  have laws := ofCurtains_consistent
  unfold Machine.enterPhase
  split
  · exact markIdle_kept laws.signal _ h
  · have told := budgetsPreshow_kept laws.zones s h
    exact told.laws.curtainsPreshow.consistent
      ((curtainsPreshow_sameCore (budgetsPreshow s)).asc ▸ rfl)
  · exact rebuildIfSending_kept laws.output _ h
  all_goals exact h

theorem CurtainsConsistent.transition (new : Phase) (minutes : Option Nat) :
    CurtainsConsistent (transition new minutes s) := by
  have laws := ofCurtains_consistent
  have begun : CurtainsConsistent (s.setPhc (enteredRecord s new minutes)) := h
  have exited : CurtainsConsistent (exitPhase s.phc.phase (s.setPhc (enteredRecord s new minutes))) := by
    unfold exitPhase
    split
    · exact begun.closeAllWindows
    · exact clearSchedule_kept laws.calls _ begun
    all_goals exact begun
  have filled := fillPhase_kept laws.calls new _ (exited.enterPhase new).reexamine
  exact ite_kept (laws.posted (laws.posted filled)) (laws.posted filled)

theorem CurtainsConsistent.setPhaseAt (code : Nat) (minutes : Option Nat) :
    CurtainsConsistent (setPhaseAt code minutes s).state := by
  unfold Machine.setPhaseAt
  split
  · exact h
  · exact answer_ite_kept h (answer_ite_kept h (answer_ite_kept h (answer_ite_kept h (h.transition _ _))))

/-! ### The commands and the timers of ASC (R108 to R112, R116) -/

theorem CurtainsConsistent.alarmAckCmd (p : List Byte) : CurtainsConsistent (alarmAckCmd p s).state := by
  refine answer_ite_kept h (answer_ite_kept ?_ h)
  exact post_kept ofCurtains_consistent.posted _ _ _ _ (h.setAsc rfl)

theorem CurtainsConsistent.alarmFalseCmd (p : List Byte) : CurtainsConsistent (alarmFalseCmd p s).state := by
  refine answer_ite_kept h ?_
  split
  next stage =>
    have laws := ofCurtains_laws s.asc.stage
    have removed := removeDetection_kept laws.calls _ (clearLatches_kept laws.zones _ h.laws)
    exact answer_ite_kept h (CurtainsConsistent.freed
      (CurtainLaws.returnToNormal (laws.posted (removed.setAsc _)) (by rw [stage]; exact nofun)))
  next => exact h

theorem CurtainsConsistent.alarmResetCmd (p : List Byte) : CurtainsConsistent (alarmResetCmd p s).state := by
  refine answer_ite_kept h ?_
  split
  next stage =>
    have laws := ofCurtains_laws s.asc.stage
    have left : CurtainLaws s.asc.stage (s.setPhc { s.phc with phase := .houseClear, start := s.time }) :=
      h.laws.of_same rfl rfl
    have forced : CurtainLaws s.asc.stage (forceClear s) := laws.posted
      (ite_kept (clearSchedule_kept laws.calls _ left) left)
    have cleared := clearLatches_kept laws.zones _ (houseAlarmReset_kept laws.output _ forced)
    exact answer_ite_kept h (CurtainsConsistent.freed (channelAlarmReset_kept ofCurtains_consistent.calls _
      (CurtainLaws.returnToNormal (laws.posted (cleared.setAsc _)) (by rw [stage]; exact nofun))))
  next => exact h

end

end Sys2Proof.Machine
end

section
/-! The curtain laws through CTC's replies, commands and timers (R124 to R143), and through CLC, which comes to TBS's
re-examination when the channel becomes free (R156, R200). -/

namespace Sys2Proof.Machine

section
variable {s : State} (h : CurtainsConsistent s)
include h

/-! ### A drive unit's reply and its loss (R124, R143) -/

/-- What CTC does at the curtain of a drive unit, in the stage as it stands. -/
theorem CurtainsConsistent.withUnit {a : Nat} {f : Curtain → State → State}
    (hasc : ∀ c, (f c s).asc = s.asc) (hf : ∀ c ∈ s.ctc.curtains, CurtainLaws s.asc.stage (f c s)) :
    CurtainsConsistent (withUnit a f s) := by
  unfold Machine.withUnit
  split
  next c hu => exact (hf c (mem_of_curtainOfUnit hu)).consistent (by rw [hasc])
  next => exact h

theorem CurtainsConsistent.takeRelease (a : Nat) (r : DriveReply) :
    CurtainsConsistent (Machine.withUnit a (takeRelease r) s) :=
  h.withUnit (fun c => takeRelease_kept (keptByOwners_asc s.asc).toKeptByCurtains r c s rfl)
    fun _ hc => h.laws.takeRelease hc

theorem CurtainsConsistent.takeState (a : Nat) (r : DriveReply) (before : Bool) :
    CurtainsConsistent (Machine.withUnit a (takeState r before) s) :=
  h.withUnit (fun c => takeState_kept (keptByOwners_asc s.asc) r before c s rfl) fun _ hc => h.laws.takeState hc before

theorem CurtainsConsistent.takeHold (a : Nat) (r : DriveReply) (ack : Option (DriveCmd × Bool)) :
    CurtainsConsistent (Machine.withUnit a (takeHold r ack) s) :=
  h.withUnit (fun c => takeHold_kept (keptByOwners_asc s.asc).toKeptByCurtains r ack c s rfl)
    fun _ hc => h.laws.takeHold hc ack

/-- Steps 1 and 2: an acknowledgement is heeded only of the command that is outstanding (R123). -/
theorem CurtainsConsistent.takeAck (a : Nat) (r : DriveReply) (ack : Option (DriveCmd × Bool)) : CurtainsConsistent
    (Machine.withUnit a (takeAck r (heededAck a ack s)) (Machine.withUnit a (notePosition r) s)) := by
  cases hu : curtainOfUnit s a with
  | none => simpa only [Machine.withUnit, hu] using h
  | some c =>
    have mem := mem_of_curtainOfUnit hu
    obtain rfl := unit_of_curtainOfUnit hu
    have one := h.laws.oneOf mem
    have noted : c.Of (c.noted r s.time) := ⟨rfl, rfl, rfl⟩
    have p : Puts s c (c.noted r s.time) s.ctc.demo (notePosition r c s) := one.puts_self.modCurtain rfl _
    have laws : CurtainLaws s.asc.stage (notePosition r c s) :=
      h.laws.modCurtain mem noted rfl (by simp) rfl rfl rfl
    have asc : (notePosition r c s).asc = s.asc := rfl
    have position : Machine.withUnit c.unit (notePosition r) s = notePosition r c s := by
      simp only [Machine.withUnit, hu]
    have found : curtainOfUnit (notePosition r c s) (c.noted r s.time).unit = some (c.noted r s.time) := by
      rw [← p.setCtc_put]
      exact one.curtainOfUnit_put noted hu
    rw [position, p.withUnit one noted hu]
    obtain none | ⟨cmd, taken, z, rfl, heeded, hz, hout⟩ := heededAck_cases c.unit ack s
    · rw [none]
      exact laws.consistent (by rw [asc])
    · obtain rfl : c = z := Option.some.inj (hu.symm.trans hz)
      rw [heeded]
      refine (laws.takeAck (mem_of_curtainOfUnit found) found hout taken).consistent ?_
      rw [takeAck_kept (keptByOwners_asc (notePosition r c s).asc).toKeptByCurtains r _ _ _ rfl, asc]

theorem CurtainsConsistent.driveReply (a : Nat) (r : DriveReply) (ack : Option (DriveCmd × Bool)) :
    CurtainsConsistent (driveReply a r ack s) := by
  unfold Machine.driveReply
  dsimp only
  refine CurtainsConsistent.takeHold ?_ a r _
  refine CurtainsConsistent.reexamine (CurtainsConsistent.takeState ?_ a r _)
  refine CurtainsConsistent.reexamine (CurtainsConsistent.takeRelease ?_ a r)
  exact (h.takeAck a r ack).reexamine

theorem CurtainsConsistent.driveUnitLost (a : Nat) : CurtainsConsistent (driveUnitLost a s) :=
  ((h.laws.curtainLost a).consistent (by
    rw [curtainLost_kept (keptByOwners_asc s.asc).toKeptByCurtains a s rfl])).reexamine

/-! ### CURTAIN MOVE, CLEAR LATCH and DEMONSTRATE (R126, R127, R139, R140) -/

theorem CurtainsConsistent.startSegment {c : Curtain} (hc : c ∈ s.ctc.curtains) {up : Bool}
    (hr : up = true → c.latch = none ∧ s.asc.stage = .normal) : CurtainsConsistent (startSegment c.number up s) :=
  (h.laws.startSegment hc hr).consistent (by
    rw [startSegment_kept (keptByOwners_asc s.asc).toKeptByCurtains _ _ s rfl])

theorem CurtainsConsistent.stopSegment {c : Curtain} (hc : c ∈ s.ctc.curtains) (hm : c.motion.isSome = true)
    (hn : demoRunsOn s c.number = false) : CurtainsConsistent (stopSegment c.number s) :=
  (h.laws.stopSegment hc hm hn).consistent (by rw [stopSegment_kept (keptByOwners_asc s.asc).toKeptByCurtains _ s rfl])

theorem CurtainsConsistent.curtainMoveAt (number motion : Nat) :
    CurtainsConsistent (curtainMoveAt number motion s).state := by
  unfold Machine.curtainMoveAt
  split
  · exact h
  next c found =>
    obtain rfl := number_of_findCurtain found
    have hc : c ∈ s.ctc.curtains := List.mem_of_find?_eq_some found
    split
    · exact h
    · split
      · exact h
      next free =>
        have apart : demoRunsOn s c.number = false := by
          simp only [moveRefusedBy, Bool.or_eq_true, not_or, Bool.not_eq_true] at free
          exact free.1.1.1.2
        split
        · exact h
        next open_ =>
          split
          · unfold stopTaken
            split
            next moves => exact (h.stopSegment hc moves apart).reexamine
            next => exact h
          · unfold moveTaken
            refine answer_ite_kept h (answer_ite_kept h (CurtainsConsistent.reexamine (h.startSegment hc fun up => ?_)))
            have raise : motion = 2 := by simpa using up
            have allowed := fun barred => open_ ⟨raise, barred⟩
            exact ⟨by simpa using fun l => allowed (.inl l), by_contra fun stage => allowed (.inr stage)⟩

theorem CurtainsConsistent.clearLatchCmd (p : List Byte) : CurtainsConsistent (clearLatchCmd p s).state := by
  unfold Machine.clearLatchCmd
  split
  · exact h
  next number _ =>
    unfold clearLatchAt
    split
    · exact h
    next c found =>
      obtain rfl := number_of_findCurtain found
      have hc : c ∈ s.ctc.curtains := List.mem_of_find?_eq_some found
      split
      · exact h
      · split
        · exact h
        · split
          · exact h
          · split
            · exact h
            · exact post_kept ofCurtains_consistent.posted _ _ _ _ ((h.laws.unlatched hc).consistent rfl)

theorem CurtainsConsistent.demonstrateCmd (p : List Byte) : CurtainsConsistent (demonstrateCmd p s).state := by
  unfold Machine.demonstrateCmd
  split
  · exact h
  · split
    · exact h
    next c flagged =>
      split
      · exact h
      next free =>
        split
        · exact h
        next ready =>
          have normal : s.asc.stage = .normal := by
            simp only [demoRefused, Bool.or_eq_true, not_or, bne_iff_ne, not_not] at free
            exact free.1.1.2
          have unlatched : c.latch = none := by
            simp only [demoCurtainRefused, Bool.or_eq_true, not_or] at ready
            simpa using ready.1.1.1.2
          exact ((h.laws.startDemo (List.mem_of_find?_eq_some flagged) flagged normal unlatched).consistent (by
            rw [startDemo_kept (keptByOwners_asc s.asc).toKeptByCurtains _ s rfl])).reexamine

/-! ### CTC's timers (R130, R136, R141, R142) -/

theorem CurtainsConsistent.stallExpire (n : Nat) : CurtainsConsistent (stallExpire n s) := by
  unfold Machine.stallExpire
  split
  next c found =>
    split
    next due =>
      have hc : c ∈ s.ctc.curtains := List.mem_of_find?_eq_some found
      have moves : c.motion.isSome = true := by
        simp only [stallDue, Bool.and_eq_true] at due
        cases hm : c.motion with
        | none => simp [hm] at due
        | some m => rfl
      have keeps := (keptByOwners_asc s.asc).toKeptByCurtains
      refine ((h.laws.segmentFails hc moves .fault .curtainStalled (some c.position) .stall).consistent ?_).reexamine
      exact congrArg Alarm.stage (segmentEnded_kept keeps _ _ (failDemo_kept keeps _ _ _ (keeps.posted
        (modCurtain_kept keeps _ _ _ (issueDrive_kept keeps _ _ _ rfl)))))
    next => exact h
  · exact h

theorem CurtainsConsistent.descentExpire (n : Nat) : CurtainsConsistent (descentExpire n s) := by
  unfold Machine.descentExpire
  split
  next c found =>
    obtain rfl := number_of_findCurtain found
    have hc : c ∈ s.ctc.curtains := List.mem_of_find?_eq_some found
    refine ite_kept (post_kept ofCurtains_consistent.posted _ _ _ _ (CurtainLaws.consistent ?_ rfl)) h
    exact h.laws.modCurtain hc ⟨rfl, rfl, rfl⟩ rfl rfl rfl rfl rfl
  · exact h

theorem CurtainsConsistent.dwellExpire : CurtainsConsistent (dwellExpire s) := by
  unfold Machine.dwellExpire
  split
  next c flagged =>
    split
    next due =>
      have running : s.ctc.demo.running = true := by
        simp only [dwellDue, Bool.and_eq_true, beq_iff_eq] at due
        simp only [Demo.running, due.1]
      have keeps := (keptByOwners_asc s.asc).toKeptByCurtains
      refine ((h.laws.dwellEnds (List.mem_of_find?_eq_some flagged) flagged running).consistent ?_).reexamine
      rw [setDemo_kept keeps _ _ (startSegment_kept keeps _ _ _ rfl)]
    next => exact h
  · exact h

theorem CurtainsConsistent.loweringExpire : CurtainsConsistent (loweringExpire s) := by
  unfold Machine.loweringExpire
  split
  next c flagged =>
    split
    next due =>
      have running : s.ctc.demo.running = true := by
        simp only [loweringDue, Bool.and_eq_true, beq_iff_eq] at due
        simp only [Demo.running, due.1]
      have keeps := (keptByOwners_asc s.asc).toKeptByCurtains
      refine ((h.laws.loweringEnds (List.mem_of_find?_eq_some flagged) flagged running).consistent ?_).reexamine
      rw [segmentEnded_kept keeps _ _ (failDemo_kept keeps _ _ _ (modCurtain_kept keeps _ _ _
        (issueDrive_kept keeps _ _ _ rfl)))]
    next => exact h
  · exact h

theorem CurtainsConsistent.curtainsRestart : CurtainsConsistent (curtainsRestart s) :=
  h.laws.curtainsRestart.consistent (by rw [(curtainsRestart_driven s).abandoned_sameCore.asc])
end

end Sys2Proof.Machine
end

section
/-! CLC comes to TBS's re-examination of a waiting commit only when the channel becomes free (R156, R200): what CLC's
own changes and the re-examination keep, every operation of CLC keeps. -/

namespace Sys2Proof.Machine

/-- `P` is kept by CLC's own changes and by TBS's re-examination of a waiting commit. -/
structure ChannelLaw (P : State → Prop) : Prop extends KeptByCalls P where
  reexamined : ∀ {s}, P s → P (reexamine s)

section
variable {P : State → Prop} (h : ChannelLaw P)
include h
variable {s : State} (hs : P s)
include hs

theorem ChannelLaw.noted {x : Calls} (hq : x.queue = s.clc.queue) : P (s.setClc x) := h.clc (by rw [hq]) hs

theorem ChannelLaw.freed : P (freed s) := select_kept h.toKeptByCalls _ (h.reexamined hs)

/-- STOP PLAY is issued, and the current call is over. -/
theorem ChannelLaw.stopped : P (dropCurrent (unitIssue (.stopPlay false) s)) :=
  dropCurrent_kept h.toKeptByCalls _ (unitIssue_kept h.toKeptByLinks _ _ hs)

/-! ### CANCEL CALLS and the timers (R155, R159, R163) -/

theorem ChannelLaw.cancelAt (p : Nat) : P (cancelAt p s) := by
  have left : P (setQueue (s.clc.queue.filter fun c => !decide (c.priority.code ≤ p)) s) :=
    h.clc (List.length_filter_le _ _) hs
  unfold Machine.cancelAt
  dsimp only
  split
  · exact h.freed (h.posted (h.stopped left))
  · split
    · exact left
    · exact h.posted left

theorem ChannelLaw.overrunExpire : P (overrunExpire s) := by
  unfold Machine.overrunExpire
  split
  · exact ite_kept (h.freed (h.posted (h.stopped hs))) hs
  · exact hs

theorem ChannelLaw.afterPage : P (afterPage s) := ite_kept (resumeEvacuation_kept h.toKeptByCalls _ hs) (h.freed hs)

theorem ChannelLaw.pageLimitExpire : P (pageLimitExpire s) :=
  ite_kept (h.afterPage (endPage_kept h.toKeptByCalls _ _ _ _ hs)) hs

/-! ### The announcer unit's replies (R159, R164) -/

theorem ChannelLaw.callEnds (c : Call) : P (callEnds c s) := by
  have dropped := dropCurrent_kept h.toKeptByCalls _ hs
  unfold Machine.callEnds
  refine h.freed ?_
  split
  · exact h.posted dropped
  · exact h.posted dropped

theorem ChannelLaw.playingReply (r : UnitReply) (ack : Option (LoopCmd × Bool)) (c : Call) :
    P (playingReply r ack c s) := by
  have taken := playIsTaken_kept h.toKeptByCalls c _ hs
  unfold Machine.playingReply
  split
  · exact h.freed (h.posted (dropCurrent_kept h.toKeptByCalls _ hs))
  · exact ite_kept (h.callEnds taken _) taken
  all_goals exact ite_kept (h.callEnds hs _) hs

theorem ChannelLaw.announcerReply (r : UnitReply) (ack : Option (LoopCmd × Bool)) : P (announcerReply r ack s) := by
  have noted : P (s.setClc { s.clc with unitReport := some (r.activity, r.part) }) := h.noted hs (by rfl)
  unfold Machine.announcerReply
  refine ite_kept (announcerRegained_kept h.toKeptByCalls _ _ noted) ?_
  split
  · exact h.playingReply noted _ _ _
  · exact evacReply_kept h.toKeptByCalls _ _ _ noted
  · exact noted

/-! ### The paging stations (R157, R160, R163, R166) -/

theorem ChannelLaw.requestRose (cls : PageClass) : P (requestRose cls s) := by
  unfold Machine.requestRose
  split
  · exact select_kept h.toKeptByCalls _ hs
  · exact ite_kept (cutCall_kept h.toKeptByCalls _ _ hs) hs
  · exact ite_kept (h.afterPage (endPage_kept h.toKeptByCalls _ _ _ _ hs)) hs
  · exact ite_kept (fireInEvacuation_kept h.toKeptByCalls _ hs) hs

theorem ChannelLaw.requestShown (a : Nat) (cls : PageClass) (zones : FohSet) : P (requestShown a cls zones s) := by
  have listed (rs : List Request) : P (setRequests rs s) := setRequests_kept h.toKeptByCalls rs _ hs
  unfold Machine.requestShown
  split
  · exact ite_kept hs (h.requestRose (listed _) _)
  · split
    · exact hs
    · exact hs
    · exact ite_kept (h.requestRose (listed _) _) (listed _)

theorem ChannelLaw.requestGone (a : Nat) : P (requestGone a s) := by
  have ended : P (if (s.clc.holder.map fun h => h.1 == a).getD false then endPage false .pageEnded id s else s) :=
    ite_kept (endPage_kept h.toKeptByCalls _ _ _ _ hs) hs
  have listed (rs : List Request) := setRequests_kept h.toKeptByCalls rs _ ended
  exact ite_kept (h.afterPage (listed _)) (listed _)

theorem ChannelLaw.pagingReply (a : Nat) (cls : Option PageClass) (zones : FohSet) : P (pagingReply a cls zones s) := by
  have revoked := owedRevoke_kept h.toKeptByCalls a _ hs
  unfold Machine.pagingReply
  cases cls with
  | none => exact h.requestGone (h.noted revoked (by rfl)) a
  | some k => exact h.requestShown (h.noted revoked (by rfl)) a k zones
end

end Sys2Proof.Machine
end

section
/-! A law on the records of the owners: what PHC, ZMN, ASC, CTC, CLC and TBS keep of the timebase and of their
records, every command and every step keep. The other blocks have no part in these records but through a cue's
actions, the loop's replies and the restart. A `CoreLaw` speaks neither of CTC's nor of CLC's records, and so needs
nothing of these two. -/

namespace Sys2Proof.Machine

/-- The timebase and the records of PHC, ZMN, ASC, CTC, CLC and TBS. -/
def State.owned (s : State) : (Nat × ShowRecord × Zones × Alarm × TableStore) × Curtains × Calls :=
  (s.core, s.ctc, s.clc)

theorem evaluateAttention_owned (s : State) : (evaluateAttention s).owned = s.owned := by
  simp only [State.owned, evaluateAttention_core, evaluateAttention_ctc, evaluateAttention_clc]

theorem postRecord_owned (r : EventRecord) (s : State) : (postRecord r s).owned = s.owned := by
  simp only [State.owned, core_of_sameCore (sameCore_postRecord r s), postRecord_ctc, postRecord_clc]

/-- `P` speaks of those records alone, and is kept by what their blocks do. -/
structure OwnersLaw (P : State → Prop) : Prop where
  same : ∀ {s t}, P s → t.owned = s.owned → P t
  restarted : ∀ {s}, P s → P (storeRestart s)
  opened : ∀ {p s}, P s → P (stageOpenCmd p s).state
  written : ∀ {p s}, P s → P (stageWriteCmd p s).state
  queued : ∀ {p s}, P s → P (stageQueueCmd p s).state
  committed : ∀ {p s}, P s → P (commitCmd p s).state
  aborted : ∀ {p s}, P s → P (abortCommitCmd p s).state
  authority : ∀ {p s}, P s → P (setAuthorityCmd p s).state
  locked : ∀ {p s}, P s → P (lockAuthorityCmd p s).state
  suppressed : ∀ {zs d s}, P s → P (suppressAt zs d s).state
  reported : ∀ {unit input value s}, P s → P (inputReport unit input value s)
  lost : ∀ {unit input s}, P s → P (loseZone unit input s)
  windowEnded : ∀ {z s}, P s → P (windowExpire z s)
  zonesRestarted : ∀ {s}, P s → P (zonesRestart s)
  phaseSet : ∀ {code minutes s}, P s → P (setPhaseAt code minutes s).state
  acknowledged : ∀ {p s}, P s → P (alarmAckCmd p s).state
  dismissed : ∀ {p s}, P s → P (alarmFalseCmd p s).state
  reset : ∀ {p s}, P s → P (alarmResetCmd p s).state
  ackEnded : ∀ {s}, P s → P (ackExpire s)
  invEnded : ∀ {s}, P s → P (invExpire s)
  offsetEnded : ∀ {g s}, P s → P (offsetExpire g s)
  driveReplied : ∀ {a r ack s}, P s → P (driveReply a r ack s)
  driveLost : ∀ {a s}, P s → P (driveUnitLost a s)
  curtainMoved : ∀ {n m s}, P s → P (curtainMoveAt n m s).state
  demonstrated : ∀ {p s}, P s → P (demonstrateCmd p s).state
  latchCleared : ∀ {p s}, P s → P (clearLatchCmd p s).state
  stalled : ∀ {n s}, P s → P (stallExpire n s)
  descended : ∀ {n s}, P s → P (descentExpire n s)
  dwellEnded : ∀ {s}, P s → P (dwellExpire s)
  loweringEnded : ∀ {s}, P s → P (loweringExpire s)
  curtainsRestarted : ∀ {s}, P s → P (curtainsRestart s)
  called : ∀ {a o s}, P s → P (callAt a o s).state
  callsCancelled : ∀ {p s}, P s → P (cancelAt p s)
  callExpired : ∀ {m p s}, P s → P (callExpire m p s)
  callDue : ∀ {n s}, P s → P (scheduleExpire n s)
  overran : ∀ {s}, P s → P (overrunExpire s)
  pageEnded : ∀ {s}, P s → P (pageLimitExpire s)
  announced : ∀ {r ack s}, P s → P (announcerReply r ack s)
  announcerLost : ∀ {a s}, P s → P (announcerLost a s)
  paged : ∀ {a cls zones s}, P s → P (pagingReply a cls zones s)
  pagingLost : ∀ {a s}, P s → P (requestGone a s)
  callsRestarted : ∀ {s}, P s → P (callsRestart s)
  asserted : ∀ s, P (resetAssert s)
  released : ∀ {n s}, P s → P (resetRelease n s)
  idled : ∀ {s}, P s → P (idle s)

section
variable {P : State → Prop} (h : OwnersLaw P)
include h

theorem OwnersLaw.posted {r : EventRecord} {s : State} (hs : P s) : P (postRecord r s) :=
  h.same hs (postRecord_owned r s)

theorem OwnersLaw.links : KeptByLinks P := ⟨h.posted, fun hs => h.same hs rfl⟩
theorem OwnersLaw.output : KeptByOutput P := ⟨fun hs => h.same hs rfl, fun hs => h.same hs rfl⟩
theorem OwnersLaw.signal : KeptBySignal P := ⟨h.output, h.posted, fun hs => h.same hs rfl, fun hs => h.same hs rfl⟩

variable {s : State} (hs : P s)
include hs

/-! ### The commands of CTC and CLC (R126, R153, R154) -/

theorem OwnersLaw.curtainMoveCmd (p : List Byte) : P (curtainMoveCmd p s).state := by
  unfold Machine.curtainMoveCmd
  split
  · exact hs
  · exact h.curtainMoved hs

theorem OwnersLaw.callCmd (p : List Byte) : P (callCmd p s).state := by
  unfold Machine.callCmd
  split
  · exact hs
  · exact h.called hs

theorem OwnersLaw.cancelCallsCmd (p : List Byte) : P (cancelCallsCmd p s).state := by
  unfold Machine.cancelCallsCmd
  split
  · exact hs
  · exact answer_ite_kept (h.callsCancelled hs) hs

/-! ### The cues (chapter 4) -/

theorem OwnersLaw.actionAnswer (a : RawAction) : P (actionAnswer a s).state := by
  unfold Machine.actionAnswer
  split
  · exact h.suppressed hs
  · exact houseFadeArgs_kept h.output _ _ hs
  · exact h.called hs
  · exact h.phaseSet hs
  · exact h.curtainMoved hs
  · exact hs

theorem OwnersLaw.runActions (cue : Nat) (report : Bool) (position : Nat) (l : List RawAction) :
    P (runActions cue report position l s).1 := by
  induction l generalizing position s with
  | nil => exact hs
  | cons a l ih =>
    have answered := h.actionAnswer hs a
    exact ih (ite_kept (reportAction_kept h.links _ _ _ _ answered) answered) _

theorem OwnersLaw.countFrame (x : Nat) : P (countFrame x s) := by
  have counted (d : Debounce) : P (s.setCrg d) := h.same hs rfl
  have lookUp {u : State} (hu : P u) : P (Machine.lookUp x u) := by
    unfold Machine.lookUp
    split
    · exact h.posted hu
    · exact ite_kept (h.runActions (h.posted hu) _ _ _ _) (h.posted hu)
  exact ite_kept (lookUp (counted _)) (counted _)

theorem OwnersLaw.frameReported (k : Nat) : P (frameReported k s) := by
  unfold Machine.frameReported
  split
  · exact hs
  · exact ite_kept (h.countFrame hs _) (breakPair_kept h.signal _ hs)

theorem OwnersLaw.goCueCmd (p : List Byte) : P (goCueCmd p s).state := by
  unfold Machine.goCueCmd
  split
  · exact hs
  · unfold goCueAt
    split
    · exact hs
    · split
      · exact hs
      · split
        · exact h.runActions (h.posted hs) _ _ _ _
        · exact hs

/-! ### The field loop (chapter 9) -/

theorem OwnersLaw.goodReply (st : Station) (t : Transaction) (r : ReplyFields) : P (goodReply st t r s) := by
  have answered := postAnswers_kept h.links st _
    (modStation_kept h.links st.address (Station.answered t (foundAck st t r).isSome) _ hs)
  unfold Machine.goodReply deliver
  dsimp only
  split
  · exact foldl_kept (P := P) _ (fun _ _ hu => h.reported hu) _ answered
  · exact h.driveReplied answered
  · exact h.announced answered
  · exact h.paged answered

theorem OwnersLaw.miss (st : Station) : P (miss st s) := by
  unfold Machine.miss
  refine ite_kept hs (ite_kept (modStation_kept h.links _ _ _ hs) ?_)
  have lost := post_kept h.posted .outstationLost st.address (some st.kind.code) _
    (modStation_kept h.links st.address (fun x => { x with misses := 3, state := .lost }) _ hs)
  unfold tellLoss
  split
  · exact foldl_kept (P := P) _ (fun _ _ hu => h.lost hu) _ lost
  · exact h.driveLost lost
  · exact h.announcerLost lost
  · exact h.pagingLost lost

theorem OwnersLaw.concludeWith (st : Station) (t : Transaction) (f : LoopFaults) (b : List Byte) :
    P (concludeWith st t f b s) := by
  have raised : P (setSticky f.raise s) := h.same hs rfl
  exact ite_kept (h.miss raised _) (h.goodReply hs _ _ _)

theorem OwnersLaw.conclude (forced : Bool) (bs : List LoopByte) : P (conclude forced bs s) := by
  have ended := endTransaction_kept h.links _ hs
  unfold Machine.conclude
  split
  · exact hs
  · split
    · exact ended
    · exact h.concludeWith ended _ _ _ _

theorem OwnersLaw.windowCloses : P (windowCloses s) := ite_kept (h.conclude hs _ _) hs

theorem OwnersLaw.takeReply (t : Transaction) (running : Bool) (bs : List LoopByte) : P (takeReply t running bs s) := by
  unfold Machine.takeReply
  split
  · exact h.conclude hs _ _
  · exact hear_kept h.links _ _ _ _ hs

theorem OwnersLaw.bytesCome (running : Bool) (bs : List LoopByte) : P (bytesCome running bs s) := by
  have noted := noteBytes_kept h.links bs _ hs
  unfold Machine.bytesCome
  split
  · exact noted
  · split
    · exact h.takeReply noted _ _ _
    · exact noted

/-! ### The restart (R191) -/

theorem OwnersLaw.warmRestart (cause : Nat) : P (warmRestart cause s) := by
  have begun : P (post .restarted 0 (some cause) (linkRestart s)) := h.posted (h.same hs rfl)
  have store := h.restarted (streamRestart_kept h.signal _ (loopRestart_kept h.links _ begun))
  have owners := fblRestart_kept h.output _ (h.callsRestarted (h.curtainsRestarted store))
  exact h.same (h.zonesRestarted owners) (evaluateAttention_owned _)

theorem OwnersLaw.restartPulse : P (restartPulse s) := by
  have taken : P (s.setRestartArmed false) := h.same hs rfl
  exact ite_kept (ite_kept taken (h.warmRestart taken _)) hs

theorem OwnersLaw.replyEnds : P (replyEnds s) := by
  unfold Machine.replyEnds
  split
  · exact hs
  · next r _ =>
    have ended : P (s.setCmi { clearShown r s.cmi with reply := none }) := h.same hs rfl
    exact ite_kept (h.warmRestart ended _) ended

theorem OwnersLaw.abandonReply : P (abandonReply s) := by
  refine ite_kept ?_ hs
  have ended : P (setSticky (fun f => { f with collision := true }) (s.setCmi { s.cmi with reply := none })) :=
    h.same hs rfl
  exact ite_kept (h.warmRestart ended _) ended

/-! ### The commands (chapter 10) -/

theorem OwnersLaw.readEventCmd (p : List Byte) : P (readEventCmd p s).state := by
  unfold Machine.readEventCmd
  split
  · exact hs
  · split
    · exact hs
    · exact h.same hs rfl

theorem OwnersLaw.setMaskCmd (p : List Byte) : P (setMaskCmd p s).state := by
  unfold Machine.setMaskCmd
  split
  · exact hs
  · split
    · exact h.same (h.same hs rfl) (evaluateAttention_owned _)
    · exact hs

theorem OwnersLaw.ackAttentionCmd (p : List Byte) : P (ackAttentionCmd p s).state := by
  unfold Machine.ackAttentionCmd
  split
  · exact hs
  · exact h.same hs rfl

theorem OwnersLaw.restartCmd (p : List Byte) : P (restartCmd p s).state := by
  unfold Machine.restartCmd
  split
  · exact hs
  · exact h.same hs rfl

theorem OwnersLaw.gapExpire : P (gapExpire s) := ite_kept (h.same (h.same hs rfl) (evaluateAttention_owned _)) hs

theorem OwnersLaw.takeCommand {code : Nat} {key : Bool} {owner : List Byte → State → Answer} {p : List Byte}
    (ho : P (owner p s).state) : P (takeCommand code key owner p s) := by
  refine ite_kept hs (ite_kept (h.same hs rfl) (ite_kept ?_ ?_))
  · exact h.same (h.posted hs) rfl
  · exact h.same ho rfl

theorem OwnersLaw.setPhaseCmd (p : List Byte) : P (setPhaseCmd p s).state := by
  unfold Machine.setPhaseCmd
  split
  · exact hs
  · exact h.phaseSet hs

theorem OwnersLaw.suppressCmd (p : List Byte) : P (suppressCmd p s).state := by
  unfold Machine.suppressCmd
  split
  · exact hs
  · exact h.suppressed hs

theorem OwnersLaw.takeInstr (i : Instr) : P (takeInstr i s) := by
  cases i
  case setPhase p => exact h.takeCommand hs (h.setPhaseCmd hs p)
  case getShow p => exact h.takeCommand hs (getShowCmd_kept h.links p _ hs)
  case houseFade p => exact h.takeCommand hs (houseFadeCmd_kept h.output p _ hs)
  case houseConsole p => exact h.takeCommand hs (houseConsoleCmd_kept h.output p _ hs)
  case houseMaster p => exact h.takeCommand hs (houseMasterCmd_kept h.output p _ hs)
  case getHouse p => exact h.takeCommand hs (getHouseCmd_kept h.links p _ hs)
  case goCue p => exact h.takeCommand hs (h.goCueCmd hs p)
  case suppress p => exact h.takeCommand hs (h.suppressCmd hs p)
  case getZones p => exact h.takeCommand hs (getZonesCmd_kept h.links p _ hs)
  case alarmAck p => exact h.takeCommand hs (h.acknowledged hs)
  case alarmFalse p => exact h.takeCommand hs (h.dismissed hs)
  case alarmReset p => exact h.takeCommand hs (h.reset hs)
  case getAlarm p => exact h.takeCommand hs (getAlarmCmd_kept h.links p _ hs)
  case curtainMove p => exact h.takeCommand hs (h.curtainMoveCmd hs p)
  case demonstrate p => exact h.takeCommand hs (h.demonstrated hs)
  case clearLatch p => exact h.takeCommand hs (h.latchCleared hs)
  case getCurtains p => exact h.takeCommand hs (getCurtainsCmd_kept h.links p _ hs)
  case call p => exact h.takeCommand hs (h.callCmd hs p)
  case cancelCalls p => exact h.takeCommand hs (h.cancelCallsCmd hs p)
  case getCalls p => exact h.takeCommand hs (getCallsCmd_kept h.links p _ hs)
  case readEvent p => exact h.takeCommand hs (h.readEventCmd hs p)
  case ackAttention p => exact h.takeCommand hs (h.ackAttentionCmd hs p)
  case setAttentionMask p => exact h.takeCommand hs (h.setMaskCmd hs p)
  case getStatus p => exact h.takeCommand hs (getStatusCmd_kept h.links p _ hs)
  case getIdentity p => exact h.takeCommand hs (getIdentityCmd_kept h.links p _ hs)
  case restart p => exact h.takeCommand hs (h.restartCmd hs p)
  case stageOpen p => exact h.takeCommand hs (h.opened hs)
  case stageWrite p => exact h.takeCommand hs (h.written hs)
  case stageQueue p => exact h.takeCommand hs (h.queued hs)
  case commit p => exact h.takeCommand hs (h.committed hs)
  case abortCommit p => exact h.takeCommand hs (h.aborted hs)
  case getCommit p => exact h.takeCommand hs (getCommitCmd_kept h.links p _ hs)
  case readActive p => exact h.takeCommand hs (readActiveCmd_kept h.links p _ hs)
  case setAuthority p => exact h.takeCommand hs (h.authority hs)
  case lockAuthority p => exact h.takeCommand hs (h.locked hs)
  case getAuthority p => exact h.takeCommand hs (getAuthorityCmd_kept h.links p _ hs)
  case unknownCommand code p => exact h.takeCommand hs (unknownCmd_kept h.links p _ hs)
  all_goals exact hs

/-! ### The frames (chapter 2) -/

theorem OwnersLaw.setLength (short long : Bool) : P (setLength short long s) := h.same hs rfl

theorem OwnersLaw.framingFrame (start : RxByte) (rest : List RxByte) : P (framingFrame start rest s) := by
  have told : P (setSticky (fun f => { f with framing := true }) (recordFrame .discarded rest false false s)) :=
    h.same hs rfl
  exact ite_kept (discardReported_kept h.signal _ told) told

theorem OwnersLaw.takeLevels (c : LengthCheck) (rest : List RxByte) : P (takeLevels c rest s) := by
  unfold Machine.takeLevels
  exact h.frameReported (streamGood_kept h.signal _ (h.signal.srx (recordFrame_kept h.signal _ _ _ _ _ hs))) _

theorem OwnersLaw.goodFrame (c : LengthCheck) (rest : List RxByte) : P (goodFrame c rest s) := by
  unfold Machine.goodFrame
  refine ite_kept ?_ (h.takeLevels hs _ _)
  exact ite_kept (wakeDiscard_kept h.signal _ _ _ (wakeBreak_kept h.signal _ hs)) (h.takeLevels hs _ _)

theorem OwnersLaw.levelFrame (rest : List RxByte) : P (levelFrame rest s) :=
  ite_kept (discardReported_kept h.signal _ (h.setLength (recordFrame_kept h.signal _ _ _ _ _ hs) _ _))
    (h.goodFrame (h.setLength hs _ _) _ _)

theorem OwnersLaw.controlFrame (start : RxByte) (rest : List RxByte) : P (controlFrame start rest s) := by
  have recorded := recordFrame_kept h.signal .control rest false false _ hs
  exact ite_kept (h.takeInstr recorded _) (h.same recorded rfl)

theorem OwnersLaw.otherFrame (start : RxByte) (rest : List RxByte) : P (otherFrame start rest s) :=
  holdOther_kept h.output _ _ (h.setLength (recordFrame_kept h.signal _ _ _ _ _ hs) _ _)

theorem OwnersLaw.judgeFrame (start : RxByte) (rest : List RxByte) : P (judgeFrame start rest s) := by
  unfold Machine.judgeFrame
  split
  · exact h.framingFrame hs _ _
  · split
    · exact h.levelFrame hs _
    · split
      · exact h.controlFrame hs _ _
      · exact h.otherFrame hs _ _

theorem OwnersLaw.frameEnds (frame : List RxByte) : P (frameEnds frame s) := by
  have ended := h.signal.srx (x := { s.srx with receiving := false }) hs
  obtain he | he | ⟨start, rest, -, -, he⟩ := frameEnds_cases frame s
  · rw [he]; exact hs
  · rw [he]; exact ended
  · rw [he]; exact h.judgeFrame ended _ _

theorem OwnersLaw.breakArrives (ended : List RxByte) : P (breakArrives ended s) :=
  ite_kept hs (h.signal.srx (wakeBreak_kept h.signal _ (h.abandonReply (h.frameEnds hs ended))))

/-! ### The step -/

/-- Every command keeps the law: an edge of a line or a frame of the input, the end of the reply, an expiry, an event of
the loop, or a command of the control interface. -/
theorem OwnersLaw.exec {c : Instr} {t : State} (he : exec c s = .next t) : P t := by
  by_cases control : (controlCode c).isSome = true
  · rw [exec_of_controlCode control] at he
    cases he
    exact h.takeInstr hs c
  cases c
  case resetAssertion => cases he; exact h.asserted s
  case resetRelease n => cases he; exact h.released hs
  case authorityKeyChange b => cases he; exact h.same hs rfl
  case restartPulse => cases he; exact h.restartPulse hs
  case restartLineReturnHigh => cases he; exact h.same hs rfl
  case inputBreak => cases he; exact h.breakArrives hs _
  case inputFrameEnd => cases he; exact h.frameEnds hs _
  case replyEnd => cases he; exact running_kept _ _ (h.replyEnds hs) hs
  case streamHoldExpiry => cases he; exact running_kept _ _ (holdExpire_kept h.signal _ hs) hs
  case darkIdleExpiry => cases he; exact running_kept _ _ (idleExpire_kept h.signal _ hs) hs
  case outputIntervalExpiry => cases he; exact running_kept _ _ (ite_kept (intervalExpire_kept h.output _ hs) hs) hs
  case handoverExpiry => cases he; exact running_kept _ _ (handoverExpire_kept h.output _ _ hs) hs
  case windowEndExpiry => cases he; exact running_kept _ _ (h.windowEnded hs) hs
  case offsetTimerExpiry => cases he; exact running_kept _ _ (h.offsetEnded hs) hs
  case ackTimerExpiry => cases he; exact running_kept _ _ (h.ackEnded hs) hs
  case investigationTimerExpiry => cases he; exact running_kept _ _ (h.invEnded hs) hs
  case stallTimerExpiry => cases he; exact running_kept _ _ (h.stalled hs) hs
  case descentExpiry => cases he; exact running_kept _ _ (h.descended hs) hs
  case dwellExpiry => cases he; exact running_kept _ _ (h.dwellEnded hs) hs
  case loweringExpiry => cases he; exact running_kept _ _ (h.loweringEnded hs) hs
  case callExpiry => cases he; exact running_kept _ _ (h.callExpired hs) hs
  case scheduledCallDue => cases he; exact running_kept _ _ (h.callDue hs) hs
  case callOverrunExpiry => cases he; exact running_kept _ _ (h.overran hs) hs
  case pageLimitExpiry => cases he; exact running_kept _ _ (h.pageEnded hs) hs
  case pollStart => cases he; exact running_kept _ _ (startPoll_kept h.links _ hs) hs
  case replyWindowExpiry => cases he; exact running_kept _ _ (h.windowCloses hs) hs
  case loopReply => cases he; exact running_kept _ _ (h.bytesCome hs _ _) hs
  case loopReplyForcedOver => cases he; exact running_kept _ _ (h.bytesCome hs _ _) hs
  case attentionGapExpiry => cases he; exact running_kept _ _ (h.gapExpire hs) hs
  all_goals exact absurd rfl control

/-- Every step keeps the law. -/
theorem OwnersLaw.step {t : State} (he : step s = .next t) : P t := by
  unfold Machine.step at he
  split at he
  next => cases he; exact h.idled hs
  next c rest queued => exact h.exec (h.same (t := s.setPending rest) hs rfl) he
end

end Sys2Proof.Machine
end

section
/-! Every step keeps the curtain laws. -/

namespace Sys2Proof.Machine

theorem channelLaw_curtainsConsistent : ChannelLaw CurtainsConsistent :=
  ⟨ofCurtains_consistent.calls, fun h => h.reexamine⟩

/-- TBS's commands leave CTC's and ASC's records. -/
theorem CurtainsConsistent.setAuthorityCmd {s : State} (h : CurtainsConsistent s) (p : List Byte) :
    CurtainsConsistent (setAuthorityCmd p s).state := by
  refine h.stored ?_ (storeLaw_curtainsStaged.authority h.staged)
  unfold Machine.setAuthorityCmd
  split
  · exact ⟨rfl, rfl⟩
  · split
    · exact ⟨rfl, rfl⟩
    · exact ⟨rfl, rfl⟩

theorem CurtainsConsistent.lockAuthorityCmd {s : State} (h : CurtainsConsistent s) (p : List Byte) :
    CurtainsConsistent (lockAuthorityCmd p s).state := by
  refine h.stored ?_ (storeLaw_curtainsStaged.locked h.staged)
  unfold Machine.lockAuthorityCmd
  split
  · exact ⟨rfl, rfl⟩
  · split
    · exact ⟨rfl, rfl⟩
    · exact ⟨post_ctc _ _ _ _, post_asc _ _ _ _⟩

theorem CurtainsConsistent.idle {s : State} (h : CurtainsConsistent s) : CurtainsConsistent (idle s) := by
  unfold Machine.idle
  split
  · exact h
  · split
    · exact ofCurtains_consistent.same h rfl rfl rfl
    · exact ofCurtains_consistent.same h rfl rfl rfl

/-- RESET leaves no curtain record and no demonstration (R190). -/
theorem curtainsConsistent_resetAssert (s : State) : CurtainsConsistent (resetAssert s) := by
  have ctc : (resetAssert s).ctc = {} := rfl
  have staged : (resetAssert s).tbs.staging.curtain.bank = [] := rfl
  refine CurtainLaws.consistent ⟨?_, ?_, ?_, ?_⟩ rfl
  · rw [ctc]
    exact List.nodup_nil
  · rw [ctc]
    exact fun c hc => absurd hc List.not_mem_nil
  · rw [ctc]
    exact nofun
  · rw [CurtainsStaged, staged]
    exact List.Pairwise.nil

theorem ownersLaw_curtainsConsistent : OwnersLaw CurtainsConsistent where
  same h same := ofCurtains_consistent.core h (congrArg Prod.fst same) (congrArg (·.2.1) same)
  restarted h := h.stored (storeRestart_kept (keptByTables_ctc_asc _) _ ⟨rfl, rfl⟩)
    (storeLaw_curtainsStaged.restarted h.staged)
  opened h := h.stored (stageOpenCmd_kept (keptByTables_ctc_asc _) _ _ ⟨rfl, rfl⟩)
    (storeLaw_curtainsStaged.opened h.staged)
  written h := h.stored (stageWriteCmd_kept (keptByTables_ctc_asc _) _ _ ⟨rfl, rfl⟩) h.staged.written
  queued h := h.stored (stageQueueCmd_kept (keptByTables_ctc_asc _) _ _ ⟨rfl, rfl⟩)
    (storeLaw_curtainsStaged.queued h.staged)
  committed h := h.committed _
  aborted h := h.stored (abortCommitCmd_kept (keptByTables_ctc_asc _) _ _ ⟨rfl, rfl⟩)
    (storeLaw_curtainsStaged.aborted h.staged)
  authority h := h.setAuthorityCmd _
  locked h := h.lockAuthorityCmd _
  suppressed h := h.suppressAt _ _
  reported h := h.inputReport _ _ _
  lost h := h.loseZone _ _
  windowEnded h := ite_kept (h.closeWindow _) h
  zonesRestarted h := ofCurtains_consistent.same h.closeAllWindows rfl rfl rfl
  phaseSet h := h.setPhaseAt _ _
  acknowledged h := h.alarmAckCmd _
  dismissed h := h.alarmFalseCmd _
  reset h := h.alarmResetCmd _
  ackEnded h := ite_kept (h.entered _ _ _) h
  invEnded h := ite_kept (h.entered _ _ _) h
  offsetEnded h := ite_kept (h.startGroup _ _) h
  driveReplied h := h.driveReply _ _ _
  driveLost h := h.driveUnitLost _
  curtainMoved h := h.curtainMoveAt _ _
  demonstrated h := h.demonstrateCmd _
  latchCleared h := h.clearLatchCmd _
  stalled h := h.stallExpire _
  descended h := h.descentExpire _
  dwellEnded h := h.dwellExpire
  loweringEnded h := h.loweringExpire
  curtainsRestarted h := h.curtainsRestart
  called h := callAt_kept ofCurtains_consistent.calls _ _ _ h
  callsCancelled h := channelLaw_curtainsConsistent.cancelAt h _
  callExpired h := callExpire_kept ofCurtains_consistent.calls _ _ _ h
  callDue h := scheduleExpire_kept ofCurtains_consistent.calls _ _ h
  overran h := channelLaw_curtainsConsistent.overrunExpire h
  pageEnded h := channelLaw_curtainsConsistent.pageLimitExpire h
  announced h := channelLaw_curtainsConsistent.announcerReply h _ _
  announcerLost h := announcerLost_kept ofCurtains_consistent.calls _ _ h
  paged h := channelLaw_curtainsConsistent.pagingReply h _ _ _
  pagingLost h := channelLaw_curtainsConsistent.requestGone h _
  callsRestarted h := callsRestart_kept ofCurtains_consistent.calls _ h
  asserted s := curtainsConsistent_resetAssert s
  released h := ite_kept (ofCurtains_consistent.posted (ofCurtains_consistent.same h rfl rfl rfl)) h
  idled h := h.idle

/-- Settles O57: each operation of CTC makes records that meet the laws (`CurtainSound`), an entry to INVESTIGATE or
EVACUATE leaves no RAISE outstanding and no demonstration running, and the Curtain Table changes only where every
curtain is settled. -/
theorem everyStepKeepsTheCurtainLaws : Obligations.EveryStepKeepsTheCurtainLaws :=
  fun _ _ hs he => ownersLaw_curtainsConsistent.step hs he

end Sys2Proof.Machine
end

section
/-! CTC's operations on the records of a curtain number, whatever else has it: each is one change of those records, with
what it hands over and posts (R123, R126, R127, R130, R132, R140, R142). -/

namespace Sys2Proof.Machine

/-! ### Changes of the records of one number -/

/-- A change of a curtain's record that keeps its number, unit and demonstration flag. -/
structure KeepsIdentity (f : Curtain → Curtain) : Prop where
  number : ∀ c, (f c).number = c.number
  unit : ∀ c, (f c).unit = c.unit
  flag : ∀ c, (f c).demoFlag = c.demoFlag

section
variable {n : Nat} {s : State} {c : Curtain} {f g : Curtain → Curtain} {d : Demo}

theorem keepsIdentity_outstanding (cmd : Option DriveCmd) :
    KeepsIdentity fun x : Curtain => { x with outstanding := cmd } := ⟨fun _ => rfl, fun _ => rfl, fun _ => rfl⟩

theorem keepsIdentity_holdWaiting (b : Bool) :
    KeepsIdentity fun x : Curtain => { x with holdWaiting := b } := ⟨fun _ => rfl, fun _ => rfl, fun _ => rfl⟩

theorem modCurtain_post (e : Event) (i : Nat) (arg : Option Nat) :
    modCurtain n f (post e i arg s) = post e i arg (modCurtain n f s) := by
  rw [modCurtain, modCurtain, post_setCtc, post_ctc]

theorem modCurtain_issue (a : Nat) (cmd : LoopCmd) : modCurtain n f (issue a cmd s) =
    issue a cmd (modCurtain n f s) := rfl

theorem modCurtain_setDemo : modCurtain n f (setDemo d s) = setDemo d (modCurtain n f s) := rfl

section
variable (hf : KeepsIdentity f)
include hf

theorem findCurtain_modCurtain : findCurtain (modCurtain n f s) n = (findCurtain s n).map f := by
  have seen : (fun x : Curtain => x.number == n) ∘ (fun x => if x.number = n then f x else x) = (·.number == n) := by
    funext x
    rw [Function.comp_apply]
    split
    · rw [hf.number]
    · rfl
  rw [findCurtain, modCurtain, State.setCtc_ctc, List.find?_map, seen, findCurtain]
  cases hx : s.ctc.curtains.find? (·.number == n) with
  | none => rfl
  | some x => exact congrArg some (if_pos (by simpa using List.find?_some hx))

theorem modCurtain_modCurtain (g : Curtain → Curtain) :
    modCurtain n g (modCurtain n f s) = modCurtain n (fun x => g (f x)) s := by
  simp only [modCurtain, State.setCtc_ctc, State.setCtc_setCtc, List.map_map]
  refine congrArg (fun l => s.setCtc { s.ctc with curtains := l }) (List.map_congr_left fun x _ => ?_)
  by_cases hx : x.number = n
  · rw [Function.comp_apply, if_pos hx, if_pos ((hf.number x).trans hx), if_pos hx]
  · rw [Function.comp_apply, if_neg hx, if_neg hx, if_neg hx]

theorem demoRunsOn_modCurtain (k : Nat) : demoRunsOn (modCurtain n f s) k = demoRunsOn s k := by
  have flagged : (fun x : Curtain => x.demoFlag) ∘ (fun x => if x.number = n then f x else x) = (·.demoFlag) := by
    funext x
    rw [Function.comp_apply]
    split
    · rw [hf.flag]
    · rfl
  rw [demoRunsOn, demoCurtain, modCurtain, State.setCtc_ctc, List.find?_map, flagged, Option.any_map]
  refine congrArg (s.ctc.demo.running && ·) (congrArg (Option.any · _) (funext fun x => ?_))
  show ((if x.number = n then f x else x).number == k) = (x.number == k)
  split
  · rw [hf.number]
  · rfl

theorem failDemo_modCurtain (k : Nat) (why : DemoFailure) :
    failDemo k why (modCurtain n f s) = modCurtain n f (failDemo k why s) := by
  unfold failDemo
  rw [demoRunsOn_modCurtain hf]
  split
  · rw [modCurtain_post, modCurtain_setDemo]
    rfl
  · rfl
end

theorem failDemo_of_apart {k : Nat} (h : demoRunsOn s k = false) (why : DemoFailure) : failDemo k why s = s :=
  if_neg (by simp [h])

theorem demoRunsOn_congr {t : State} (h : t.ctc = s.ctc) (k : Nat) : demoRunsOn t k = demoRunsOn s k := by
  simp only [demoRunsOn, demoCurtain, h]

theorem findCurtain_congr {t : State} (h : t.ctc = s.ctc) (k : Nat) : findCurtain t k = findCurtain s k := by
  simp only [findCurtain, h]

/-! ### What is issued (R123) -/

section
variable (hc : findCurtain s n = some c)
include hc

theorem issueDrive_of_open (hr : c.release ≠ .sent) (cmd : DriveCmd) : issueDrive n cmd s =
    issue c.unit (.drive cmd) (modCurtain n (fun x => { x with outstanding := some cmd }) s) := by
  simp only [issueDrive, hc]
  exact if_neg fun hs => hr hs.1

theorem segmentEnded_of_not_waiting (hw : c.holdWaiting = false) : segmentEnded n s = s := by
  simp only [segmentEnded, hc]
  exact if_neg (by simp [hw])

/-- The end of a segment with a hold that waits (R132). -/
theorem segmentEnded_of_waiting (hw : c.holdWaiting = true) : segmentEnded n s =
    if c.lastHold = true ∧ c.ownership = .implicit ∧ c.outstanding ≠ some .yield ∧ c.release ≠ .sent then
      issue c.unit (.drive .yield) (modCurtain n
        (fun x => { x with holdWaiting := false, outstanding := some .yield }) s)
    else modCurtain n (fun x => { x with holdWaiting := false }) s := by
  have keeps := keepsIdentity_holdWaiting false
  have found : findCurtain (modCurtain n (fun x => { x with holdWaiting := false }) s) n =
      some { c with holdWaiting := false } := by rw [findCurtain_modCurtain keeps, hc]; rfl
  simp only [segmentEnded, hc]
  rw [if_pos hw]
  by_cases held : c.lastHold = true
  · rw [if_pos held]
    simp only [yieldIfHeld, found]
    by_cases yields : c.ownership = .implicit ∧ c.outstanding ≠ some .yield ∧ c.release ≠ .sent
    · rw [if_pos yields, if_pos ⟨held, yields⟩, issueDrive_of_open found yields.2.2, modCurtain_modCurtain keeps]
    · rw [if_neg yields, if_neg fun h => yields h.2]
  · rw [if_neg held, if_neg fun h => held h.1]

/-! ### Segments (R127, R130) -/

/-- A segment begins (R127). -/
theorem startSegment_eq (hr : c.release ≠ .sent) (up : Bool) : startSegment n up s =
    issue c.unit (.drive (if up then .raise else .lower)) (modCurtain n (fun x => { x with
      ownership := .explicit
      motion := some ⟨up, s.time, s.time⟩
      state := if up then .raising else .lowering
      outstanding := some (if up then .raise else .lower) }) s) := by
  rw [startSegment, issueDrive_of_open hc hr, modCurtain_issue, modCurtain_modCurtain (keepsIdentity_outstanding _)]

/-- STOP is issued and the segment removed, in the state `v`. -/
theorem stopIssued_eq (hr : c.release ≠ .sent) (v : CurtainState) :
    modCurtain n (fun x => { x.endMotion with state := v }) (issueDrive n .stop s) =
      issue c.unit (.drive .stop) (modCurtain n (fun x =>
        { x.endMotion with state := v, outstanding := some .stop }) s) := by
  rw [issueDrive_of_open hc hr, modCurtain_issue, modCurtain_modCurtain (keepsIdentity_outstanding _)]
  rfl
end
end

theorem keepsIdentity_stopped (v : CurtainState) :
    KeepsIdentity fun x : Curtain => { x.endMotion with state := v, outstanding := some .stop } :=
  ⟨fun _ => rfl, fun _ => rfl, fun _ => rfl⟩

/-- A curtain's record after a segment is stopped in the state `v` (R127, R129, R130). -/
theorem endMotion_stopped (v : CurtainState) (x : Curtain) :
    { x.endMotion with state := v, outstanding := some .stop } =
    { x with
      ownership := if x.ownership = .explicit then .implicit else x.ownership
      motion := none
      state := v
      outstanding := some .stop } := by
  rw [← Ownership.ended_eq]
  rfl

theorem buildReply_modCurtain (code n : Nat) (f : Curtain → Curtain) (t : State) (r : Result) (p : List Byte) :
    buildReply code ⟨modCurtain n f t, r, p⟩ = modCurtain n f (buildReply code ⟨t, r, p⟩) := rfl

theorem buildReply_issue (code a : Nat) (cmd : LoopCmd) (t : State) (r : Result) (p : List Byte) :
    buildReply code ⟨issue a cmd t, r, p⟩ = issue a cmd (buildReply code ⟨t, r, p⟩) := rfl

end Sys2Proof.Machine
end

section
/-! The timers of a curtain, CLEAR LATCH (R130, R136, R139), CURTAIN MOVE (R126, R127) and DEMONSTRATE with its timers
(R140 to R142). -/

namespace Sys2Proof.Machine

section
variable {s : State} (hs : Running s)
include hs

theorem exec_descentExpiry (n : Nat) : exec (.descentExpiry n) s = .next (descentExpire n s) := by
  rw [← running_eq hs (descentExpire n)]; rfl

theorem exec_dwellExpiry : exec .dwellExpiry s = .next (dwellExpire s) := by
  rw [← running_eq hs dwellExpire]; rfl

theorem exec_loweringExpiry : exec .loweringExpiry s = .next (loweringExpire s) := by
  rw [← running_eq hs loweringExpire]; rfl
end

/-- With the key off a ready part refuses a key command, after the event (R184). -/
theorem takeCommand_keyOff {code : Nat} {owner : List Byte → State → Answer} {p : List Byte} {s : State}
    (hs : Ready s) (hk : s.keyOn = false) (hp : p.length ≤ 200) : takeCommand code true owner p s =
      buildReply code ⟨post .keyRefused code none s, .refusedKey, []⟩ := by
  obtain ⟨held, unit⟩ := hs
  simp [takeCommand, takes, held, unit, hk, Nat.not_lt.mpr hp, refuseKey]

/-! ### The stall and descent timers (R130, R136) -/

section
variable {n : Nat} {c : Curtain} {s : State} (hc : findCurtain s n = some c)
include hc

theorem stallExpire_of_due {m : Motion} (hm : c.motion = some m) (due : m.progress + 3000 ≤ s.time)
    (hd : ¬ (demoRunsOn s n = true ∧ s.ctc.demo.state = .dwell)) : stallExpire n s = stallTaken c s := by
  obtain rfl := number_of_findCurtain hc
  simp only [stallExpire, hc]
  refine if_pos ?_
  have notDwell : (demoRunsOn s c.number && s.ctc.demo.state == .dwell) = false := by
    rw [Bool.eq_false_iff]
    simpa using hd
  simp [stallDue, notDwell, hm, due]

theorem stallExpire_of_early {m : Motion} (hm : c.motion = some m) (early : s.time < m.progress + 3000) :
    stallExpire n s = s := by
  simp only [stallExpire, hc]
  exact if_neg (by simp [stallDue, hm, early])

/-- A stall stops the segment, and fails a demonstration on the curtain (R130, R142). -/
theorem stallTaken_eq (hr : c.release ≠ .sent) : stallTaken c s = reexamine (segmentEnded n (failDemo n .stall
    (post .curtainStalled n (some c.position) (issue c.unit (.drive .stop)
      (modCurtain n (fun x => { x.endMotion with state := .fault, outstanding := some .stop }) s))))) := by
  obtain rfl := number_of_findCurtain hc
  rw [stallTaken, stopIssued_eq hc hr]

theorem descentExpire_of_not_due {d : Descent} (hd : c.descent = some d) (early : s.time < d.expiry ∨ d.taken = true) :
    descentExpire n s = s := by
  simp only [descentExpire, hc]
  refine if_neg ?_
  obtain early | taken := early
  · simp [descentDue, hd, early]
  · simp [descentDue, hd, taken]

theorem descentExpire_of_due {d : Descent} (hd : c.descent = some d) (due : d.expiry ≤ s.time)
    (open_ : d.taken = false) :
    descentExpire n s = post .curtainLate n (some c.position)
      (modCurtain n (fun c => { c with descent := c.descent.map fun d => { d with taken := true } }) s) := by
  simp only [descentExpire, hc]
  exact if_pos (by simp [descentDue, hd, due, open_])
end

/-! ### CLEAR LATCH (R139) -/

theorem clearLatchCmd_one (n : Byte) (s : State) : clearLatchCmd [n] s = clearLatchAt n.toNat s := rfl

theorem clearLatchAt_bad {n : Nat} {s : State} (h : n < 1 ∨ 4 < n ∨ findCurtain s n = none) :
    clearLatchAt n s = ⟨s, .badArgument, []⟩ := by
  unfold clearLatchAt
  split
  · rfl
  next c hc =>
    refine if_pos ?_
    rw [hc] at h
    simp only [within, Bool.not_eq_true', Bool.and_eq_false_iff, decide_eq_false_iff_not]
    obtain h | h | h := h
    · omega
    · omega
    · exact nomatch h

section
variable {n : Nat} {c : Curtain} {s : State} (hc : findCurtain s n = some c) (hlo : 1 ≤ n) (hhi : n ≤ 4)
include hc hlo hhi

theorem clearLatchAt_refused (h : s.asc.stage ≠ .normal ∨ c.state = .unknown ∨ c.state = .emergency) :
    clearLatchAt n s = ⟨s, .refusedState, []⟩ := by
  simp only [clearLatchAt, hc]
  rw [if_neg (by simp [within, hlo, hhi])]
  by_cases stage : s.asc.stage ≠ .normal
  · exact if_pos stage
  · rw [if_neg stage]
    exact if_pos (h.resolve_left stage)

theorem clearLatchAt_unlatched (stage : s.asc.stage = .normal) (known : c.state ≠ .unknown)
    (calm : c.state ≠ .emergency) (unlatched : c.latch = none) : clearLatchAt n s = ⟨s, .done, []⟩ := by
  simp only [clearLatchAt, hc, unlatched]
  rw [if_neg (by simp [within, hlo, hhi]), if_neg (not_not.mpr stage), if_neg (not_or.mpr ⟨known, calm⟩)]

theorem clearLatchAt_latched (stage : s.asc.stage = .normal) (known : c.state ≠ .unknown) (calm : c.state ≠ .emergency)
    {cause : LatchCause} (latched : c.latch = some cause) : clearLatchAt n s =
      ⟨post .latchCleared n (some cause.code) (modCurtain n (fun c => { c with latch := none }) s), .done, []⟩ := by
  simp only [clearLatchAt, hc, latched]
  rw [if_neg (by simp [within, hlo, hhi]), if_neg (not_not.mpr stage), if_neg (not_or.mpr ⟨known, calm⟩)]
end

/-- Settles O36: the stall and the descent timer and CLEAR LATCH, each by the branch that its condition selects. -/
theorem stallDescentLimitAndClearLatch : Obligations.StallDescentLimitAndClearLatch := by
  refine ⟨fun n c s hs hc => ⟨fun m hm early => ?_, fun m hm due apart hr hw => ?_, fun d hd early => ?_,
    fun d hd due open_ => ?_⟩, fun n s hs => ⟨fun off => ?_, fun on bad => ?_, fun c on hlo hhi hc =>
    ⟨fun refused => ?_, fun stage known calm none => ?_, fun cause stage known calm latched => ?_⟩⟩⟩
  · rw [exec_stallTimerExpiry hs, stallExpire_of_early hc hm early]
  · have ctc : (post .curtainStalled n (some c.position) (issue c.unit (.drive .stop) (modCurtain n (fun x =>
        { x.endMotion with state := .fault, outstanding := some .stop }) s))).ctc = (modCurtain n (fun x =>
          { x.endMotion with state := .fault, outstanding := some .stop }) s).ctc := post_ctc _ _ _ _
    have keeps := keepsIdentity_stopped .fault
    have still := (demoRunsOn_congr ctc n).trans ((demoRunsOn_modCurtain keeps n).trans apart)
    have found := (findCurtain_congr ctc n).trans ((findCurtain_modCurtain keeps).trans (congrArg (Option.map _) hc))
    rw [exec_stallTimerExpiry hs, stallExpire_of_due hc hm due (by simp [apart]), stallTaken_eq hc hr,
      failDemo_of_apart still, segmentEnded_of_not_waiting found hw]
    simp only [endMotion_stopped]
    rfl
  · rw [exec_descentExpiry hs, descentExpire_of_not_due hc hd early]
  · rw [exec_descentExpiry hs, descentExpire_of_due hc hd due open_]
    rfl
  · exact congrArg _ (takeCommand_keyOff (owner := clearLatchCmd) hs off (by simp))
  · exact next_takeCommand_keyOn (owner := clearLatchCmd) hs on (clearLatchAt_bad bad)
  · exact next_takeCommand_keyOn (owner := clearLatchCmd) hs on (clearLatchAt_refused hc hlo hhi refused)
  · exact next_takeCommand_keyOn (owner := clearLatchCmd) hs on
      (clearLatchAt_unlatched hc hlo hhi stage known calm none)
  · exact next_takeCommand_keyOn (owner := clearLatchCmd) hs on
      (clearLatchAt_latched hc hlo hhi stage known calm latched)

end Sys2Proof.Machine
end

section
/-! CURTAIN MOVE (R126, R127): the form, the checks, and what each motion makes of a segment. -/

namespace Sys2Proof.Machine

theorem curtainMoveCmd_two (n m : Byte) (s : State) : curtainMoveCmd [n, m] s = curtainMoveAt n.toNat m.toNat s := rfl

section
variable {n m : Nat} {c : Curtain} {s : State}

theorem curtainMoveAt_bad (h : n < 1 ∨ 4 < n ∨ findCurtain s n = none ∨ m < 1 ∨ 3 < m) :
    curtainMoveAt n m s = ⟨s, .badArgument, []⟩ := by
  unfold curtainMoveAt
  split
  · rfl
  next c hc =>
    refine if_pos ?_
    rw [hc] at h
    simp only [within, Bool.or_eq_true, Bool.not_eq_true', Bool.and_eq_false_iff, decide_eq_false_iff_not]
    obtain h | h | h | h | h := h
    · omega
    · omega
    · exact nomatch h
    · omega
    · omega

/-- The checks 2 to 4 of R126, that is whether they refuse. -/
theorem moveRefusedBy_iff (hc : findCurtain s n = some c) : moveRefusedBy s c = true ↔
    c.ownership = .pendant ∨ c.outstanding = some .yield ∨ demoRunsOn s n = true ∨ c.state = .unknown ∨
      c.state = .emergency ∨ c.release = .sent := by
  obtain rfl := number_of_findCurtain hc
  simp only [moveRefusedBy, Bool.or_eq_true, beq_iff_eq, or_assoc]

variable (hc : findCurtain s n = some c) (hlo : 1 ≤ n) (hhi : n ≤ 4) (h1 : 1 ≤ m) (h3 : m ≤ 3)
include hc hlo hhi h1 h3

theorem curtainMoveAt_refused (h : moveRefusedBy s c = true ∨ m = 2 ∧ (c.latch.isSome = true ∨ s.asc.stage ≠ .normal)) :
    curtainMoveAt n m s = ⟨s, .refusedState, []⟩ := by
  simp only [curtainMoveAt, hc]
  rw [if_neg (by simp [within, hlo, hhi, h1, h3])]
  by_cases barred : moveRefusedBy s c = true
  · exact if_pos barred
  · rw [if_neg barred]
    exact if_pos (h.resolve_left barred)

theorem curtainMoveAt_taken (free : moveRefusedBy s c = false)
    (open_ : m = 2 → c.latch = none ∧ s.asc.stage = .normal) :
    curtainMoveAt n m s = if m = 3 then stopTaken c s else moveTaken c (m == 2) s := by
  have allowed : ¬ (m = 2 ∧ (c.latch.isSome = true ∨ s.asc.stage ≠ .normal)) := fun ⟨raise, barred⟩ => by
    obtain ⟨latch, stage⟩ := open_ raise
    obtain l | x := barred
    · exact absurd (latch ▸ l) (by decide)
    · exact x stage
  simp only [curtainMoveAt, hc]
  rw [if_neg (by simp [within, hlo, hhi, h1, h3]), if_neg (by simp [free]), if_neg allowed]
end

/-! ### LOWER, RAISE and STOP taken (R127) -/

section
variable {n : Nat} {c : Curtain} {s : State} {up : Bool}

theorem moveTaken_arrived (h : c.state = if up then .raised else .lowered) : moveTaken c up s = ⟨s, .done, []⟩ :=
  if_pos h

theorem moveTaken_same (h : c.state ≠ if up then .raised else .lowered) (hm : c.motion.map (·.up) = some up) :
    moveTaken c up s = ⟨s, .accepted, []⟩ := (if_neg h).trans (if_pos hm)

theorem stopTaken_still (h : c.motion = none) : stopTaken c s = ⟨s, .done, []⟩ := if_neg (by simp [h])

variable (hc : findCurtain s n = some c) (hr : c.release ≠ .sent)
include hc hr

theorem moveTaken_starts (h : c.state ≠ if up then .raised else .lowered) (hm : c.motion.map (·.up) ≠ some up) :
    moveTaken c up s = ⟨reexamine (issue c.unit (.drive (if up then .raise else .lower))
      (modCurtain n (fun x => { x with
      ownership := .explicit
      motion := some ⟨up, s.time, s.time⟩
      state := if up then .raising else .lowering
      outstanding := some (if up then .raise else .lower) }) s)), .accepted, []⟩ := by
  obtain rfl := number_of_findCurtain hc
  rw [← startSegment_eq hc hr]
  exact (if_neg h).trans (if_neg hm)

/-- A segment is stopped, and the hold that waits is examined (R127, R132). -/
theorem stopSegment_eq : stopSegment n s = segmentEnded n (issue c.unit (.drive .stop) (modCurtain n (fun x =>
    { x.endMotion with state := .stopped, outstanding := some .stop }) s)) := by
  rw [stopSegment, stopIssued_eq hc hr]

theorem stopTaken_moving (hm : c.motion.isSome = true) (hw : c.holdWaiting = false) : stopTaken c s =
    ⟨reexamine (issue c.unit (.drive .stop) (modCurtain n (fun x => { x with
      ownership := if x.ownership = .explicit then .implicit else x.ownership
      motion := none
      state := .stopped
      outstanding := some .stop }) s)), .done, []⟩ := by
  obtain rfl := number_of_findCurtain hc
  have found : findCurtain (issue c.unit (.drive .stop) (modCurtain c.number (fun x =>
      { x.endMotion with state := .stopped, outstanding := some .stop }) s)) c.number =
        some { c.endMotion with state := .stopped, outstanding := some .stop } :=
    (findCurtain_modCurtain (keepsIdentity_stopped .stopped)).trans (congrArg (Option.map _) hc)
  have ended := segmentEnded_of_not_waiting found hw
  simp only [endMotion_stopped] at ended
  rw [stopTaken, if_pos hm, stopSegment_eq hc hr]
  simp only [endMotion_stopped]
  rw [ended]
end

/-- Settles O32: the form, the checks of R126 in their order, and the three motions. -/
theorem curtainMoveIsTakenOrRefused : Obligations.CurtainMoveIsTakenOrRefused := by
  refine ⟨fun n c s hs hlo hhi hc pendant yields demo known calm unsent => ?_, fun n m s hs => ⟨fun bad => ?_,
    fun c hlo hhi h1 h3 hc barred => ?_⟩⟩
  · have free : moveRefusedBy s c = false := by
      rw [Bool.eq_false_iff, Ne, moveRefusedBy_iff hc]
      simp [pendant, yields, demo, known, calm, unsent]
    have lower : curtainMoveCmd [n, 1] s = moveTaken c false s :=
      curtainMoveAt_taken (m := 1) hc hlo hhi (by decide) (by decide) free nofun
    have raise (hl : c.latch = none) (hn : s.asc.stage = .normal) : curtainMoveCmd [n, 2] s = moveTaken c true s :=
      curtainMoveAt_taken (m := 2) hc hlo hhi (by decide) (by decide) free fun _ => ⟨hl, hn⟩
    have stop : curtainMoveCmd [n, 3] s = stopTaken c s :=
      curtainMoveAt_taken (m := 3) hc hlo hhi (by decide) (by decide) free nofun
    refine ⟨fun h => ?_, fun h hm => ?_, fun h hm => ?_, fun hl hn h => ?_, fun hl hn h hm => ?_, fun hl hn h hm => ?_,
      fun hm => ?_, fun hm hw => ?_⟩
    · exact next_takeCommand hs (lower.trans (moveTaken_arrived h))
    · exact next_takeCommand hs (lower.trans (moveTaken_same h hm))
    · exact next_takeCommand hs (lower.trans (moveTaken_starts hc unsent h hm))
    · exact next_takeCommand hs ((raise hl hn).trans (moveTaken_arrived h))
    · exact next_takeCommand hs ((raise hl hn).trans (moveTaken_same h hm))
    · exact next_takeCommand hs ((raise hl hn).trans (moveTaken_starts hc unsent h hm))
    · exact next_takeCommand hs (stop.trans (stopTaken_still hm))
    · exact next_takeCommand hs (stop.trans (stopTaken_moving hc unsent hm hw))
  · exact next_takeCommand (owner := curtainMoveCmd) hs (curtainMoveAt_bad bad)
  · have two : m.toNat = 2 ↔ m = 2 := ⟨fun h => BitVec.eq_of_toNat_eq h, fun h => h ▸ rfl⟩
    have refuses : moveRefusedBy s c = true ∨ m.toNat = 2 ∧ (c.latch.isSome = true ∨ s.asc.stage ≠ .normal) := by
      simpa only [moveRefusedBy_iff hc, or_assoc, two] using barred
    exact next_takeCommand (owner := curtainMoveCmd) hs (curtainMoveAt_refused hc hlo hhi h1 h3 refuses)

end Sys2Proof.Machine
end

section
/-! DEMONSTRATE (R140), and the dwell and lowering timers of the demonstration (R141, R142). -/

namespace Sys2Proof.Machine

theorem demonstrateCmd_bad {p : List Byte} {s : State} (h : p ≠ [] ∨ ∀ c ∈ s.ctc.curtains, c.demoFlag = false) :
    demonstrateCmd p s = ⟨s, .badArgument, []⟩ := by
  unfold demonstrateCmd
  split
  · rfl
  next form =>
    have empty : p = [] := by simpa using form
    have none : demoCurtain s = none := List.find?_eq_none.mpr fun c hc =>
      Bool.eq_false_iff.mp (h.resolve_left (not_not.mpr empty) c hc)
    rw [none]

/-- The checks of R140, that is whether they refuse. -/
theorem demoBarred_iff (s : State) (c : Curtain) : (demoRefused s || demoCurtainRefused c) = true ↔
    s.ctc.demo.state ∈ [DemoState.lowering, .dwell, .raising, .passed] ∨ s.phc.phase ∉ [Phase.houseOpen, .interval] ∨
      s.asc.stage ≠ .normal ∨ c.state ≠ .raised ∨ c.latch ≠ none ∨ c.ownership ≠ .implicit ∨
      c.outstanding = some .yield ∨ c.holdWaiting = true := by
  have latched : c.latch.isSome = true ↔ c.latch ≠ none := Option.isSome_iff_ne_none
  simp only [demoRefused, demoCurtainRefused, Bool.or_eq_true, Bool.not_eq_true', Bool.or_eq_false_iff, bne_iff_ne,
    beq_iff_eq, beq_eq_false_iff_ne, latched, Demo.running_iff, List.mem_cons, List.not_mem_nil, or_false, not_or]
  tauto

section
variable {c : Curtain} {s : State} (hf : demoCurtain s = some c)
include hf

theorem demoRunsOn_demoCurtain : demoRunsOn s c.number = s.ctc.demo.running := by
  rw [demoRunsOn, hf, Option.any_some, beq_self_eq_true, Bool.and_true]

theorem demonstrateCmd_flagged : demonstrateCmd [] s = if demoRefused s || demoCurtainRefused c then
    ⟨s, .refusedState, []⟩ else ⟨reexamine (startDemo c.number s), .accepted, []⟩ := by
  simp only [demonstrateCmd, hf, List.isEmpty_nil, Bool.not_true, Bool.false_eq_true, if_false]
  cases demoRefused s
  · rfl
  · rfl

theorem dwellExpire_of_due {e : Nat} (hd : s.ctc.demo.state = .dwell) (he : s.ctc.demo.dwellExpiry = some e)
    (due : e ≤ s.time) : dwellExpire s = reexamine (setDemo { s.ctc.demo with state := .raising, dwellExpiry := none }
      (startSegment c.number true s)) := by
  simp only [dwellExpire, hf]
  exact if_pos (by simp [dwellDue, Machine.due, hd, he, due])

theorem loweringExpire_of_due {e : Nat} (hd : s.ctc.demo.state = .lowering)
    (he : s.ctc.demo.loweringExpiry = some e) (due : e ≤ s.time) : loweringExpire s = reexamine (segmentEnded c.number
      (failDemo c.number .overtime (modCurtain c.number (fun x => { x.endMotion with state := .stopped })
        (issueDrive c.number .stop s)))) := by
  simp only [loweringExpire, hf]
  exact if_pos (by simp [loweringDue, Machine.due, hd, he, due])

variable (hc : findCurtain s c.number = some c) (hr : c.release ≠ .sent)
include hc hr

omit hf in
theorem startDemo_eq : startDemo c.number s = issue c.unit (.drive .lower) (s.setCtc
    { curtains := s.ctc.curtains.map fun x =>
        if x.number = c.number then
          { x with
            ownership := .explicit
            motion := some ⟨false, s.time, s.time⟩
            state := .lowering
            outstanding := some .lower }
        else x
      demo := ⟨.lowering, none, none, none, s.ctc.demo.loweringTime, none⟩ }) := by
  rw [startDemo, startSegment_eq hc hr]
  rfl

/-- The stop of the lowering fails the demonstration that runs on the curtain (R142). -/
theorem loweringStopped_eq (hd : s.ctc.demo.running = true) :
    failDemo c.number .overtime (modCurtain c.number (fun x => { x.endMotion with state := .stopped })
      (issueDrive c.number .stop s)) = post .demonstrationFailed c.number (some 1) (issue c.unit (.drive .stop)
        (setDemo (s.ctc.demo.ended .failed (some .overtime)) (modCurtain c.number (fun x =>
          { x.endMotion with state := .stopped, outstanding := some .stop }) s))) := by
  have runs : demoRunsOn s c.number = true := (demoRunsOn_demoCurtain hf).trans hd
  rw [stopIssued_eq hc hr, ← modCurtain_issue, failDemo_modCurtain (keepsIdentity_stopped .stopped), failDemo,
    if_pos ((demoRunsOn_congr (issue_ctc ..) _).trans runs), modCurtain_post]
  rfl
end

/-- Settles O37: the form, the checks of R140, and the two timers of a demonstration that runs. -/
theorem demonstrationRuns : Obligations.DemonstrationRuns := by
  refine ⟨fun p s hs hp bad => next_takeCommand hs (demonstrateCmd_bad bad) hp, fun c s hs hf hc unsent =>
    ⟨fun idle phase stage raised latch implicit yields hold => ?_, fun refused => ?_, fun e dwell he due => ?_,
      fun e lowering he due hw => ?_⟩⟩
  · have free : ¬ (demoRefused s || demoCurtainRefused c) = true := by
      rw [demoBarred_iff]
      simp only [not_or, not_not, ne_eq, Bool.not_eq_true]
      exact ⟨idle, by simpa using phase, stage, raised, latch, implicit, yields, hold⟩
    have answer := demonstrateCmd_flagged hf
    rw [if_neg free, startDemo_eq hc unsent] at answer
    exact next_takeCommand hs answer
  · have answer := demonstrateCmd_flagged hf
    rw [if_pos ((demoBarred_iff s c).mpr refused)] at answer
    exact next_takeCommand hs answer
  · rw [exec_dwellExpiry hs.1, dwellExpire_of_due hf dwell he due, startSegment_eq hc unsent]
    rfl
  · have running : s.ctc.demo.running = true := by simp only [Demo.running, lowering]
    have found : findCurtain (post .demonstrationFailed c.number (some 1) (issue c.unit (.drive .stop)
        (setDemo (s.ctc.demo.ended .failed (some .overtime)) (modCurtain c.number (fun x =>
          { x.endMotion with state := .stopped, outstanding := some .stop }) s)))) c.number =
        some { c.endMotion with state := .stopped, outstanding := some .stop } :=
      (findCurtain_congr (post_ctc ..) _).trans
        ((findCurtain_modCurtain (keepsIdentity_stopped .stopped)).trans (congrArg (Option.map _) hc))
    rw [exec_loweringExpiry hs.1, loweringExpire_of_due hf lowering he due, loweringStopped_eq hf hc unsent running,
      segmentEnded_of_not_waiting found hw]
    simp only [endMotion_stopped]
    rfl

end Sys2Proof.Machine
end

section
/-! The hold that waits is taken at the end of a segment (R132): the stall, the lowering limit of the demonstration and
CURTAIN MOVE STOP, with and without it. -/

namespace Sys2Proof.Machine

/-- The hold that waits at a curtain is forgotten (R132). -/
def forgetHold (n : Nat) (s : State) : State := modCurtain n (fun x => { x with holdWaiting := false }) s

/-- STOP is issued to the unit `a` and the segment of curtain `n` is removed, in the state `v` (R127, R129, R130). -/
def haltSegment (n a : Nat) (v : CurtainState) (s : State) : State :=
  issue a (.drive .stop) (modCurtain n (fun x => { x.endMotion with state := v, outstanding := some .stop }) s)

section
variable {n a : Nat} {v : CurtainState} {c : Curtain} {s : State}

theorem haltSegment_forgetHold : haltSegment n a v (forgetHold n s) = forgetHold n (haltSegment n a v s) := by
  rw [haltSegment, forgetHold, modCurtain_modCurtain (keepsIdentity_holdWaiting false), forgetHold, haltSegment,
    modCurtain_issue, modCurtain_modCurtain (keepsIdentity_stopped v)]
  rfl

theorem failDemo_forgetHold (k : Nat) (why : DemoFailure) :
    failDemo k why (forgetHold n s) = forgetHold n (failDemo k why s) :=
  failDemo_modCurtain (keepsIdentity_holdWaiting false) k why

theorem post_forgetHold (e : Event) (i : Nat) (arg : Option Nat) :
    post e i arg (forgetHold n s) = forgetHold n (post e i arg s) := (modCurtain_post e i arg).symm

theorem failDemo_curtains (k : Nat) (why : DemoFailure) (s : State) :
    (failDemo k why s).ctc.curtains = s.ctc.curtains := by
  unfold failDemo
  split
  · rw [post_ctc]
    rfl
  · rfl

theorem findCurtain_failDemo (k : Nat) (why : DemoFailure) : findCurtain (failDemo k why s) n = findCurtain s n := by
  simp only [findCurtain, failDemo_curtains]

theorem findCurtain_haltSegment (hc : findCurtain s n = some c) : findCurtain (haltSegment n a v s) n =
    some { c.endMotion with state := v, outstanding := some .stop } :=
  (findCurtain_modCurtain (keepsIdentity_stopped v)).trans (congrArg (Option.map _) hc)

theorem findCurtain_forgetHold (hc : findCurtain s n = some c) :
    findCurtain (forgetHold n s) n = some { c with holdWaiting := false } :=
  (findCurtain_modCurtain (keepsIdentity_holdWaiting false)).trans (congrArg (Option.map _) hc)

theorem demoCurtain_forgetHold (hf : demoCurtain s = some c) (hc : findCurtain s n = some c) :
    demoCurtain (forgetHold n s) = some { c with holdWaiting := false } := by
  have flagged : (fun x : Curtain => x.demoFlag) ∘
      (fun x => if x.number = n then { x with holdWaiting := false } else x) = (·.demoFlag) := by
    funext x
    rw [Function.comp_apply]
    split
    · rfl
    · rfl
  have found : s.ctc.curtains.find? (·.demoFlag) = some c := hf
  rw [demoCurtain, forgetHold, modCurtain, State.setCtc_ctc, List.find?_map, flagged, found]
  exact congrArg some (if_pos (number_of_findCurtain hc))

/-- The hold that waits is forgotten in any case, and YIELD issued in place of what was outstanding when the last reply
showed it. -/
theorem segmentEnded_forgetHold (hc : findCurtain s n = some c) :
    segmentEnded n (forgetHold n s) = forgetHold n s ∧
      (c.holdWaiting = true → c.ownership = .implicit → c.outstanding ≠ some .yield → c.release ≠ .sent →
        segmentEnded n s = if c.lastHold then issue c.unit (.drive .yield)
          (modCurtain n (fun x => { x with outstanding := some .yield }) (forgetHold n s)) else forgetHold n s) := by
  refine ⟨segmentEnded_of_not_waiting (findCurtain_forgetHold hc) rfl, fun hw ho hout hr => ?_⟩
  rw [segmentEnded_of_waiting hc hw, forgetHold, modCurtain_modCurtain (keepsIdentity_holdWaiting false)]
  exact if_congr (and_iff_left ⟨ho, hout, hr⟩) rfl rfl

/-- What CTC's operations leave needs no re-examination when no commit waits. -/
theorem reexamine_of_sameCore {t : State} (h : SameCore s t) (hp : s.tbs.commit.current ≠ .pending) :
    reexamine t = t := reexamine_of_not_pending (by rwa [h.tbs])

theorem reexamine_segmentEnded_haltSegment (hp : s.tbs.commit.current ≠ .pending) :
    reexamine (segmentEnded n (haltSegment n a v s)) = segmentEnded n (haltSegment n a v s) := by
  have keeps := keptByCurtains_sameCore s
  exact reexamine_of_sameCore (segmentEnded_kept keeps _ _ (issue_kept keeps.toKeptByLinks _ _ _
    (modCurtain_kept keeps _ _ _ ⟨.refl s, rfl⟩))).1 hp

variable (hc : findCurtain s n = some c) (hr : c.release ≠ .sent) (hp : s.tbs.commit.current ≠ .pending)
include hc hr hp

/-- The segment stalls (R130). -/
theorem exec_stallTimerExpiry_due (hs : Running s) {m : Motion} (hm : c.motion = some m)
    (due : m.progress + 3000 ≤ s.time) (hd : ¬ (demoRunsOn s n = true ∧ s.ctc.demo.state = .dwell)) :
    exec (.stallTimerExpiry n) s = .next (segmentEnded n (failDemo n .stall
      (post .curtainStalled n (some c.position) (haltSegment n c.unit .fault s)))) := by
  have keeps := keptByCurtains_sameCore s
  rw [exec_stallTimerExpiry hs, stallExpire_of_due hc hm due hd, stallTaken_eq hc hr]
  exact congrArg _ (reexamine_of_sameCore (segmentEnded_kept keeps _ _ (failDemo_kept keeps _ _ _ (keeps.posted
    (issue_kept keeps.toKeptByLinks _ _ _ (modCurtain_kept keeps _ _ _ ⟨.refl s, rfl⟩))))).1 hp)

/-- The demonstration's lowering comes to its limit (R142). -/
theorem exec_loweringExpiry_due (hs : Running s) (hf : demoCurtain s = some c) {e : Nat}
    (hd : s.ctc.demo.state = .lowering) (he : s.ctc.demo.loweringExpiry = some e) (due : e ≤ s.time) :
    exec .loweringExpiry s = .next (segmentEnded n (failDemo n .overtime (haltSegment n c.unit .stopped s))) := by
  obtain rfl := number_of_findCurtain hc
  have keeps := keptByCurtains_sameCore s
  rw [exec_loweringExpiry hs, loweringExpire_of_due hf hd he due, stopIssued_eq hc hr]
  exact congrArg _ (reexamine_of_sameCore (segmentEnded_kept keeps _ _ (failDemo_kept keeps _ _ _
    (issue_kept keeps.toKeptByLinks _ _ _ (modCurtain_kept keeps _ _ _ ⟨.refl s, rfl⟩)))).1 hp)

/-- CURTAIN MOVE STOP ends a segment (R127). -/
theorem exec_curtainMove_stop (hs : Ready s) (hm : c.motion.isSome = true) (hlo : 1 ≤ n) (hhi : n ≤ 4)
    (free : moveRefusedBy s c = false) : exec (.curtainMove [BitVec.ofNat 8 n, 3]) s =
      .next (buildReply 0x40 ⟨segmentEnded n (haltSegment n c.unit .stopped s), .done, []⟩) := by
  have number : (BitVec.ofNat 8 n).toNat = n := by
    rw [BitVec.toNat_ofNat]
    omega
  have answer := curtainMoveAt_taken (m := 3) hc hlo hhi (by decide) (by decide) free nofun
  obtain rfl := number_of_findCurtain hc
  have stops : stopTaken c s = ⟨segmentEnded c.number (haltSegment c.number c.unit .stopped s), .done, []⟩ := by
    rw [stopTaken, if_pos hm, stopSegment_eq hc hr, ← haltSegment, reexamine_segmentEnded_haltSegment hp]
  refine next_takeCommand (owner := curtainMoveCmd) hs ?_
  rw [curtainMoveCmd_two, number]
  exact answer.trans stops
end

/-! ### The three statements of a number -/

section
variable {n : Nat} {c : Curtain} {s : State} (hc : findCurtain s n = some c)
include hc

/-- What a segment's end comes to after the segment was halted: `u` is what the end of the segment finds, and what it
finds without the hold is `u` with the hold forgotten. -/
theorem segmentEnded_halted {u : State} {v : CurtainState} (ho : c.ownership = .explicit) (hr : c.release ≠ .sent)
    (hw : c.holdWaiting = true) (hu : findCurtain u n = findCurtain (haltSegment n c.unit v s) n) :
    segmentEnded n (forgetHold n u) = forgetHold n u ∧ segmentEnded n u = if c.lastHold then
      issue c.unit (.drive .yield) (modCurtain n (fun x => { x with outstanding := some .yield }) (forgetHold n u))
    else forgetHold n u := by
  have implicit : c.ownership.ended = .implicit := by rw [ho]; rfl
  obtain ⟨without, held⟩ := segmentEnded_forgetHold (hu.trans (findCurtain_haltSegment hc))
  exact ⟨without, held hw implicit nofun hr⟩

/-- With a hold that waits, each of the three events ends the segment as it does without it, and then the hold is
taken. -/
theorem exec_with_hold {m : Motion} {e : Instr} (hp : s.tbs.commit.current ≠ .pending)
    (ho : c.ownership = .explicit) (hm : c.motion = some m) (hr : c.release ≠ .sent) (hw : c.holdWaiting = true)
    (he : (Running s ∧ e = .stallTimerExpiry n ∧ m.progress + 3000 ≤ s.time ∧
        ¬ (demoRunsOn s n = true ∧ s.ctc.demo.state = .dwell)) ∨
      (Running s ∧ e = .loweringExpiry ∧ demoCurtain s = some c ∧ s.ctc.demo.state = .lowering ∧
        ∃ x, s.ctc.demo.loweringExpiry = some x ∧ x ≤ s.time) ∨
      (Ready s ∧ demoRunsOn s n = false ∧ c.state ≠ .unknown ∧ c.state ≠ .emergency ∧ c.outstanding ≠ some .yield ∧
        1 ≤ n ∧ n ≤ 4 ∧ e = .curtainMove [BitVec.ofNat 8 n, 3])) :
    ∃ t, exec e (forgetHold n s) = .next t ∧ exec e s = .next (if c.lastHold then
      issue c.unit (.drive .yield) (modCurtain n (fun x => { x with outstanding := some .yield }) t) else t) := by
  have found := findCurtain_forgetHold hc
  have runs (k : Nat) : demoRunsOn (forgetHold n s) k = demoRunsOn s k :=
    demoRunsOn_modCurtain (keepsIdentity_holdWaiting false) k
  obtain ⟨hs, rfl, due, hd⟩ | ⟨hs, rfl, hf, hd, x, he, due⟩ | ⟨hs, apart, known, calm, yields, hlo, hhi, rfl⟩ := he
  · obtain ⟨without, held⟩ := segmentEnded_halted hc (u := failDemo n .stall
      (post .curtainStalled n (some c.position) (haltSegment n c.unit .fault s))) ho hr hw
      ((findCurtain_failDemo ..).trans (findCurtain_congr (post_ctc ..) n))
    have stalls := exec_stallTimerExpiry_due found hr hp hs hm due (by rwa [runs])
    rw [haltSegment_forgetHold, post_forgetHold, failDemo_forgetHold, without] at stalls
    exact ⟨_, stalls, (exec_stallTimerExpiry_due hc hr hp hs hm due hd).trans (congrArg _ held)⟩
  · obtain ⟨without, held⟩ := segmentEnded_halted hc (u := failDemo n .overtime (haltSegment n c.unit .stopped s))
      ho hr hw (findCurtain_failDemo ..)
    have ends := exec_loweringExpiry_due found hr hp hs (demoCurtain_forgetHold hf hc) hd he due
    rw [haltSegment_forgetHold, failDemo_forgetHold, without] at ends
    exact ⟨_, ends, (exec_loweringExpiry_due hc hr hp hs hf hd he due).trans (congrArg _ held)⟩
  · obtain ⟨without, held⟩ := segmentEnded_halted hc (u := haltSegment n c.unit .stopped s) ho hr hw rfl
    have moves : c.motion.isSome = true := by rw [hm]; rfl
    have free : moveRefusedBy s c = false := by
      rw [Bool.eq_false_iff, Ne, moveRefusedBy_iff hc]
      simp [ho, yields, apart, known, calm, hr]
    have free' : moveRefusedBy (forgetHold n s) { c with holdWaiting := false } = false := by
      rw [Bool.eq_false_iff, Ne, moveRefusedBy_iff found]
      simp [ho, yields, runs, apart, known, calm, hr]
    have stops := exec_curtainMove_stop found hr hp hs moves hlo hhi free'
    rw [haltSegment_forgetHold, without] at stops
    refine ⟨_, stops, (exec_curtainMove_stop hc hr hp hs moves hlo hhi free).trans ?_⟩
    rw [held]
    split
    · rw [buildReply_issue, buildReply_modCurtain]
    · rfl
end

end Sys2Proof.Machine
end

section
/-! The five steps of a drive unit's reply (R124) at the one curtain of the unit: what each step makes of its record
and of the demonstration record, and what it hands over and posts. -/

namespace Sys2Proof.Machine

/-- The curtain `c` is the only one with its number, and the first of its drive unit. -/
structure Drives (k : Curtains) (c : Curtain) : Prop extends OneOf k c where
  unit : k.curtains.find? (·.unit == c.unit) = some c

/-- `u` is `t` with CTC's records `k`, where `y` is the record of `c` and `d` the demonstration record; `t` has TBS's
records of `t0`. -/
structure Leaves (k : Curtains) (c : Curtain) (t0 u t : State) (y : Curtain) (d : Demo) : Prop where
  eq : u = t.setCtc (k.put c y d)
  tbs : t.tbs = t0.tbs
  of : c.Of y

theorem postConfirmed_setCtc (z : Curtain) (v : CurtainState) (t : State) (x : Curtains) :
    postConfirmed z v (t.setCtc x) = (postConfirmed z v t).setCtc x := by
  unfold postConfirmed
  by_cases unknown : z.state = .unknown <;> by_cases fault : v = .fault <;> simp [unknown, fault, post_setCtc]

@[simp] theorem postConfirmed_tbs (z : Curtain) (v : CurtainState) (t : State) : (postConfirmed z v t).tbs = t.tbs := by
  unfold postConfirmed
  by_cases unknown : z.state = .unknown <;> by_cases fault : v = .fault <;> simp [unknown, fault]

@[simp] theorem postConfirmed_time (z : Curtain) (v : CurtainState) (t : State) :
    (postConfirmed z v t).time = t.time := by
  unfold postConfirmed
  by_cases unknown : z.state = .unknown <;> by_cases fault : v = .fault <;> simp [unknown, fault, post]

/-- What a reply under PENDANT posts: the confirmation of the state `v`, and a first obstruction (R133). -/
def pendantPosted (r : DriveReply) (before : Bool) (v : CurtainState) (c : Curtain) (s : State) : State :=
  if r.obstruction && !before then post .curtainObstructed c.number (some c.position) (postConfirmed c v s)
  else postConfirmed c v s

theorem pendantPosted_setCtc (r : DriveReply) (before : Bool) (v : CurtainState) (c : Curtain) (t : State)
    (x : Curtains) : pendantPosted r before v c (t.setCtc x) = (pendantPosted r before v c t).setCtc x := by
  unfold pendantPosted
  rw [postConfirmed_setCtc, post_setCtc]
  split <;> rfl

@[simp] theorem pendantPosted_tbs (r : DriveReply) (before : Bool) (v : CurtainState) (c : Curtain) (t : State) :
    (pendantPosted r before v c t).tbs = t.tbs := by
  unfold pendantPosted
  split <;> simp

theorem postAt_setCtc (l : Nat) (e : Event) (index : Nat) (arg : Option Nat) (t : State) (x : Curtains) :
    postAt l e index arg (t.setCtc x) = (postAt l e index arg t).setCtc x := by
  simp only [postAt_eq]
  rfl

/-- A first obstruction in the descent is posted at level 6 (R136). -/
def descentPosted (r : DriveReply) (before : Bool) (c : Curtain) (s : State) : State :=
  if r.obstruction && !before then postAt 6 .curtainObstructed c.number (some c.position) s else s

theorem descentPosted_setCtc (r : DriveReply) (before : Bool) (c : Curtain) (t : State) (x : Curtains) :
    descentPosted r before c (t.setCtc x) = (descentPosted r before c t).setCtc x := by
  unfold descentPosted
  rw [postAt_setCtc]
  split <;> rfl

@[simp] theorem descentPosted_tbs (r : DriveReply) (before : Bool) (c : Curtain) (t : State) :
    (descentPosted r before c t).tbs = t.tbs := by
  unfold descentPosted
  split <;> simp

section
variable {k : Curtains} {c y : Curtain} {d : Demo} {t t0 t1 t2 t3 u : State} {y1 y2 y3 : Curtain} {d1 d2 d3 : Demo}
  {r : DriveReply} {ack : Option (DriveCmd × Bool)} {n : Nat}

/-! ### The reply as its steps -/

theorem Curtain.Of.noted (c : Curtain) (r : DriveReply) (now : Nat) : c.Of (c.noted r now) := ⟨rfl, rfl, rfl⟩

/-- A reply comes to what its last step makes of what the others leave. -/
theorem Drives.driveReply_put (h : Drives k c) (hc : t.tbs.commit.current ≠ .pending)
    {heeded : Option (DriveCmd × Bool)} (hh : heeded = ack.filter fun x => c.outstanding == some x.1)
    (acked : Leaves k c t (takeAck r heeded (c.noted r t.time) (t.setCtc (k.put c (c.noted r t.time) d))) t1 y1 d1)
    (released : Leaves k c t (takeRelease r y1 (t1.setCtc (k.put c y1 d1))) t2 y2 d2)
    (stated : Leaves k c t (takeState r c.lastObstruction y2 (t2.setCtc (k.put c y2 d2))) t3 y3 d3) :
    driveReply c.unit r ack (t.setCtc (k.put c c d)) = takeHold r heeded y3 (t3.setCtc (k.put c y3 d3)) := by
  have one := h.toOneOf
  have noted : notePosition r c (t.setCtc (k.put c c d)) = t.setCtc (k.put c (c.noted r t.time) d) :=
    modCurtain_put rfl _
  have ready {v : State} (hv : v.tbs = t.tbs) (x : Curtains) : reexamine (v.setCtc x) = v.setCtc x :=
    reexamine_setCtc (by rwa [hv]) x
  subst hh
  simp only [driveReply, heededAck, one.curtainOfUnit_put (.refl c) h.unit, one.withUnit_put (.refl c) h.unit, noted,
    Option.map_some, Option.getD_some, Option.bind_some]
  rw [one.withUnit_put (.noted c r t.time) h.unit, acked.eq, ready acked.tbs, one.withUnit_put acked.of h.unit,
    released.eq, ready released.tbs, one.withUnit_put released.of h.unit, stated.eq, ready stated.tbs,
    one.withUnit_put stated.of h.unit]

/-- An acknowledgement is heeded only of the outstanding command (R123). -/
theorem driveReply_congr {a : Nat} {ack' : Option (DriveCmd × Bool)} {s : State}
    (h : heededAck a ack s = heededAck a ack' s) : driveReply a r ack s = driveReply a r ack' s := by
  unfold driveReply
  rw [h]

theorem Leaves.unchanged (of : c.Of y) : Leaves k c t (t.setCtc (k.put c y d)) t y d := ⟨rfl, rfl, of⟩

/-! ### The operations at the curtain's number -/

section
variable (hn : n = c.number) (hy : c.Of y)
include hn hy

theorem modCurtain_at (f : Curtain → Curtain) :
    modCurtain n f (t.setCtc (k.put c y d)) = t.setCtc (k.put c (f y) d) := by
  subst hn
  exact modCurtain_put hy.number f

omit hn in
theorem OneOf.withUnit_at (h : OneOf k c) {a : Nat} (ha : a = c.unit)
    (hu : k.curtains.find? (·.unit == c.unit) = some c) (f : Curtain → State → State) :
    withUnit a f (t.setCtc (k.put c y d)) = f y (t.setCtc (k.put c y d)) := by
  subst ha
  exact h.withUnit_put hy hu f

theorem OneOf.issueDrive_at (h : OneOf k c) {cmd : DriveCmd} (hr : y.release ≠ .sent ∨ cmd = .release) :
    issueDrive n cmd (t.setCtc (k.put c y d)) =
      (issue c.unit (.drive cmd) t).setCtc (k.put c { y with outstanding := some cmd } d) := by
  subst hn
  exact (h.issueDrive_put hy cmd).trans (if_neg fun hs => hr.elim (· hs.1) hs.2)

theorem OneOf.segmentEnded_at (h : OneOf k c) : segmentEnded n (t.setCtc (k.put c y d)) =
    (handAll (y.segmentDrives.map (c.unit, ·)) t).setCtc (k.put c y.afterSegment d) := by
  subst hn
  exact h.segmentEnded_put hy

theorem OneOf.demoRunsOn_at (h : OneOf k c) :
    demoRunsOn (t.setCtc (k.put c y d)) n = (d.running && k.flags c) := by
  subst hn
  exact h.demoRunsOn_put hy

theorem OneOf.failDemo_apart (h : OneOf k c) (hd : (d.running && k.flags c) = false) (why : DemoFailure) :
    failDemo n why (t.setCtc (k.put c y d)) = t.setCtc (k.put c y d) :=
  failDemo_of_apart ((h.demoRunsOn_at hn hy).trans hd) why

theorem OneOf.failDemo_runs (h : OneOf k c) (hd : (d.running && k.flags c) = true) (why : DemoFailure) :
    failDemo n why (t.setCtc (k.put c y d)) =
      (post .demonstrationFailed n (some why.code) t).setCtc (k.put c y (d.ended .failed (some why))) := by
  subst hn
  exact (h.failDemo_put hy why).trans (if_pos hd)
end

/-! ### Step 2: the acknowledgement (R124, R128, R131, R133, R136) -/

section
variable (hy : c.Of y)
include hy

theorem Curtain.Of.answered : c.Of { y with outstanding := none } := ⟨hy.number, hy.unit, hy.flag⟩

theorem takeAck_put (cmd : DriveCmd) (taken : Bool) : takeAck r (some (cmd, taken)) y (t.setCtc (k.put c y d)) =
    driveAnswered r cmd taken y (t.setCtc (k.put c { y with outstanding := none } d)) := by
  simp only [takeAck]
  rw [modCurtain_at hy.number hy]

theorem takeAck_raiseTaken : takeAck r (some (.raise, true)) y (t.setCtc (k.put c y d)) =
    t.setCtc (k.put c { y with outstanding := none, release := .none } d) := by
  rw [takeAck_put hy, driveAnswered, modCurtain_at hy.number hy.answered]

theorem takeAck_yieldTaken (ho : y.ownership ≠ .pendant) : takeAck r (some (.yield, true)) y (t.setCtc (k.put c y d)) =
    (post .curtainOwnership y.number (some 2) t).setCtc
      (k.put c { y with outstanding := none, ownership := .pendant } d) := by
  rw [takeAck_put hy, driveAnswered, yieldTaken, if_neg ho, modCurtain_at hy.number hy.answered, post_setCtc]
  rfl

theorem takeAck_yieldRefused : takeAck r (some (.yield, false)) y (t.setCtc (k.put c y d)) =
    (post .curtainRefused y.number (some 5) t).setCtc (k.put c { y with outstanding := none } d) := by
  rw [takeAck_put hy, driveAnswered, post_setCtc]
  rfl

theorem takeAck_resumeTaken : takeAck r (some (.resume, true)) y (t.setCtc (k.put c y d)) =
    (post .curtainOwnership y.number (some 0) t).setCtc
      (k.put c { y with outstanding := none, ownership := .implicit } d) := by
  rw [takeAck_put hy, driveAnswered, resumeTaken, modCurtain_at hy.number hy.answered, post_setCtc]
  rfl

theorem takeAck_resumeRefused : takeAck r (some (.resume, false)) y (t.setCtc (k.put c y d)) =
    t.setCtc (k.put c { y with outstanding := none } d) := takeAck_put hy .resume false

/-- RELEASE taken starts the descent (R136). -/
theorem takeAck_releaseTaken : takeAck r (some (.release, true)) y (t.setCtc (k.put c y d)) =
    (post .curtainReleased y.number (some y.position) t).setCtc (k.put c { y with
      outstanding := none
      release := .taken
      descent := some (descentNow t)
      state := if y.state = .unknown then .emergency else y.state } d) := by
  rw [takeAck_put hy, driveAnswered, releaseTaken, modCurtain_at hy.number hy.answered, post_setCtc]
  rfl

/-- RELEASE refused is issued again, with the event at the first refusal (R136). -/
theorem OneOf.takeAck_releaseRefused (h : OneOf k c) (hf : y.releaseRefused = false) :
    takeAck r (some (.release, false)) y (t.setCtc (k.put c y d)) =
      (post .curtainReleaseRefused y.number none (issue c.unit (.drive .release) t)).setCtc
        (k.put c { y with outstanding := some .release, releaseRefused := true } d) := by
  have again : c.Of { y with outstanding := some .release } := ⟨hy.number, hy.unit, hy.flag⟩
  rw [takeAck_put hy, driveAnswered, releaseRefused, h.issueDrive_at hy.number hy.answered (.inr rfl),
    if_neg (by simp [hf]), modCurtain_at hy.number again, post_setCtc]

/-! ### Step 3: release (R137) -/

/-- What a release made at the unit hands over and posts: the event, STOP when `stops`, and CURTAIN DOWN at the lower
limit. -/
def releaseEvents (r : DriveReply) (stops : Bool) (c : Curtain) (s : State) : State :=
  let told := post .curtainLocalRelease c.number (some r.position) s
  let stopped := if stops then issue c.unit (.drive .stop) told else told
  if r.lower then post .curtainDown c.number (some 0) stopped else stopped

/-- A release made at the unit outside a running demonstration. -/
theorem OneOf.takeRelease_local (h : OneOf k c) (hd : (d.running && k.flags c) = false) (hs : r.shows = true)
    (hr : y.release = .none) (hp : y.position = r.position) : takeRelease r y (t.setCtc (k.put c y d)) =
      (releaseEvents r (y.motion.isSome || y.moving) c t).setCtc (k.put c { localRecord r t y with
        outstanding := if y.motion.isSome || y.moving then some .stop else y.outstanding } d) := by
  have record : c.Of (localRecord r t y) := ⟨hy.number, hy.unit, hy.flag⟩
  have open_ : (localRecord r t y).release ≠ .sent := nofun
  have told : (post .curtainLocalRelease y.number (some y.position)
      (modCurtain y.number (localRecord r (t.setCtc (k.put c y d))) (t.setCtc (k.put c y d)))) =
      (post .curtainLocalRelease c.number (some r.position) t).setCtc (k.put c (localRecord r t y) d) := by
    rw [modCurtain_at hy.number hy, post_setCtc, hy.number, hp]
    rfl
  have down (v : State) (x : Curtains) : (if r.lower then post .curtainDown y.number (some 0) (v.setCtc x)
      else v.setCtc x) = (if r.lower then post .curtainDown c.number (some 0) v else v).setCtc x := by
    rw [hy.number, post_setCtc]
    split <;> rfl
  simp only [takeRelease, if_pos (And.intro hs hr), localRelease, told, releaseEvents]
  cases y.motion.isSome || y.moving with
  | true =>
    have stopped : c.Of { localRecord r t y with outstanding := some .stop } := ⟨hy.number, hy.unit, hy.flag⟩
    simp only [if_true]
    rw [h.issueDrive_at hy.number record (.inl open_),
      h.failDemo_apart hy.number stopped hd, down]
  | false =>
    simp only [Bool.false_eq_true, if_false]
    rw [h.failDemo_apart hy.number record hd, down]
    rfl

omit hy in
@[simp] theorem releaseEvents_tbs (stops : Bool) (c : Curtain) (s : State) :
    (releaseEvents r stops c s).tbs = s.tbs := by
  unfold releaseEvents
  cases stops <;> cases r.lower <;> simp

/-! ### Step 4: the state without a segment (R125, R133, R136) -/

/-- The state is confirmed, and no motion is to be stopped (R125). -/
theorem confirmCurtain_calm {x : CurtainState} (hc : confirmable r y = true) (hx : r.confirmed = some x)
    (calm : uncommanded r y x = false) : confirmCurtain r y (t.setCtc (k.put c y d)) =
      (postConfirmed y x t).setCtc (k.put c { y with state := x } d) := by
  rw [confirmCurtain, if_pos hc, hx]
  dsimp only
  rw [if_neg (by simp [calm]), setCurtainState, modCurtain_at hy.number hy, postConfirmed_setCtc]

/-- The motion that the reply shows is stopped (R125). -/
theorem OneOf.confirmCurtain_uncommanded (h : OneOf k c) {x : CurtainState} (hc : confirmable r y = true)
    (hx : r.confirmed = some x) (moves : uncommanded r y x = true) (hr : y.release ≠ .sent) :
    confirmCurtain r y (t.setCtc (k.put c y d)) = (post .curtainUncommanded y.number (some x.code)
      (issue c.unit (.drive .stop) (postConfirmed y x t))).setCtc
        (k.put c { y with state := x, outstanding := some .stop } d) := by
  have set : c.Of { y with state := x } := ⟨hy.number, hy.unit, hy.flag⟩
  rw [confirmCurtain, if_pos hc, hx]
  dsimp only
  rw [if_pos moves, setCurtainState, modCurtain_at hy.number hy, postConfirmed_setCtc,
    h.issueDrive_at hy.number set (.inl hr), post_setCtc]

/-- A reply under PENDANT, which confirms the state, and posts a first obstruction (R133). -/
theorem pendantReply_put {x : CurtainState} (hx : r.confirmed = some x) (before : Bool) :
    pendantReply r before y (t.setCtc (k.put c y d)) =
      (pendantPosted r before x y t).setCtc (k.put c { y with state := x } d) := by
  rw [← pendantPosted_setCtc, ← modCurtain_at hy.number hy fun c => { c with state := x }]
  simp only [pendantReply, hx, pendantPosted]
  rfl

/-- A reply in the descent, short of the lower limit (R136). -/
theorem descentReply_falling (hl : r.lower = false) (before : Bool) :
    descentReply r before y (t.setCtc (k.put c y d)) =
      (descentPosted r before y t).setCtc (k.put c { y with state := .emergency } d) := by
  rw [← descentPosted_setCtc, ← modCurtain_at hy.number hy fun c => { c with state := .emergency }, descentReply,
    if_neg (by simp [hl])]
  rfl

/-- The lower limit ends the descent, whose time is recorded (R136). -/
theorem descentReply_down (hl : r.lower = true) {e : Descent} (he : y.descent = some e) (before : Bool) :
    descentReply r before y (t.setCtc (k.put c y d)) =
      (post .curtainDown y.number (some ((t.time - e.start) / 100)) (t.setFresh (t.fresh + 1))).setCtc
        (k.put c { y with state := .lowered, lastDescent := some (t.time - e.start), descent := none } d) := by
  rw [descentReply, if_pos hl, descentDown, modCurtain_at hy.number hy, ← post_setCtc]
  simp only [descentTimeOf, he]
  rfl
end

/-- Outside a descent and a segment, not under PENDANT, a reply confirms the state (R125). -/
theorem takeState_confirms (calm : y.descending = false) (unsent : ¬ (y.state = .unknown ∧ y.release = .sent))
    (still : y.motion = none) (own : y.ownership ≠ .pendant) (before : Bool) :
    takeState r before y u = confirmCurtain r y u := by
  simp only [takeState, calm, still]
  rw [if_neg nofun, if_neg unsent, if_neg own]

theorem takeState_pendant (calm : y.descending = false) (unsent : ¬ (y.state = .unknown ∧ y.release = .sent))
    (still : y.motion = none) (own : y.ownership = .pendant) (before : Bool) :
    takeState r before y u = pendantReply r before y u := by
  simp only [takeState, calm, still]
  rw [if_neg nofun, if_neg unsent, if_pos own]

theorem takeState_descends (falls : y.descending = true) (before : Bool) :
    takeState r before y u = descentReply r before y u := if_pos falls

theorem takeState_segment {m : Motion} (moves : y.motion = some m)
    (known : y.state ∈ [CurtainState.raising, .lowering]) (before : Bool) :
    takeState r before y u = segmentReply r m y u := by
  have calm : y.descending = false ∧ y.state ≠ .unknown := by
    obtain hs | hs : y.state = .raising ∨ y.state = .lowering := by simpa using known
    · simp [Curtain.descending, hs]
    · simp [Curtain.descending, hs]
  simp only [takeState, calm.1, moves]
  rw [if_neg nofun, if_neg fun hs => calm.2 hs.1]

/-! ### Step 5: the hold request (R131 to R133) -/

section
variable (hy : c.Of y)
include hy

/-- Under IMPLICIT a hold shown is issued YIELD, unless one is outstanding (R131). -/
theorem OneOf.takeHold_implicit (h : OneOf k c) (own : y.ownership = .implicit) (hr : y.release ≠ .sent)
    (hf : refusedNow .yield ack = false) : takeHold r ack y (t.setCtc (k.put c y d)) =
      (if r.hold = true ∧ y.outstanding ≠ some .yield then issue c.unit (.drive .yield) t else t).setCtc
        (k.put c { y with outstanding := if r.hold then some .yield else y.outstanding } d) := by
  cases held : r.hold with
  | false =>
    rw [takeHold_of_no_hold held (by rw [own]; exact nofun), if_neg fun hh => nomatch hh.1]
    rfl
  | true =>
    have yields := h.yieldIfHeld_put (t := t) (d := d) hy
    rw [← hy.number] at yields
    have step (u : State) : takeHold r ack y u = yieldIfHeld y.number u := by
      simp only [takeHold, own, held]
      exact if_neg (by simp [hf])
    rw [step, yields]
    by_cases out : y.outstanding = some .yield
    · have same : y = { y with outstanding := some .yield } := by rw [← out]
      rw [if_neg fun hh => hh.2.1 out, if_neg fun hh => hh.2 out, if_pos rfl, ← same]
    · rw [if_pos ⟨own, out, hr⟩, if_pos ⟨rfl, out⟩, if_pos rfl]

/-- In a segment the hold waits (R132). -/
theorem takeHold_explicit (own : y.ownership = .explicit) : takeHold r ack y (t.setCtc (k.put c y d)) =
    t.setCtc (k.put c { y with holdWaiting := y.holdWaiting || r.hold } d) := by
  cases held : r.hold with
  | false =>
    rw [takeHold_of_no_hold held (by rw [own]; exact nofun), Bool.or_false]
  | true =>
    have step (u : State) : takeHold r ack y u = modCurtain y.number (fun c => { c with holdWaiting := true }) u := by
      simp only [takeHold, own, held]
    rw [step, modCurtain_at hy.number hy, Bool.or_true]
end

/-- A YIELD refused in this reply is not issued again in it (R131). -/
theorem takeHold_yieldRefused (own : y.ownership = .implicit) (held : r.hold = true) (u : State) :
    takeHold r (some (.yield, false)) y u = u := by
  simp only [takeHold, own, held]
  exact if_pos (by decide)

/-- Under PENDANT a hold without RESUME outstanding changes nothing (R133). -/
theorem takeHold_pendant_held (own : y.ownership = .pendant) (held : r.hold = true)
    (hout : y.outstanding ≠ some .resume)
    (u : State) : takeHold r ack y u = u := by
  simp only [takeHold, own, held]
  exact if_neg hout

theorem takeHold_pendant_kept (own : y.ownership = .pendant) (held : r.hold = false)
    (h : y.outstanding = some .resume ∨ y.outstanding = some .yield ∨ refusedNow .resume ack = true) (u : State) :
    takeHold r ack y u = u := by
  simp only [takeHold, own, held]
  exact if_pos h

section
variable (hy : c.Of y) (h : OneOf k c) (hr : y.release ≠ .sent)
include hy h hr

/-- A hold while RESUME is outstanding takes the drive again (R133). -/
theorem OneOf.takeHold_pendant_yields (own : y.ownership = .pendant) (held : r.hold = true)
    (hout : y.outstanding = some .resume) : takeHold r ack y (t.setCtc (k.put c y d)) =
      (issue c.unit (.drive .yield) t).setCtc (k.put c { y with outstanding := some .yield } d) := by
  have step (u : State) : takeHold r ack y u = issueDrive y.number .yield u := by
    simp only [takeHold, own, held]
    exact if_pos hout
  rw [step, h.issueDrive_at hy.number hy (.inl hr)]

/-- The end of the hold gives the drive back (R133). -/
theorem OneOf.takeHold_pendant_resumes (own : y.ownership = .pendant) (held : r.hold = false)
    (h1 : y.outstanding ≠ some .resume) (h2 : y.outstanding ≠ some .yield) (hf : refusedNow .resume ack = false) :
    takeHold r ack y (t.setCtc (k.put c y d)) =
      (issue c.unit (.drive .resume) t).setCtc (k.put c { y with outstanding := some .resume } d) := by
  have step (u : State) : takeHold r ack y u = issueDrive y.number .resume u := by
    simp only [takeHold, own, held]
    exact if_neg (by simp [h1, h2, hf])
  rw [step, h.issueDrive_at hy.number hy (.inl hr)]
end
end

end Sys2Proof.Machine
end

section
/-! The replies of a drive unit in a segment (R128, R129, R132, R141): how a limit or an obstruction ends it, what the
hold that waits becomes, and the first of the statements on replies. -/

namespace Sys2Proof.Machine

/-! ### The hold at the end of a segment (R131, R132) -/

/-- The record after the end of a segment and the hold of the same reply (R132). -/
def Curtain.released (held : Bool) (z : Curtain) : Curtain :=
  { z with holdWaiting := false, outstanding := if held then some .yield else z.outstanding }

/-- The record after the end of a segment in the state `v` (R128). -/
def Curtain.endedAs (v : CurtainState) (c : Curtain) : Curtain := { c.endMotion with state := v }

/-- The record after the end of a segment by STOP (R129). -/
def Curtain.halted (c : Curtain) : Curtain := { c.endMotion with outstanding := some .stop, state := .stopped }

theorem Curtain.Of.endedAs {c y : Curtain} (hy : c.Of y) (v : CurtainState) : c.Of (y.endedAs v) :=
  ⟨hy.number, hy.unit, hy.flag⟩

theorem Curtain.Of.halted {c y : Curtain} (hy : c.Of y) : c.Of y.halted := ⟨hy.number, hy.unit, hy.flag⟩

/-- YIELD is handed over to the unit `a` just when the reply shows the hold. -/
def yieldWhen (held : Bool) (a : Nat) (s : State) : State := if held then issue a (.drive .yield) s else s

/-- The motion record after a reply that shows the position `p` (R124). -/
def Motion.noted (p q now : Nat) (m : Motion) : Motion := if q = p then m else { m with progress := now }

theorem Motion.noted_up (p q now : Nat) (m : Motion) : (m.noted p q now).up = m.up := by
  unfold Motion.noted
  split <;> rfl

theorem noted_motion {r : DriveReply} {now : Nat} {c : Curtain} {m : Motion} (h : c.motion = some m) :
    (c.noted r now).motion = some (m.noted r.position c.position now) := by
  rw [Curtain.noted, h]
  rfl

theorem ended_implicit {o : Ownership} (h : o = .explicit) : o.ended = .implicit := by rw [h]; rfl

section
variable {k : Curtains} {c y z : Curtain} {d d1 : Demo} {t t1 : State} {r : DriveReply}
  {ack : Option (DriveCmd × Bool)}

theorem OneOf.demoRunsOn_eq {s : State} (h : OneOf s.ctc c) :
    demoRunsOn s c.number = (s.ctc.demo.running && s.ctc.flags c) := by
  have runs := h.demoRunsOn_put (t := s) (d := s.ctc.demo) (.refl c)
  rw [h.put_self] at runs
  exact runs

section
variable (h : OneOf k c)
include h

/-- Whether the hold waited or comes with this reply, YIELD is issued once, and nothing waits any more. -/
theorem OneOf.hold_after_segment (hz : c.Of z) (own : z.ownership = .implicit) (hr : z.release ≠ .sent)
    (last : z.lastHold = r.hold) (hout : r.hold = true → z.outstanding ≠ some .yield)
    (hf : refusedNow .yield ack = false) :
    takeHold r ack z.afterSegment ((handAll (z.segmentDrives.map (c.unit, ·)) t).setCtc (k.put c z.afterSegment d)) =
      (yieldWhen r.hold c.unit t).setCtc (k.put c (z.released r.hold) d) := by
  have step := h.takeHold_implicit (r := r) (t := handAll (z.segmentDrives.map (c.unit, ·)) t) (d := d) hz.afterSegment
    own hr hf
  refine step.trans ?_
  cases held : r.hold with
  | false =>
    have free : ¬ z.owesYield := fun hw => by simpa [last, held] using hw.2.1
    rw [Curtain.afterSegment_of_not_owes free, Curtain.segmentDrives_of_not_owes free]
    rfl
  | true =>
    by_cases waits : z.holdWaiting = true
    · have owes : z.owesYield := ⟨waits, last.trans held, own, hr⟩
      have drives : z.segmentDrives = [.yield] := if_pos ⟨owes, hout held⟩
      rw [Curtain.afterSegment_of_owes owes, drives]
      simp only [ne_eq, not_true_eq_false, and_false, if_false]
      rfl
    · have free : ¬ z.owesYield := fun hw => waits hw.1
      rw [Curtain.afterSegment_of_not_owes free, Curtain.segmentDrives_of_not_owes free, if_pos ⟨rfl, hout held⟩]
      rfl

/-! ### Step 4 in a segment (R128, R129, R141) -/

variable (hy : c.Of y)
include hy

theorem OneOf.segmentReply_apart (hd : (d.running && k.flags c) = false) (m : Motion) :
    segmentReply r m y (t.setCtc (k.put c y d)) =
      if m.up then (if r.upper then segmentLimit .raised y (t.setCtc (k.put c y d)) else t.setCtc (k.put c y d))
      else if r.lower then segmentLimit .lowered y (t.setCtc (k.put c y d))
      else if r.obstruction then segmentObstructed y (t.setCtc (k.put c y d))
      else t.setCtc (k.put c y d) := by
  rw [segmentReply, h.demoRunsOn_at hy.number hy, if_neg (by simp [hd])]

theorem OneOf.segmentReply_lowering (hd : (d.running && k.flags c) = true) (low : d.state = .lowering) (m : Motion) :
    segmentReply r m y (t.setCtc (k.put c y d)) =
      if r.lower then demoLowered y (t.setCtc (k.put c y d))
      else if r.obstruction then segmentObstructed y (t.setCtc (k.put c y d)) else t.setCtc (k.put c y d) := by
  rw [segmentReply, h.demoRunsOn_at hy.number hy, if_pos hd, State.setCtc_ctc, Curtains.put_demo, low]

theorem OneOf.segmentReply_raising (hd : (d.running && k.flags c) = true) (up : d.state = .raising) (m : Motion) :
    segmentReply r m y (t.setCtc (k.put c y d)) =
      if r.upper then demoPassed y (t.setCtc (k.put c y d)) else t.setCtc (k.put c y d) := by
  rw [segmentReply, h.demoRunsOn_at hy.number hy, if_pos hd, State.setCtc_ctc, Curtains.put_demo, up]

omit h in
/-- A limit ends the segment (R128). -/
theorem segmentLimit_at (x : CurtainState) : segmentLimit x y (t.setCtc (k.put c y d)) =
    segmentEnded y.number ((post .curtainMoved y.number (some x.code) t).setCtc
      (k.put c (y.endedAs x) d)) := by
  rw [segmentLimit, modCurtain_at hy.number hy, post_setCtc]
  rfl

/-- STOP at an obstruction, before a demonstration fails (R129). -/
theorem OneOf.obstructed_at (hr : y.release ≠ .sent) : (post .curtainObstructed y.number (some y.position)
      (modCurtain y.number (fun c => { c.endMotion with state := .stopped })
        (issueDrive y.number .stop (t.setCtc (k.put c y d))))) =
      (post .curtainObstructed y.number (some y.position) (issue c.unit (.drive .stop) t)).setCtc
        (k.put c y.halted d) := by
  have stopped : c.Of { y with outstanding := some .stop } := ⟨hy.number, hy.unit, hy.flag⟩
  rw [h.issueDrive_at hy.number hy (.inl hr), modCurtain_at hy.number stopped, post_setCtc]
  rfl

/-- An obstruction ends the segment (R129). -/
theorem OneOf.segmentObstructed_apart (hd : (d.running && k.flags c) = false) (hr : y.release ≠ .sent) :
    segmentObstructed y (t.setCtc (k.put c y d)) = segmentEnded y.number
      ((post .curtainObstructed y.number (some y.position) (issue c.unit (.drive .stop) t)).setCtc
        (k.put c y.halted d)) := by
  rw [segmentObstructed, h.obstructed_at hy hr, h.failDemo_apart hy.number hy.halted hd]

/-- An obstruction fails the demonstration that runs (R129, R142). -/
theorem OneOf.segmentObstructed_runs (hd : (d.running && k.flags c) = true) (hr : y.release ≠ .sent) :
    segmentObstructed y (t.setCtc (k.put c y d)) = segmentEnded y.number
      ((post .demonstrationFailed y.number (some 2)
        (post .curtainObstructed y.number (some y.position) (issue c.unit (.drive .stop) t))).setCtc
        (k.put c y.halted
          (d.ended .failed (some .obstruction)))) := by
  rw [segmentObstructed, h.obstructed_at hy hr, h.failDemo_runs hy.number hy.halted hd]
  rfl

omit h in
/-- The upper limit passes the demonstration (R141). -/
theorem demoPassed_at : demoPassed y (t.setCtc (k.put c y d)) = segmentEnded y.number
    ((post .demonstrationPassed y.number (d.loweringTime.map fun t => t / 100) t).setCtc
      (k.put c (y.endedAs .raised) { d with state := .passed })) := by
  rw [demoPassed, modCurtain_at hy.number hy, setDemo_put, post_setCtc]
  rfl

omit h in
/-- The lower limit starts the dwell (R141). -/
theorem demoLowered_at : demoLowered y (t.setCtc (k.put c y d)) =
    t.setCtc (k.put c { y with state := .lowered } { d with
      state := .dwell
      loweringTime := d.loweringStart.map fun u => t.time - u
      loweringStart := none
      loweringExpiry := none
      dwellExpiry := some (t.time + 5000) }) := by
  rw [demoLowered, setCurtainState, modCurtain_at hy.number hy, setDemo_put]
  rfl
end

/-! ### The reply in a segment -/

section
variable (h : Drives k c) (hc : t.tbs.commit.current ≠ .pending) (hs : r.shows = false)
include h hc hs

/-- A reply without an acknowledgement and a release, by what step 4 leaves. -/
theorem Drives.reply_plain {y3 : Curtain} {d3 : Demo} (stated : Leaves k c t
      (takeState r c.lastObstruction (c.noted r t.time) (t.setCtc (k.put c (c.noted r t.time) d))) t1 y3 d3) :
    driveReply c.unit r none (t.setCtc (k.put c c d)) = takeHold r none y3 (t1.setCtc (k.put c y3 d3)) :=
  h.driveReply_put hc rfl (.unchanged (.noted c r t.time))
    ⟨takeRelease_of_not_shows hs _ _, rfl, .noted c r t.time⟩ stated

/-- A reply whose state step ends the segment in the record `z`: the end of the segment and the hold come after it. -/
theorem Drives.reply_ends {n : Nat} (hn : n = c.number)
    (ends : takeState r c.lastObstruction (c.noted r t.time) (t.setCtc (k.put c (c.noted r t.time) d)) =
      segmentEnded n (t1.setCtc (k.put c z d1))) (tbs : t1.tbs = t.tbs) (hz : c.Of z)
    (own : z.ownership = .implicit) (hr : z.release ≠ .sent) (last : z.lastHold = r.hold)
    (hout : r.hold = true → z.outstanding ≠ some .yield) : driveReply c.unit r none (t.setCtc (k.put c c d)) =
      (yieldWhen r.hold c.unit t1).setCtc (k.put c (z.released r.hold) d1) := by
  rw [h.toOneOf.segmentEnded_at hn hz] at ends
  exact (h.reply_plain hc hs ⟨ends, (handAll_tbs ..).trans tbs, hz.afterSegment⟩).trans
    (h.toOneOf.hold_after_segment hz own hr last hout rfl)

section
variable {m : Motion} (rel : c.release = .none) (own : c.ownership = .explicit) (moves : c.motion = some m)
  (known : c.state ∈ [CurtainState.raising, .lowering])
include own moves known

/-- In a segment that goes on, the hold of the reply waits (R132). -/
theorem Drives.reply_stays (stays : segmentReply r (m.noted r.position c.position t.time) (c.noted r t.time)
      (t.setCtc (k.put c (c.noted r t.time) d)) = t.setCtc (k.put c (c.noted r t.time) d)) :
    driveReply c.unit r none (t.setCtc (k.put c c d)) =
      t.setCtc (k.put c { c.noted r t.time with holdWaiting := c.holdWaiting || r.hold } d) := by
  refine (h.reply_plain hc hs ⟨(takeState_segment (noted_motion moves) known _).trans stays, rfl,
    .noted c r t.time⟩).trans ?_
  exact takeHold_explicit (.noted c r t.time) own

include rel

/-- An obstruction in a lowering segment (R129). -/
theorem Drives.reply_obstructed (hd : (d.running && k.flags c) = false) (down : m.up = false) (hl : r.lower = false)
    (ho : r.obstruction = true) : driveReply c.unit r none (t.setCtc (k.put c c d)) =
      (yieldWhen r.hold c.unit (post .curtainObstructed c.number (some r.position)
        (issue c.unit (.drive .stop) t))).setCtc (k.put c (Curtain.released r.hold (c.noted r t.time).halted) d) := by
  have hy := Curtain.Of.noted c r t.time
  have open_ : (c.noted r t.time).release ≠ .sent := fun sent => nomatch rel.symm.trans sent
  have ends : takeState r c.lastObstruction (c.noted r t.time) (t.setCtc (k.put c (c.noted r t.time) d)) =
      segmentObstructed (c.noted r t.time) (t.setCtc (k.put c (c.noted r t.time) d)) := by
    rw [takeState_segment (noted_motion moves) known, h.toOneOf.segmentReply_apart hy hd, Motion.noted_up,
      if_neg (by simp [down]), if_neg (by simp [hl]), if_pos ho]
  exact h.reply_ends hc hs rfl (ends.trans (h.toOneOf.segmentObstructed_apart hy hd open_)) (post_tbs ..)
    hy.halted (ended_implicit own) open_ rfl (fun _ => nofun)

/-- An obstruction in the demonstration's lowering (R142). -/
theorem Drives.reply_demoObstructed (hd : (d.running && k.flags c) = true) (low : d.state = .lowering)
    (hl : r.lower = false) (ho : r.obstruction = true) : driveReply c.unit r none (t.setCtc (k.put c c d)) =
      (yieldWhen r.hold c.unit (post .demonstrationFailed c.number (some 2)
        (post .curtainObstructed c.number (some r.position) (issue c.unit (.drive .stop) t)))).setCtc
        (k.put c (Curtain.released r.hold (c.noted r t.time).halted)
          (d.ended .failed (some .obstruction))) := by
  have hy := Curtain.Of.noted c r t.time
  have open_ : (c.noted r t.time).release ≠ .sent := fun sent => nomatch rel.symm.trans sent
  have ends : takeState r c.lastObstruction (c.noted r t.time) (t.setCtc (k.put c (c.noted r t.time) d)) =
      segmentObstructed (c.noted r t.time) (t.setCtc (k.put c (c.noted r t.time) d)) := by
    rw [takeState_segment (noted_motion moves) known, h.toOneOf.segmentReply_lowering hy hd low,
      if_neg (by simp [hl]), if_pos ho]
  exact h.reply_ends hc hs rfl (ends.trans (h.toOneOf.segmentObstructed_runs hy hd open_)) (by simp)
    hy.halted (ended_implicit own) open_ rfl (fun _ => nofun)

variable (hout : r.hold = true → c.outstanding ≠ some .yield)
include hout

/-- The limit of the motion (R128). -/
theorem Drives.reply_limit (hd : (d.running && k.flags c) = false) {x : CurtainState}
    (hx : (m.up = true ∧ r.upper = true ∧ x = .raised) ∨ (m.up = false ∧ r.lower = true ∧ x = .lowered)) :
    driveReply c.unit r none (t.setCtc (k.put c c d)) =
      (yieldWhen r.hold c.unit (post .curtainMoved c.number (some x.code) t)).setCtc
        (k.put c (Curtain.released r.hold ((c.noted r t.time).endedAs x)) d) := by
  have hy := Curtain.Of.noted c r t.time
  have limit : takeState r c.lastObstruction (c.noted r t.time) (t.setCtc (k.put c (c.noted r t.time) d)) =
      segmentLimit x (c.noted r t.time) (t.setCtc (k.put c (c.noted r t.time) d)) := by
    rw [takeState_segment (noted_motion moves) known, h.toOneOf.segmentReply_apart hy hd, Motion.noted_up]
    obtain ⟨up, upper, rfl⟩ | ⟨down, lower, rfl⟩ := hx
    · rw [if_pos up, if_pos upper]
    · rw [if_neg (by simp [down]), if_pos lower]
  exact h.reply_ends hc hs rfl (limit.trans (segmentLimit_at hy x)) (post_tbs ..) (hy.endedAs x)
    (ended_implicit own)
    (fun sent => nomatch rel.symm.trans sent) rfl hout

/-- The upper limit in the demonstration's raising (R141). -/
theorem Drives.reply_demoPassed (hd : (d.running && k.flags c) = true) (up : d.state = .raising)
    (hu : r.upper = true) : driveReply c.unit r none (t.setCtc (k.put c c d)) =
      (yieldWhen r.hold c.unit (post .demonstrationPassed c.number (d.loweringTime.map fun t => t / 100) t)).setCtc
        (k.put c (Curtain.released r.hold ((c.noted r t.time).endedAs .raised))
          { d with state := .passed }) := by
  have hy := Curtain.Of.noted c r t.time
  have ends : takeState r c.lastObstruction (c.noted r t.time) (t.setCtc (k.put c (c.noted r t.time) d)) =
      demoPassed (c.noted r t.time) (t.setCtc (k.put c (c.noted r t.time) d)) := by
    rw [takeState_segment (noted_motion moves) known, h.toOneOf.segmentReply_raising hy hd up, if_pos hu]
  exact h.reply_ends hc hs rfl (ends.trans (demoPassed_at hy)) (post_tbs ..)
    (hy.endedAs _) (ended_implicit own)
    (fun sent => nomatch rel.symm.trans sent) rfl hout
end
end
end

/-! ### The replies as they are delivered -/

section
variable {st : Station} {content : List Byte} {r : DriveReply} {c : Curtain} {s : State}

/-- The statements on replies speak of the only curtain with its number and its drive unit. -/
theorem drives_of_sole (first : s.ctc.curtains.find? (fun y => y.unit == st.address) = some c)
    (unit : c.unit = st.address)
    (sole : ∀ y ∈ s.ctc.curtains, y.number = c.number ∨ y.unit = st.address → y = c) : Drives s.ctc c :=
  ⟨⟨List.mem_of_find?_eq_some first, fun y hy hn => sole y hy (.inl hn)⟩, by rw [unit]; exact first⟩

theorem Drives.deliver_eq (h : Drives s.ctc c) (kind : st.kind = .curtainUnit) (reads : driveReplyOf content = r)
    (unit : c.unit = st.address) (ack : Option (LoopCmd × Bool)) : deliver st content ack s =
      driveReply c.unit r (driveAck ack) (s.setCtc (s.ctc.put c c s.ctc.demo)) := by
  rw [h.toOneOf.put_self, State.setCtc_self]
  simp only [deliver, kind, unit, reads]
end

/-- Settles O39: the end of a segment by itself, the three commands and timers that end one, and the replies that do. -/
theorem holdIsTakenWhenASegmentEnds : Obligations.HoldIsTakenWhenASegmentEnds := by
  refine ⟨fun n c s hc => ⟨fun free => segmentEnded_of_not_waiting hc free, fun waits held own hout hr => ?_,
    fun waits bars => ?_⟩, fun n c m s s0 e hc hp own moves hr waits hs0 he => ?_,
    fun st content r c c1 m put yields x s kind reads first unit sole hp released falls rel own moves known hout hc1
      hput hyields => ?_⟩
  case refine_1 => exact (segmentEnded_of_waiting hc waits).trans (if_pos ⟨held, own, hout, hr⟩)
  case refine_2 =>
    refine (segmentEnded_of_waiting hc waits).trans (if_neg fun ⟨held, implicit, unheld, unsent⟩ => ?_)
    obtain hb | hb | hb | hb := bars
    · exact nomatch held.symm.trans hb
    · exact hb implicit
    · exact unheld hb
    · exact unsent hb
  case refine_3 =>
    subst hs0
    exact exec_with_hold hc hp own moves hr waits he
  case refine_4 =>
    have h := drives_of_sole first unit sole
    have shows := shows_eq_false released falls
    have told := h.deliver_eq kind reads unit none
    have runs := h.toOneOf.demoRunsOn_eq
    have ended (v : CurtainState) : ((c.noted r s.time).endedAs v).released r.hold = { c1 with state := v } := by
      rw [Curtain.endedAs, Curtain.endMotion_explicit (c := c.noted r s.time) own, hc1]
      rfl
    have halted : (c.noted r s.time).halted.released r.hold = { c1 with
        state := .stopped
        outstanding := some (if r.hold then .yield else .stop) } := by
      rw [Curtain.halted, Curtain.endMotion_explicit (c := c.noted r s.time) own, hc1, apply_ite some]
      rfl
    have yielded (v : State) : yields v = yieldWhen r.hold c.unit v := by rw [hyields, yieldWhen, unit]
    have within (v : State) (x : Curtains) :
        yieldWhen r.hold c.unit (v.setCtc x) = (yieldWhen r.hold c.unit v).setCtc x := by
      unfold yieldWhen
      split <;> rfl
    simp only [yielded, hput, ← unit, issue_setCtc, post_setCtc]
    rw [runs]
    refine ⟨fun hd hx => ?_, fun hd down hl ho => ?_, fun hd low hl ho => ?_, fun hd up hu => ?_⟩
    case refine_1 =>
      refine told.trans ((h.reply_limit hp shows rel own moves known (fun _ => hout) hd hx).trans ?_)
      rw [ended, ← within]
      rfl
    case refine_2 =>
      refine told.trans ((h.reply_obstructed hp shows rel own moves known hd down hl ho).trans ?_)
      rw [halted, ← within]
      rfl
    case refine_3 =>
      refine told.trans ((h.reply_demoObstructed hp shows rel own moves known hd low hl ho).trans ?_)
      rw [halted, ← within]
      rfl
    case refine_4 =>
      refine told.trans ((h.reply_demoPassed hp shows rel own moves known (fun _ => hout) hd up hu).trans ?_)
      rw [ended, ← within]
      rfl

end Sys2Proof.Machine
end

section
/-! What a drive unit's reply makes of a curtain (R125, R128, R129, R131, R141): the statement on positions, states,
limits, obstructions and the demonstration. -/

namespace Sys2Proof.Machine

/-! ### What a reply confirms (R125) -/

/-- The table of R125, for a reply that does not show falling. -/
theorem confirmed_of_not_falling {r : DriveReply} (h : r.motion ≠ .falling) : r.confirmed =
    some (if r.upper ∧ r.lower then .fault else if r.lower then .lowered else if r.upper then .raised
      else if r.motion = .up then .raising else if r.motion = .down then .lowering else .stopped) := by
  unfold DriveReply.confirmed
  cases r.upper <;> cases r.lower <;> cases hm : r.motion <;> simp_all

/-- The state of a curtain under IMPLICIT without a segment is confirmed, outside EMERGENCY DESCENT and FAULT (R125). -/
theorem confirmable_implicit {r : DriveReply} {y : Curtain} (hs : r.shows = false) (rel : y.release = .none)
    (own : y.ownership = .implicit) (still : y.motion = none) (calm : y.state ∉ [CurtainState.emergency, .fault]) :
    confirmable r y = true := by
  unfold confirmable
  cases hv : y.state with
  | emergency => exact absurd hv (by simp_all)
  | fault => exact absurd hv (by simp_all)
  | _ => simp [hs, rel, own, still]

/-- A FAULT is not confirmed (R125). -/
theorem confirmCurtain_fault {r : DriveReply} {y : Curtain} (hv : y.state = .fault) (u : State) :
    confirmCurtain r y u = u := by
  refine if_neg ?_
  simp [confirmable, hv]

theorem uncommanded_iff {r : DriveReply} {y : Curtain} {x : CurtainState} (own : y.ownership = .implicit) :
    uncommanded r y x = true ↔ r.hold = false ∧ x ∈ [CurtainState.raising, .lowering] ∧
      y.outstanding ∉ [some DriveCmd.yield, some .stop] := by
  simp [uncommanded, own]
  tauto

theorem postConfirmed_eq (z : Curtain) (v : CurtainState) (t : State) : postConfirmed z v t =
    (if v = .fault then post .curtainLimits z.number none else id)
      ((if z.state = .unknown then post .curtainFound z.number (some v.code) else id) t) := by
  unfold postConfirmed
  by_cases unknown : z.state = .unknown <;> by_cases fault : v = .fault <;> simp [unknown, fault]

theorem postConfirmed_of_ne_fault {z : Curtain} {v : CurtainState} (h : v ≠ .fault) (t : State) :
    postConfirmed z v t = (if z.state = .unknown then post .curtainFound z.number (some v.code) else id) t := by
  rw [postConfirmed_eq, if_neg h, id_eq]

theorem Curtain.released_false {z : Curtain} (h : z.holdWaiting = false) : z.released false = z := by
  have same : z.released false = { z with holdWaiting := false } := rfl
  rw [same, ← h]

theorem yieldWhen_false (a : Nat) (s : State) : yieldWhen false a s = s := rfl

theorem noted_still {r : DriveReply} {now : Nat} {c : Curtain} (h : c.motion = none) :
    (c.noted r now).motion = none := by
  rw [Curtain.noted, h]
  rfl

theorem not_descending {y : Curtain} (rel : y.release = .none) (calm : y.state ≠ .emergency) :
    y.descending = false := by
  simp [Curtain.descending, rel, calm]

section
variable {k : Curtains} {c : Curtain} {d : Demo} {t : State} {r : DriveReply}
  (h : Drives k c) (hc : t.tbs.commit.current ≠ .pending) (hs : r.shows = false)
include h hc hs

/-! ### Without a segment -/

section
variable (rel : c.release = .none) (own : c.ownership = .implicit) (still : c.motion = none)
include rel own still

/-- A FAULT stands (R125). -/
theorem Drives.reply_fault (fault : c.state = .fault) (held : r.hold = false) :
    driveReply c.unit r none (t.setCtc (k.put c c d)) = t.setCtc (k.put c (c.noted r t.time) d) := by
  have stands : takeState r c.lastObstruction (c.noted r t.time) (t.setCtc (k.put c (c.noted r t.time) d)) =
      t.setCtc (k.put c (c.noted r t.time) d) := by
    have calm : (c.noted r t.time).descending = false := not_descending rel (fun he => nomatch fault.symm.trans he)
    rw [takeState_confirms calm (fun hu => nomatch fault.symm.trans hu.1) (noted_still still)
      (fun hp => nomatch own.symm.trans hp), confirmCurtain_fault (y := c.noted r t.time) fault]
  refine (h.reply_plain hc hs ⟨stands, rfl, .noted c r t.time⟩).trans ?_
  exact takeHold_of_no_hold held (fun hp => nomatch own.symm.trans hp) _ _

variable (calm : c.state ∉ [CurtainState.emergency, .fault]) {x : CurtainState} (hx : r.confirmed = some x)
include calm hx

omit h hc hx in
/-- Step 4 confirms the state. -/
theorem takeState_implicit :
    takeState r c.lastObstruction (c.noted r t.time) (t.setCtc (k.put c (c.noted r t.time) d)) =
      confirmCurtain r (c.noted r t.time) (t.setCtc (k.put c (c.noted r t.time) d)) ∧
    confirmable r (c.noted r t.time) = true := by
  have quiet : c.state ≠ .emergency := fun he => calm (by simp [he])
  exact ⟨takeState_confirms (y := c.noted r t.time) (not_descending rel quiet)
    (fun hu => nomatch rel.symm.trans hu.2) (noted_still still)
    (fun hp => nomatch own.symm.trans hp) _, confirmable_implicit hs rel own (noted_still still) calm⟩

/-- The state is confirmed, and a hold is issued YIELD (R125, R131). -/
theorem Drives.reply_confirms (quiet : uncommanded r c x = false) :
    driveReply c.unit r none (t.setCtc (k.put c c d)) =
      (if r.hold = true ∧ c.outstanding ≠ some .yield then issue c.unit (.drive .yield)
        (postConfirmed (c.noted r t.time) x t) else postConfirmed (c.noted r t.time) x t).setCtc
        (k.put c { c.noted r t.time with
          state := x
          outstanding := if r.hold then some .yield else c.outstanding } d) := by
  obtain ⟨step, conf⟩ := takeState_implicit (k := k) (d := d) (t := t) hs rel own still calm
  have stated := step.trans (confirmCurtain_calm (.noted c r t.time) conf hx quiet)
  refine (h.reply_plain hc hs ⟨stated, postConfirmed_tbs .., ⟨rfl, rfl, rfl⟩⟩).trans ?_
  exact h.toOneOf.takeHold_implicit (y := { c.noted r t.time with state := x }) ⟨rfl, rfl, rfl⟩ own
    (fun sent => nomatch rel.symm.trans sent) rfl

/-- The motion that the reply shows is stopped (R125). -/
theorem Drives.reply_uncommanded (moves : uncommanded r c x = true) (held : r.hold = false) :
    driveReply c.unit r none (t.setCtc (k.put c c d)) =
      (post .curtainUncommanded c.number (some x.code) (issue c.unit (.drive .stop)
        (postConfirmed (c.noted r t.time) x t))).setCtc
        (k.put c { c.noted r t.time with state := x, outstanding := some .stop } d) := by
  obtain ⟨step, conf⟩ := takeState_implicit (k := k) (d := d) (t := t) hs rel own still calm
  have stated := step.trans (h.toOneOf.confirmCurtain_uncommanded (.noted c r t.time) conf hx moves
    (fun sent => nomatch rel.symm.trans sent))
  refine (h.reply_plain hc hs ⟨stated, by simp, ⟨rfl, rfl, rfl⟩⟩).trans ?_
  exact takeHold_of_no_hold (c := { c.noted r t.time with state := x, outstanding := some .stop }) held
    (fun hp => nomatch own.symm.trans hp) _ _
end

/-! ### In a segment -/

omit h hc hs in
/-- A refused LOWER ends the segment in the state that the limits show (R128). -/
theorem Drives.takeAck_lowerRefused (h : Drives k c) {y : Curtain} (hy : c.Of y) (hs : r.shows = false)
    (apart : (d.running && k.flags c) = false) (own : y.ownership = .explicit)
    (known : y.state ∈ [CurtainState.raising, .lowering]) (waits : y.holdWaiting = false)
    (confirmed : r.confirmed = some r.atRest) : takeAck r (some (.lower, false)) y (t.setCtc (k.put c y d)) =
      (post .curtainRefused y.number (some 1) t).setCtc
        (k.put c { y.endedAs r.atRest with outstanding := none } d) := by
  have one := h.toOneOf
  have free : c.Of ({ y with outstanding := none } : Curtain).endMotion := ⟨hy.number, hy.unit, hy.flag⟩
  have ended : c.Of { y.endedAs r.atRest with outstanding := none } := ⟨hy.number, hy.unit, hy.flag⟩
  have unowed : ¬ ({ y.endedAs r.atRest with outstanding := none } : Curtain).owesYield :=
    fun hw => nomatch waits.symm.trans hw.1
  have same : ({ y.endedAs r.atRest with outstanding := none } : Curtain).afterSegment =
      { y.endedAs r.atRest with outstanding := none } := by
    rw [Curtain.afterSegment_of_not_owes unowed, ← waits]
    rfl
  have conf : withUnit y.unit (confirmCurtain r)
      (modCurtain y.number Curtain.endMotion (t.setCtc (k.put c { y with outstanding := none } d))) =
      t.setCtc (k.put c { y.endedAs r.atRest with outstanding := none } d) := by
    have known' : y.state ∈ [CurtainState.raised, .lowered, .stopped, .raising, .lowering] :=
      List.mem_cons_of_mem _ (List.mem_cons_of_mem _ (List.mem_cons_of_mem _ known))
    rw [modCurtain_at hy.number hy.answered, one.withUnit_at free hy.unit h.unit]
    exact confirmCurtain_put (y := { y.endMotion with outstanding := none }) hy.number (ended_implicit own) rfl known'
      (.inl hs) confirmed
  rw [takeAck_put hy, driveAnswered]
  simp only [moveRefused, conf, post_setCtc]
  rw [one.failDemo_apart hy.number ended apart]
  split
  · rw [one.segmentEnded_at hy.number ended, same, Curtain.segmentDrives_of_not_owes unowed]
    rfl
  · rfl

section
variable {m : Motion} (rel : c.release = .none) (own : c.ownership = .explicit) (moves : c.motion = some m)
  (known : c.state ∈ [CurtainState.raising, .lowering]) (held : r.hold = false)
include rel own moves known held

omit rel moves in
/-- A LOWER refused in a reply that shows the lower limit ends the segment there (R128). -/
theorem Drives.reply_lowerRefused (apart : (d.running && k.flags c) = false) (hu : r.upper = false)
    (hl : r.lower = true) (hout : c.outstanding = some .lower) (waits : c.holdWaiting = false) :
    driveReply c.unit r (some (.lower, false)) (t.setCtc (k.put c c d)) =
      (post .curtainRefused c.number (some 1) t).setCtc
        (k.put c { (c.noted r t.time).endedAs .lowered with outstanding := none } d) := by
  have ended : c.Of { (c.noted r t.time).endedAs .lowered with outstanding := none } := ⟨rfl, rfl, rfl⟩
  have confirmed : r.confirmed = some r.atRest := confirmed_atRest (by simp [hu]) (.inr hl)
  have rest : r.atRest = .lowered := if_pos hl
  have acked := h.takeAck_lowerRefused (t := t) (d := d) (.noted c r t.time) hs apart own known waits confirmed
  rw [rest] at acked
  have stays := takeState_atRest (k := k) (c := c) (d := d) (t := post .curtainRefused c.number (some 1) t)
    (y := { (c.noted r t.time).endedAs .lowered with outstanding := none }) rfl (ended_implicit own) rfl
    rest.symm (.inl hs) confirmed c.lastObstruction
  refine (h.driveReply_put hc (heeded := some (.lower, false)) (by rw [hout]; rfl) ⟨acked, post_tbs .., ended⟩
    ⟨takeRelease_of_not_shows hs _ _, post_tbs .., ended⟩ ⟨stays, post_tbs .., ended⟩).trans ?_
  exact takeHold_of_no_hold (c := { (c.noted r t.time).endedAs .lowered with outstanding := none }) held
    (fun hp => nomatch (ended_implicit own).symm.trans hp) _ _

/-! ### In the demonstration (R141) -/

omit rel in
/-- The lower limit in the demonstration's lowering starts the dwell. -/
theorem Drives.reply_demoLowered (runs : (d.running && k.flags c) = true) (low : d.state = .lowering)
    (hl : r.lower = true) : driveReply c.unit r none (t.setCtc (k.put c c d)) =
      t.setCtc (k.put c { c.noted r t.time with state := .lowered } { d with
        state := .dwell
        loweringTime := d.loweringStart.map fun u => t.time - u
        loweringStart := none
        loweringExpiry := none
        dwellExpiry := some (t.time + 5000) }) := by
  have hy := Curtain.Of.noted c r t.time
  have lowers : takeState r c.lastObstruction (c.noted r t.time) (t.setCtc (k.put c (c.noted r t.time) d)) =
      demoLowered (c.noted r t.time) (t.setCtc (k.put c (c.noted r t.time) d)) := by
    rw [takeState_segment (noted_motion moves) known, h.toOneOf.segmentReply_lowering hy runs low, if_pos hl]
  refine (h.reply_plain hc hs ⟨lowers.trans (demoLowered_at hy), rfl, ⟨rfl, rfl, rfl⟩⟩).trans ?_
  exact takeHold_of_no_hold (c := { c.noted r t.time with state := .lowered }) held
    (fun hp => nomatch own.symm.trans hp) _ _
end
end

/-- Settles O33: what is acknowledged out of turn, the replies without a segment, those that end one, and those of the
demonstration, each by its rule above. -/
theorem curtainFollowsItsReplies : Obligations.CurtainFollowsItsReplies := by
  intro st content r c c1 x put s kind reads first unit sole hp released falls rel hc1 hx hput
  have h := drives_of_sole first unit sole
  have shows := shows_eq_false released falls
  have told := h.deliver_eq kind reads unit
  have confirmed : r.confirmed = some x := (confirmed_of_not_falling falls).trans (congrArg some hx.symm)
  have runs := h.toOneOf.demoRunsOn_eq
  have noted : c1 = c.noted r s.time := hc1
  obtain rfl := funext hput
  refine ⟨fun cmd taken hout => ?_, fun own still calm => ⟨fun held rest => ?_, fun held moving out => ?_,
    fun held hout => ?_⟩, fun own still fault held => ?_, fun m own moves apart known => ⟨fun waits held =>
    ⟨fun up upper => ?_, fun down lower => ?_, fun down lower obstructed => ?_, fun down lower upper hout => ?_⟩,
    fun short => ?_⟩, fun m own moves demo waits known held => ⟨fun t0 low start lower => ?_, fun up upper => ?_⟩⟩
  case refine_1 =>
    rw [told, told]
    refine driveReply_congr ?_
    rw [heededAck, heededAck, h.toOneOf.curtainOfUnit_put (.refl c) h.unit]
    simpa [driveAck] using hout
  case refine_2 =>
    have quiet : uncommanded r c x = false := by
      rw [Bool.eq_false_iff, Ne, uncommanded_iff own]
      exact fun hu => rest.elim (· hu.2.1) (hu.2.2 ·)
    refine (told _).trans ((h.reply_confirms hp shows rel own still calm confirmed quiet).trans ?_)
    rw [if_neg (by simp [held]), ← postConfirmed_setCtc, postConfirmed_eq, noted, held]
    rfl
  case refine_3 =>
    have moves : uncommanded r c x = true := (uncommanded_iff own).mpr ⟨held, moving, out⟩
    have sound : x ≠ .fault := by
      rintro rfl
      exact absurd moving (by decide)
    refine (told _).trans ((h.reply_uncommanded hp shows rel own still calm confirmed moves held).trans ?_)
    rw [← post_setCtc, ← issue_setCtc, ← postConfirmed_setCtc, postConfirmed_of_ne_fault sound, noted, unit]
    rfl
  case refine_4 =>
    have quiet : uncommanded r c x = false := by
      rw [Bool.eq_false_iff, Ne, uncommanded_iff own]
      exact fun hu => nomatch held.symm.trans hu.1
    refine (told _).trans ((h.reply_confirms hp shows rel own still calm confirmed quiet).trans ?_)
    rw [if_pos ⟨held, hout⟩, ← issue_setCtc, ← postConfirmed_setCtc, postConfirmed_eq, noted, held, unit]
    rfl
  case refine_5 =>
    refine (told _).trans ((h.reply_fault hp shows rel own still fault held).trans ?_)
    rw [noted]
    rfl
  all_goals
    have ended (v : CurtainState) : (c.noted r s.time).endedAs v =
        { c1 with ownership := .implicit, motion := none, state := v } := by
      rw [Curtain.endedAs, Curtain.endMotion_explicit (c := c.noted r s.time) own, noted]
    have unheld (v : CurtainState) (waits : c.holdWaiting = false) :
        ((c.noted r s.time).endedAs v).released false = (c.noted r s.time).endedAs v := Curtain.released_false waits
  case refine_6 =>
    have limit := h.reply_limit hp shows rel own moves known (fun hh => nomatch held.symm.trans hh)
      (runs.symm.trans apart) (.inl ⟨up, upper, rfl⟩)
    rw [held, unheld _ waits, ended, yieldWhen_false, ← post_setCtc] at limit
    exact (told _).trans limit
  case refine_7 =>
    have limit := h.reply_limit hp shows rel own moves known (fun hh => nomatch held.symm.trans hh)
      (runs.symm.trans apart) (.inr ⟨down, lower, rfl⟩)
    rw [held, unheld _ waits, ended, yieldWhen_false, ← post_setCtc] at limit
    exact (told _).trans limit
  case refine_8 =>
    have halts := h.reply_obstructed hp shows rel own moves known (runs.symm.trans apart) down lower obstructed
    have stopped : (c.noted r s.time).halted.released false =
        { (c.noted r s.time).endedAs .stopped with outstanding := some .stop } := Curtain.released_false waits
    rw [held, stopped, ended, yieldWhen_false, ← post_setCtc, ← issue_setCtc] at halts
    rw [← unit]
    exact (told _).trans halts
  case refine_9 =>
    have refused := h.reply_lowerRefused hp shows own known held (runs.symm.trans apart) upper lower hout waits
    rw [ended, ← post_setCtc] at refused
    exact (told _).trans refused
  case refine_10 =>
    have stays := h.reply_stays hp shows own moves known (d := s.ctc.demo) (by
      rw [h.toOneOf.segmentReply_apart (.noted c r s.time) (runs.symm.trans apart), Motion.noted_up]
      obtain ⟨up, upper⟩ | ⟨down, lower, clear⟩ := short
      · simp [up, upper]
      · simp [down, lower, clear])
    rw [← noted] at stays
    exact (told _).trans stays
  case refine_11 =>
    have lowers := h.reply_demoLowered hp shows own moves known held (runs.symm.trans demo) low lower
    rw [← noted, start] at lowers
    exact (told _).trans lowers
  case refine_12 =>
    have passes := h.reply_demoPassed hp shows rel own moves known (fun hh => nomatch held.symm.trans hh)
      (runs.symm.trans demo) up upper
    rw [held, unheld _ waits, ended, yieldWhen_false, ← post_setCtc] at passes
    exact (told _).trans passes

end Sys2Proof.Machine
end

section
/-! The pendant (R131, R133): what a reply makes of YIELD and RESUME, and the statement. -/

namespace Sys2Proof.Machine

theorem pendantPosted_eq (r : DriveReply) (before : Bool) (v : CurtainState) (c : Curtain) (t : State) :
    pendantPosted r before v c t =
      (if r.obstruction ∧ before = false then post .curtainObstructed c.number (some c.position) else id)
        ((if v = .fault then post .curtainLimits c.number none else id)
          ((if c.state = .unknown then post .curtainFound c.number (some v.code) else id) t)) := by
  rw [← postConfirmed_eq, pendantPosted]
  cases r.obstruction <;> cases before <;> rfl

section
variable {k : Curtains} {c y : Curtain} {d : Demo} {t t1 : State} {r : DriveReply}
  {ack heeded : Option (DriveCmd × Bool)} {x : CurtainState}
  (h : Drives k c) (hc : t.tbs.commit.current ≠ .pending) (hs : r.shows = false)
  (hh : heeded = ack.filter fun x => c.outstanding == some x.1)
  (acked : Leaves k c t (takeAck r heeded (c.noted r t.time) (t.setCtc (k.put c (c.noted r t.time) d))) t1 y d)
  (rel : y.release = .none) (still : y.motion = none) (hx : r.confirmed = some x)
include h hc hs hh acked rel still hx

/-- A reply that leaves the curtain under PENDANT after its acknowledgement. -/
theorem Drives.reply_pendant (own : y.ownership = .pendant) (calm : y.state ≠ .emergency) :
    driveReply c.unit r ack (t.setCtc (k.put c c d)) = takeHold r heeded { y with state := x }
      ((pendantPosted r c.lastObstruction x y t1).setCtc (k.put c { y with state := x } d)) := by
  obtain ⟨eq, tbs, of⟩ := acked
  have stated := (takeState_pendant (r := r) (u := t1.setCtc (k.put c y d)) (not_descending rel calm)
    (fun hu => nomatch rel.symm.trans hu.2) still own c.lastObstruction).trans
      (pendantReply_put of hx c.lastObstruction)
  exact h.driveReply_put hc hh ⟨eq, tbs, of⟩ ⟨takeRelease_of_not_shows hs _ _, tbs, of⟩
    ⟨stated, (pendantPosted_tbs ..).trans tbs, ⟨of.number, of.unit, of.flag⟩⟩

/-- A reply that leaves the curtain under IMPLICIT after its acknowledgement, with no motion to be stopped. -/
theorem Drives.reply_implicit (own : y.ownership = .implicit) (calm : y.state ∉ [CurtainState.emergency, .fault])
    (quiet : uncommanded r y x = false) : driveReply c.unit r ack (t.setCtc (k.put c c d)) =
      takeHold r heeded { y with state := x } ((postConfirmed y x t1).setCtc (k.put c { y with state := x } d)) := by
  obtain ⟨eq, tbs, of⟩ := acked
  have calm' : y.state ≠ .emergency := fun he => calm (by simp [he])
  have stated := (takeState_confirms (r := r) (u := t1.setCtc (k.put c y d)) (not_descending rel calm')
    (fun hu => nomatch rel.symm.trans hu.2) still (fun hp => nomatch own.symm.trans hp) c.lastObstruction).trans
    (confirmCurtain_calm of (confirmable_implicit hs rel own still calm) hx quiet)
  exact h.driveReply_put hc hh ⟨eq, tbs, of⟩ ⟨takeRelease_of_not_shows hs _ _, tbs, of⟩
    ⟨stated, (postConfirmed_tbs ..).trans tbs, ⟨of.number, of.unit, of.flag⟩⟩
end

theorem heeded_outstanding {c : Curtain} {cmd : DriveCmd} (h : c.outstanding = some cmd) (taken : Bool) :
    some (cmd, taken) = (some (cmd, taken)).filter fun x : DriveCmd × Bool => c.outstanding == some x.1 := by
  rw [h]
  exact (if_pos (beq_self_eq_true cmd)).symm

theorem known_settled {v : CurtainState} (calm : v ≠ .emergency) (known : v ∉ [CurtainState.unknown, .fault]) :
    v ≠ .unknown ∧ v ∉ [CurtainState.emergency, .fault] := by
  simp_all

/-- Settles O34: the replies around YIELD and RESUME, each by the record that its acknowledgement leaves. -/
theorem pendantTakesAndReturnsTheDrive : Obligations.PendantTakesAndReturnsTheDrive := by
  intro st content r c c1 x put report s kind reads first unit sole hp released falls rel still calm hc1 hx hput hreport
  have h := drives_of_sole first unit sole
  have one := h.toOneOf
  have shows := shows_eq_false released falls
  have told := h.deliver_eq kind reads unit
  have confirmed : r.confirmed = some x := (confirmed_of_not_falling falls).trans (congrArg some hx.symm)
  have noted : c1 = c.noted r s.time := by rw [hc1, Curtain.noted, still, Option.map_none]
  have hy := Curtain.Of.noted c r s.time
  have still' := noted_still (r := r) (now := s.time) still
  have unsent : (c.noted r s.time).release ≠ .sent := fun sent => nomatch rel.symm.trans sent
  have reported (u : State) : report u = pendantPosted r c.lastObstruction x (c.noted r s.time) u := by
    rw [hreport, pendantPosted_eq]
    rfl
  have plain (own : c.ownership = .pendant) := h.reply_pendant (ack := none) (heeded := none) (y := c.noted r s.time)
    (d := s.ctc.demo) hp shows rfl (.unchanged hy) rel still' confirmed own calm
  obtain rfl := funext hput
  simp only [reported, noted, ← unit]
  refine ⟨fun own hout held => ⟨?_, fun known sound => ?_⟩, fun own => ⟨fun held hout => ?_, fun held hout => ?_,
    fun held h1 h2 => ?_, fun held hout => ?_, fun held hout => ?_, fun held hout clear known sound => ?_⟩⟩
  case refine_1 =>
    have acked := takeAck_yieldTaken (k := s.ctc) (d := s.ctc.demo) (t := s) (r := r) hy
      (fun hp => nomatch own.symm.trans hp)
    have reply := (h.reply_pendant hp shows (heeded_outstanding hout true) ⟨acked, post_tbs .., ⟨rfl, rfl, rfl⟩⟩ rel
      still' confirmed rfl calm).trans (takeHold_pendant_held rfl held (by exact nofun) _)
    rw [← pendantPosted_setCtc, ← post_setCtc] at reply
    exact (told _).trans reply
  case refine_2 =>
    have acked := takeAck_yieldRefused (k := s.ctc) (d := s.ctc.demo) (t := s) (r := r) hy
    have settled := known_settled calm known
    have quiet : uncommanded r { c.noted r s.time with outstanding := none } x = false := by
      rw [Bool.eq_false_iff, Ne, uncommanded_iff (by exact own)]
      exact fun hu => nomatch held.symm.trans hu.1
    have reply := (h.reply_implicit hp shows (heeded_outstanding hout false) ⟨acked, post_tbs .., ⟨rfl, rfl, rfl⟩⟩ rel
      still' confirmed own (by exact settled.2) quiet).trans
      (takeHold_yieldRefused (by exact own) held _)
    rw [postConfirmed_of_ne_fault sound, if_neg (by exact settled.1),
      id_eq, ← post_setCtc] at reply
    exact (told _).trans reply
  case refine_3 =>
    have reply := (plain own).trans
      (takeHold_pendant_held (by exact own) held (by exact hout) _)
    rw [← pendantPosted_setCtc] at reply
    exact (told _).trans reply
  case refine_4 =>
    have reply := (plain own).trans
      (one.takeHold_pendant_yields ⟨rfl, rfl, rfl⟩ unsent (by exact own) held (by exact hout))
    rw [← issue_setCtc, ← pendantPosted_setCtc] at reply
    exact (told _).trans reply
  case refine_5 =>
    have reply := (plain own).trans
      (one.takeHold_pendant_resumes ⟨rfl, rfl, rfl⟩ unsent (by exact own) held (by exact h1) (by exact h2) rfl)
    rw [← issue_setCtc, ← pendantPosted_setCtc] at reply
    exact (told _).trans reply
  case refine_6 =>
    have reply := (plain own).trans
      (takeHold_pendant_kept (by exact own) held (by exact hout.imp_right .inl) _)
    rw [← pendantPosted_setCtc] at reply
    exact (told _).trans reply
  case refine_7 =>
    have acked := takeAck_resumeRefused (k := s.ctc) (d := s.ctc.demo) (t := s) (r := r) hy
    have reply := (h.reply_pendant hp shows (heeded_outstanding hout false) ⟨acked, rfl, ⟨rfl, rfl, rfl⟩⟩ rel
      still' confirmed own calm).trans (takeHold_pendant_kept (by exact own) held (.inr (.inr (by decide))) _)
    rw [← pendantPosted_setCtc] at reply
    exact (told _).trans reply
  case refine_8 =>
    have acked := takeAck_resumeTaken (k := s.ctc) (d := s.ctc.demo) (t := s) (r := r) hy
    have settled := known_settled calm known
    have quiet : uncommanded r { c.noted r s.time with outstanding := none, ownership := .implicit } x = false := by
      rw [Bool.eq_false_iff, Ne, uncommanded_iff rfl]
      exact fun hu => sound (List.mem_cons_of_mem _ hu.2.1)
    have reply := (h.reply_implicit hp shows (heeded_outstanding hout true) ⟨acked, post_tbs .., ⟨rfl, rfl, rfl⟩⟩ rel
      still' confirmed rfl (by exact settled.2) quiet).trans
      (takeHold_of_no_hold held (by exact nofun) _ _)
    rw [postConfirmed_of_ne_fault (fun hv => sound (by simp [hv])),
      if_neg (by exact settled.1), id_eq, ← post_setCtc] at reply
    exact (told _).trans reply

end Sys2Proof.Machine
end

section
/-! Curtains that are released or lost (R135, R136, R137, R143): the descent, the release made at the unit, RAISE that
ends a release, the loss of the unit, and the statement. -/

namespace Sys2Proof.Machine

/-! ### What is posted and handed over -/

theorem descentPosted_eq (r : DriveReply) (before : Bool) (c : Curtain) (t : State) : descentPosted r before c t =
    (if r.obstruction ∧ before = false then postAt 6 .curtainObstructed c.number (some c.position) else id) t := by
  rw [descentPosted]
  cases r.obstruction <;> cases before <;> rfl

theorem limits_setCtc (b : Bool) (n : Nat) (t : State) (x : Curtains) :
    (if b then post .curtainLimits n none else id) (t.setCtc x) =
      (if b then post .curtainLimits n none t else t).setCtc x := by
  cases b with
  | false => rfl
  | true => exact post_setCtc _ _ _ x

/-- A posting and a command handed over do not depend on each other. -/
theorem post_issue (e : Event) (i : Nat) (arg : Option Nat) (a : Nat) (cmd : LoopCmd) (t : State) :
    post e i arg (issue a cmd t) = issue a cmd (post e i arg t) := by
  simp only [post, postAt_eq]
  rfl

/-- STOP is handed over to the unit `a` where something moved. -/
def stopWhen (stops : Bool) (a : Nat) (s : State) : State := if stops then issue a (.drive .stop) s else s

theorem stopWhen_setCtc (stops : Bool) (a : Nat) (t : State) (x : Curtains) :
    stopWhen stops a (t.setCtc x) = (stopWhen stops a t).setCtc x := by
  cases stops <;> rfl

theorem releaseEvents_eq (r : DriveReply) (stops : Bool) (c : Curtain) (s : State) : releaseEvents r stops c s =
    if r.lower then post .curtainDown c.number (some 0)
      (post .curtainLocalRelease c.number (some r.position) (stopWhen stops c.unit s))
    else post .curtainLocalRelease c.number (some r.position) (stopWhen stops c.unit s) := by
  cases stops with
  | false => rfl
  | true =>
    have stopped : stopWhen true c.unit s = issue c.unit (.drive .stop) s := rfl
    rw [stopped, post_issue]
    rfl

theorem releaseEvents_falling {r : DriveReply} (hl : r.lower = false) (stops : Bool) (c : Curtain) (s : State) :
    releaseEvents r stops c s = post .curtainLocalRelease c.number (some r.position) (stopWhen stops c.unit s) := by
  rw [releaseEvents_eq, if_neg (by simp [hl])]

theorem releaseEvents_down {r : DriveReply} (hl : r.lower = true) (stops : Bool) (c : Curtain) (s : State) :
    releaseEvents r stops c s = post .curtainDown c.number (some 0)
      (post .curtainLocalRelease c.number (some r.position) (stopWhen stops c.unit s)) := by
  rw [releaseEvents_eq, if_pos hl]

/-- A release that is recorded is not taken again (R137). -/
theorem takeRelease_of_released {r : DriveReply} {c : Curtain} (h : c.release ≠ .none) (s : State) :
    takeRelease r c s = s := if_neg fun hr => h hr.2

theorem ended_eq_of_ne_explicit {o : Ownership} (h : o ≠ .explicit) : o.ended = o := by
  cases o with
  | explicit => exact absurd rfl h
  | _ => rfl

theorem ended_eq_implicit {o : Ownership} (h : o ≠ .pendant) : o.ended = .implicit := by
  cases o with
  | pendant => exact absurd rfl h
  | _ => rfl

/-- At the lower limit the table of R125 gives FAULT or LOWERED. -/
theorem confirmed_of_lower {r : DriveReply} (h : r.lower = true) :
    r.confirmed = some (if r.upper then .fault else .lowered) := by
  unfold DriveReply.confirmed
  cases hu : r.upper <;> simp [h]

section
variable {k : Curtains} {c y y1 y2 : Curtain} {d d1 d2 : Demo} {t t1 t2 : State} {r : DriveReply}
  {ack heeded : Option (DriveCmd × Bool)}

/-! ### The descent (R136) -/

section
variable (h : Drives k c) (hc : t.tbs.commit.current ≠ .pending)
  (hh : heeded = ack.filter fun x => c.outstanding == some x.1)
  (acked : Leaves k c t (takeAck r heeded (c.noted r t.time) (t.setCtc (k.put c (c.noted r t.time) d))) t1 y1 d1)
  (released : Leaves k c t (takeRelease r y1 (t1.setCtc (k.put c y1 d1))) t2 y2 d2)
include h hc hh acked released

/-- Short of the lower limit a reply in EMERGENCY DESCENT posts a first obstruction alone. -/
theorem Drives.reply_falls (falls : y2.state = .emergency) (hl : r.lower = false) :
    driveReply c.unit r ack (t.setCtc (k.put c c d)) =
      takeHold r heeded y2 ((descentPosted r c.lastObstruction y2 t2).setCtc (k.put c y2 d2)) := by
  have same : y2 = { y2 with state := .emergency } := by rw [← falls]
  have descends : y2.descending = true := by simp [Curtain.descending, falls]
  have stated := (takeState_descends (r := r) (u := t2.setCtc (k.put c y2 d2)) descends c.lastObstruction).trans
    (descentReply_falling released.of hl c.lastObstruction)
  rw [← same] at stated
  exact h.driveReply_put hc hh acked released ⟨stated, (descentPosted_tbs ..).trans released.tbs, released.of⟩

/-- A curtain at the lower limit, LOWERED under IMPLICIT with its release recorded, is confirmed. -/
theorem Drives.reply_lowered (down : y2.state = .lowered) (own : y2.ownership = .implicit) (still : y2.motion = none)
    (rel : y2.release ≠ .none) (hl : r.lower = true) : driveReply c.unit r ack (t.setCtc (k.put c c d)) =
      takeHold r heeded { y2 with state := if r.upper then .fault else .lowered }
        ((if r.upper then post .curtainLimits c.number none t2 else t2).setCtc
          (k.put c { y2 with state := if r.upper then .fault else .lowered } d2)) := by
  obtain ⟨eq, tbs, of⟩ := released
  have conf : confirmable r y2 = true := by simp [confirmable, down, own, still, rel]
  have quiet : uncommanded r y2 (if r.upper then .fault else .lowered) = false := by
    cases r.upper <;> simp [uncommanded]
  have calm : y2.descending = false := by simp [Curtain.descending, down]
  have posted : postConfirmed y2 (if r.upper then .fault else .lowered) t2 =
      if r.upper then post .curtainLimits c.number none t2 else t2 := by
    rw [postConfirmed_eq, if_neg (c := y2.state = .unknown) (by simp [down]), of.number]
    cases r.upper <;> rfl
  have stated := (takeState_confirms (r := r) (u := t2.setCtc (k.put c y2 d2)) calm (by simp [down]) still
    (fun hp => nomatch own.symm.trans hp) c.lastObstruction).trans
    (confirmCurtain_calm of conf (confirmed_of_lower hl) quiet)
  rw [← posted]
  exact h.driveReply_put hc hh acked ⟨eq, tbs, of⟩
    ⟨stated, (postConfirmed_tbs ..).trans tbs, ⟨of.number, of.unit, of.flag⟩⟩
end

section
variable (h : Drives k c) (hc : t.tbs.commit.current ≠ .pending)
  (hh : heeded = ack.filter fun x => c.outstanding == some x.1)
  (acked : Leaves k c t (takeAck r heeded (c.noted r t.time) (t.setCtc (k.put c (c.noted r t.time) d))) t1 y d1)
  (rel : y.release ≠ .none)
include h hc hh acked rel

/-- A release that is recorded stands in such a reply. -/
theorem Drives.reply_falls_on (falls : y.state = .emergency) (hl : r.lower = false) :
    driveReply c.unit r ack (t.setCtc (k.put c c d)) =
      takeHold r heeded y ((descentPosted r c.lastObstruction y t1).setCtc (k.put c y d1)) :=
  h.reply_falls hc hh acked ⟨takeRelease_of_released rel _, acked.tbs, acked.of⟩ falls hl

theorem Drives.reply_lowered_on (down : y.state = .lowered) (own : y.ownership = .implicit) (still : y.motion = none)
    (hl : r.lower = true) (hu : r.upper = false) : driveReply c.unit r ack (t.setCtc (k.put c c d)) =
      takeHold r heeded y (t1.setCtc (k.put c y d1)) := by
  have same : y = { y with state := .lowered } := by rw [← down]
  have reply := h.reply_lowered hc hh acked ⟨takeRelease_of_released rel _, acked.tbs, acked.of⟩ down own still rel hl
  simp only [hu, Bool.false_eq_true, if_false] at reply
  rw [← same] at reply
  exact reply
end

/-! ### The release made at the unit (R137) -/

/-- A LOWER, a RAISE or a segment was under way. -/
def Curtain.underWay (c : Curtain) : Bool := c.motion.isSome || c.moving

/-- The record after a release made at the unit, with STOP issued where something was under way. -/
def Curtain.unitReleased (r : DriveReply) (t : State) (c : Curtain) : Curtain :=
  { localRecord r t c with outstanding := if c.underWay then some .stop else c.outstanding }

section
variable (h : Drives k c) (hc : t.tbs.commit.current ≠ .pending) (apart : (d.running && k.flags c) = false)
  (hh : heeded = ack.filter fun x => c.outstanding == some x.1)
  (acked : Leaves k c t (takeAck r heeded (c.noted r t.time) (t.setCtc (k.put c (c.noted r t.time) d))) t y d)
  (hs : r.shows = true) (rel : y.release = .none) (pos : y.position = r.position)
include h hc apart hh acked hs rel pos

omit hc hh in
theorem Drives.unitReleased_leaves : Leaves k c t (takeRelease r y (t.setCtc (k.put c y d)))
    (releaseEvents r y.underWay c t) (y.unitReleased r t) d :=
  ⟨h.toOneOf.takeRelease_local acked.of apart hs rel pos, releaseEvents_tbs .., acked.of.number, acked.of.unit,
    acked.of.flag⟩

/-- Short of the lower limit the release starts the descent. -/
theorem Drives.reply_unitReleased (hl : r.lower = false) : driveReply c.unit r ack (t.setCtc (k.put c c d)) =
      takeHold r heeded (y.unitReleased r t) ((descentPosted r c.lastObstruction (y.unitReleased r t)
        (releaseEvents r y.underWay c t)).setCtc (k.put c (y.unitReleased r t) d)) :=
  h.reply_falls hc hh acked (h.unitReleased_leaves apart acked hs rel pos) (if_neg (by simp [hl])) hl

variable (own : y.ownership ≠ .pendant) (hf : refusedNow .yield heeded = false)
include own hf

/-- Short of the lower limit, and then a hold is issued YIELD (R131). -/
theorem Drives.reply_unitReleased_falling (hl : r.lower = false) :
    driveReply c.unit r ack (t.setCtc (k.put c c d)) =
      (if r.hold = true ∧ (y.unitReleased r t).outstanding ≠ some .yield then issue c.unit (.drive .yield)
          (descentPosted r c.lastObstruction (y.unitReleased r t) (releaseEvents r y.underWay c t))
        else descentPosted r c.lastObstruction (y.unitReleased r t) (releaseEvents r y.underWay c t)).setCtc
        (k.put c { y.unitReleased r t with
          outstanding := if r.hold then some .yield else (y.unitReleased r t).outstanding } d) :=
  (h.reply_unitReleased hc apart hh acked hs rel pos hl).trans (h.toOneOf.takeHold_implicit
    (h.unitReleased_leaves apart acked hs rel pos).of (ended_eq_implicit own) nofun hf)

/-- At the lower limit the release is recorded with the state that the limits show. -/
theorem Drives.reply_unitReleased_down (hl : r.lower = true) :
    driveReply c.unit r ack (t.setCtc (k.put c c d)) =
      (if r.hold = true ∧ (y.unitReleased r t).outstanding ≠ some .yield then issue c.unit (.drive .yield)
          (if r.upper then post .curtainLimits c.number none (releaseEvents r y.underWay c t)
            else releaseEvents r y.underWay c t)
        else if r.upper then post .curtainLimits c.number none (releaseEvents r y.underWay c t)
          else releaseEvents r y.underWay c t).setCtc
        (k.put c { y.unitReleased r t with
          state := if r.upper then .fault else .lowered
          outstanding := if r.hold then some .yield else (y.unitReleased r t).outstanding } d) := by
  have left := h.unitReleased_leaves apart acked hs rel pos
  have implicit : (y.unitReleased r t).ownership = .implicit := ended_eq_implicit own
  have reply := h.reply_lowered hc hh acked left (if_pos hl) implicit rfl nofun hl
  exact reply.trans (h.toOneOf.takeHold_implicit (y := { y.unitReleased r t with
    state := if r.upper then .fault else .lowered }) ⟨left.of.number, left.of.unit, left.of.flag⟩ implicit nofun hf)
end

/-! ### RAISE taken in a segment (R136) -/

/-- The record after RAISE is acknowledged TAKEN in a reply. -/
def Curtain.raiseTaken (r : DriveReply) (now : Nat) (c : Curtain) : Curtain :=
  { c.noted r now with outstanding := none, release := .none }

section
variable (h : Drives k c) (hc : t.tbs.commit.current ≠ .pending) (apart : (d.running && k.flags c) = false)
  (hs : r.shows = false) (hout : c.outstanding = some .raise) {m : Motion} (own : c.ownership = .explicit)
  (moves : c.motion = some m) (up : m.up = true) (known : c.state ∈ [CurtainState.raising, .lowering])
include h hc apart hs hout own moves up known

/-- Short of the upper limit the segment goes on, and the hold waits. -/
theorem Drives.reply_raiseTaken_stays (hu : r.upper = false) :
    driveReply c.unit r (some (.raise, true)) (t.setCtc (k.put c c d)) =
      t.setCtc (k.put c { c.raiseTaken r t.time with holdWaiting := c.holdWaiting || r.hold } d) := by
  have of : c.Of (c.raiseTaken r t.time) := ⟨rfl, rfl, rfl⟩
  have acked := takeAck_raiseTaken (k := k) (d := d) (t := t) (r := r) (.noted c r t.time)
  have stays : takeState r c.lastObstruction (c.raiseTaken r t.time) (t.setCtc (k.put c (c.raiseTaken r t.time) d)) =
      t.setCtc (k.put c (c.raiseTaken r t.time) d) := by
    rw [takeState_segment (y := c.raiseTaken r t.time) (noted_motion moves) known,
      h.toOneOf.segmentReply_apart of apart,
      Motion.noted_up, if_pos up, if_neg (by simp [hu])]
  exact (h.driveReply_put hc (heeded_outstanding hout true) ⟨acked, rfl, of⟩
    ⟨takeRelease_of_not_shows hs _ _, rfl, of⟩ ⟨stays, rfl, of⟩).trans (takeHold_explicit of own)

/-- At the upper limit the segment ends too (R128). -/
theorem Drives.reply_raiseTaken_limit (hu : r.upper = true) (held : r.hold = false) (waits : c.holdWaiting = false) :
    driveReply c.unit r (some (.raise, true)) (t.setCtc (k.put c c d)) =
      (post .curtainMoved c.number (some 1) t).setCtc (k.put c ((c.raiseTaken r t.time).endedAs .raised) d) := by
  have of : c.Of (c.raiseTaken r t.time) := ⟨rfl, rfl, rfl⟩
  have ended : c.Of ((c.raiseTaken r t.time).endedAs .raised) := of.endedAs .raised
  have acked := takeAck_raiseTaken (k := k) (d := d) (t := t) (r := r) (.noted c r t.time)
  have limit : takeState r c.lastObstruction (c.raiseTaken r t.time) (t.setCtc (k.put c (c.raiseTaken r t.time) d)) =
      segmentLimit .raised (c.raiseTaken r t.time) (t.setCtc (k.put c (c.raiseTaken r t.time) d)) := by
    rw [takeState_segment (y := c.raiseTaken r t.time) (noted_motion moves) known,
      h.toOneOf.segmentReply_apart of apart,
      Motion.noted_up, if_pos up, if_pos hu]
  rw [segmentLimit_at of, h.toOneOf.segmentEnded_at of.number ended] at limit
  have reply := (h.driveReply_put hc (heeded_outstanding hout true) ⟨acked, rfl, of⟩
    ⟨takeRelease_of_not_shows hs _ _, rfl, of⟩ ⟨limit, (handAll_tbs ..).trans (post_tbs ..), ended.afterSegment⟩).trans
    (h.toOneOf.hold_after_segment ended (ended_implicit own) nofun rfl (fun _ => nofun) (by decide))
  rw [held, Curtain.released_false (by exact waits)] at reply
  exact reply
end

/-! ### The end of the descent (R136) -/

/-- The lower limit ends the descent, and CURTAIN DOWN carries its time. -/
theorem Drives.reply_down (h : Drives k c) (hc : t.tbs.commit.current ≠ .pending) (held : r.hold = false)
    (own : c.ownership = .implicit) (hl : r.lower = true) {e : Descent} (he : c.descent = some e)
    (rel : c.release ∈ [ReleaseField.taken, .localRelease]) (falls : c.state = .emergency ∨ c.state = .unknown) :
    driveReply c.unit r none (t.setCtc (k.put c c d)) =
      (post .curtainDown c.number (some ((t.time - e.start) / 100)) (t.setFresh (t.fresh + 1))).setCtc
        (k.put c { c.noted r t.time with
          state := .lowered
          lastDescent := some (t.time - e.start)
          descent := none } d) := by
  have hy := Curtain.Of.noted c r t.time
  have recorded : c.release ≠ .none := fun hn => by simp [hn] at rel
  have descends : (c.noted r t.time).descending = true := by
    have released : c.release = .taken ∨ c.release = .localRelease := by simpa using rel
    obtain hv | hv := falls <;> simp [Curtain.descending, Curtain.noted, hv, released]
  have stated := (takeState_descends (r := r) (u := t.setCtc (k.put c (c.noted r t.time) d)) descends
    c.lastObstruction).trans (descentReply_down hy hl he c.lastObstruction)
  have kept : takeRelease r (c.noted r t.time) (t.setCtc (k.put c (c.noted r t.time) d)) =
      t.setCtc (k.put c (c.noted r t.time) d) := takeRelease_of_released (c := c.noted r t.time) recorded _
  have down : c.Of { c.noted r t.time with
      state := .lowered
      lastDescent := some (t.time - e.start)
      descent := none } := ⟨rfl, rfl, rfl⟩
  have tbs : (post .curtainDown (c.noted r t.time).number (some ((t.time - e.start) / 100))
      (t.setFresh (t.fresh + 1))).tbs = t.tbs := by rw [post_tbs]; rfl
  have reply := h.driveReply_put (ack := none) (heeded := none) hc rfl (.unchanged hy) ⟨kept, rfl, hy⟩
    ⟨stated, tbs, down⟩
  exact reply.trans
    (takeHold_of_no_hold held (by exact fun hp => nomatch own.symm.trans hp) _ _)

/-! ### The loss of the unit (R143) -/

/-- The loss of the unit outside a running demonstration. -/
theorem Drives.driveUnitLost_put (h : Drives k c) (hc : t.tbs.commit.current ≠ .pending)
    (apart : (d.running && k.flags c) = false) (open_ : c.underWay = true → c.release ≠ .sent) :
    driveUnitLost c.unit (t.setCtc (k.put c c d)) =
      (stopWhen c.underWay c.unit (post .curtainLost c.number (some c.position) t)).setCtc
        (k.put c { c.endMotion with
          state := .unknown
          latch := some .lost
          holdWaiting := false
          outstanding := if c.underWay then some .stop else c.outstanding } d) := by
  have one := h.toOneOf
  have marked : c.Of { c with state := .unknown, latch := some .lost } := ⟨rfl, rfl, rfl⟩
  have lost : c.Of { c.endMotion with
      state := .unknown
      latch := some .lost
      holdWaiting := false
      outstanding := if c.underWay then some .stop else c.outstanding } := ⟨rfl, rfl, rfl⟩
  have stopped : (if c.underWay then issueDrive c.number .stop ((post .curtainLost c.number (some c.position) t).setCtc
        (k.put c { c with state := .unknown, latch := some .lost } d))
      else (post .curtainLost c.number (some c.position) t).setCtc
        (k.put c { c with state := .unknown, latch := some .lost } d)) =
      (stopWhen c.underWay c.unit (post .curtainLost c.number (some c.position) t)).setCtc (k.put c { c with
        state := .unknown
        latch := some .lost
        outstanding := if c.underWay then some .stop else c.outstanding } d) := by
    cases moves : c.underWay with
    | true => exact one.issueDrive_at rfl marked (.inl (open_ moves))
    | false => rfl
  have moved : c.Of { c with
      state := .unknown
      latch := some .lost
      outstanding := if c.underWay then some .stop else c.outstanding } := ⟨rfl, rfl, rfl⟩
  have tbs : (stopWhen c.underWay c.unit (post .curtainLost c.number (some c.position) t)).tbs = t.tbs := by
    cases c.underWay <;> simp [stopWhen]
  have underWay : (c.motion.isSome || c.moving) = c.underWay := rfl
  simp only [driveUnitLost, curtainLost, one.curtainOfUnit_put (.refl c) h.unit, underWay]
  rw [modCurtain_at rfl (.refl c), post_setCtc, stopped]
  refine (congrArg (fun u => reexamine (failDemo c.number .lost u)) (modCurtain_at rfl moved _)).trans ?_
  refine (congrArg reexamine (one.failDemo_apart rfl lost apart .lost)).trans ?_
  exact reexamine_setCtc (by rwa [tbs]) _
end

/-! ### The statement -/

/-- The record after a release made at the unit short of the lower limit. -/
theorem unitReleased_falling {r : DriveReply} {t : State} {y : Curtain} (hl : r.lower = false) :
    y.unitReleased r t = { y with
      ownership := y.ownership.ended
      motion := none
      release := .localRelease
      latch := some .localRelease
      holdWaiting := false
      releaseRefused := false
      outstanding := if y.underWay then some .stop else y.outstanding
      state := .emergency
      descent := some (descentNow t) } := by
  simp only [Curtain.unitReleased, localRecord, hl]
  rfl

/-- The record after a release made at the unit at the lower limit. -/
theorem unitReleased_down {r : DriveReply} {t : State} {y : Curtain} (hl : r.lower = true) :
    y.unitReleased r t = { y with
      ownership := y.ownership.ended
      motion := none
      release := .localRelease
      latch := some .localRelease
      holdWaiting := false
      releaseRefused := false
      outstanding := if y.underWay then some .stop else y.outstanding
      state := .lowered
      lastDescent := some 0 } := by
  simp only [Curtain.unitReleased, localRecord, hl]
  rfl

/-- The record before a local release is taken, in a reply without an acknowledgement or with RAISE TAKEN: `left` is
what is outstanding still. -/
def Curtain.answeredFor (r : DriveReply) (now : Nat) (left : Option DriveCmd) (c : Curtain) : Curtain :=
  { c.noted r now with outstanding := left, release := .none }

theorem answeredFor_of (r : DriveReply) (now : Nat) (left : Option DriveCmd) (c : Curtain) :
    c.Of (c.answeredFor r now left) := ⟨rfl, rfl, rfl⟩

theorem underWay_answeredFor (r : DriveReply) (now : Nat) (left : Option DriveCmd) (c : Curtain) :
    (c.answeredFor r now left).underWay = (c.motion.isSome || left == some .lower || left == some .raise) := by
  simp [Curtain.underWay, Curtain.moving, Curtain.answeredFor, Curtain.noted, Bool.or_assoc]

section
variable {k : Curtains} {c : Curtain} {d : Demo} {t : State} {r : DriveReply} {ack : Option (LoopCmd × Bool)}
  {left : Option DriveCmd} (h : (ack = none ∧ c.release = .none ∧ left = c.outstanding) ∨
    (ack = some (.drive .raise, true) ∧ c.outstanding = some .raise ∧ left = none))
include h

/-- Step 2 of such a reply. -/
theorem answeredFor_leaves : Leaves k c t
    (takeAck r ((driveAck ack).filter fun x => c.outstanding == some x.1) (c.noted r t.time)
      (t.setCtc (k.put c (c.noted r t.time) d))) t (c.answeredFor r t.time left) d := by
  obtain ⟨rfl, rel, rfl⟩ | ⟨rfl, hout, rfl⟩ := h
  · have same : c.noted r t.time = c.answeredFor r t.time c.outstanding := by
      rw [Curtain.answeredFor, ← rel]
      rfl
    exact ⟨congrArg (fun y => t.setCtc (k.put c y d)) same, rfl, answeredFor_of ..⟩
  · have heeded : ((some (.raise, true)).filter fun x : DriveCmd × Bool => c.outstanding == some x.1) =
        some (.raise, true) := (heeded_outstanding hout true).symm
    exact ⟨(congrArg (takeAck r · _ _) heeded).trans (takeAck_raiseTaken (.noted c r t.time)), rfl, answeredFor_of ..⟩

theorem answeredFor_heeds : refusedNow .yield ((driveAck ack).filter fun x => c.outstanding == some x.1) = false := by
  obtain ⟨rfl, rel, rfl⟩ | ⟨rfl, hout, rfl⟩ := h
  · rfl
  · have heeded : ((some (.raise, true)).filter fun x : DriveCmd × Bool => c.outstanding == some x.1) =
        some (.raise, true) := (heeded_outstanding hout true).symm
    exact (congrArg (refusedNow .yield) heeded).trans (by decide)
end

theorem Drives.tellLoss_eq {st : Station} {c : Curtain} {s : State} (h : Drives s.ctc c) (kind : st.kind = .curtainUnit)
    (unit : c.unit = st.address) :
    tellLoss st s = driveUnitLost c.unit (s.setCtc (s.ctc.put c c s.ctc.demo)) := by
  rw [h.toOneOf.put_self, State.setCtc_self]
  simp only [tellLoss, kind, unit]

/-- What the statement's names for a local release stand for. -/
theorem localRelease_parts {r : DriveReply} {now a : Nat} {c : Curtain} {left held : Option DriveCmd} {stops : Bool}
    {halts yields : State → State} (own : c.ownership ≠ .pendant)
    (hstops : stops = (c.motion.isSome || left == some .lower || left == some .raise))
    (hhalts : ∀ t, halts t = if stops then issue a (.drive .stop) t else t)
    (hyields : ∀ t, yields t = if r.hold ∧ held ≠ some .yield then issue a (.drive .yield) t else t) :
    (c.answeredFor r now left).ownership.ended = .implicit ∧ (c.answeredFor r now left).underWay = stops ∧
      (∀ t, halts t = stopWhen stops a t) ∧ ∀ t x, yields (t.setCtc x) = (yields t).setCtc x := by
  refine ⟨ended_eq_implicit own, (underWay_answeredFor r now left c).trans hstops.symm, hhalts, fun t x => ?_⟩
  rw [hyields, hyields]
  split <;> rfl

/-- Settles O35: the replies around a release, and the loss of the unit. -/
theorem releasedAndLostCurtains : Obligations.ReleasedAndLostCurtains := by
  intro st content r c c1 put report s kind reads first unit sole hp demo hc1 hput hreport
  have h := drives_of_sole first unit sole
  have one := h.toOneOf
  have told := h.deliver_eq kind reads unit
  have apart := one.demoRunsOn_eq.symm.trans demo
  have hy := Curtain.Of.noted c r s.time
  have noted (still : c.motion = none) : c1 = c.noted r s.time := by rw [hc1, Curtain.noted, still, Option.map_none]
  have reported (u : State) : report u = descentPosted r c.lastObstruction (c.noted r s.time) u := by
    rw [hreport, descentPosted_eq]
    rfl
  obtain rfl := funext hput
  refine ⟨fun held still own lower => ⟨fun rel hout falls => ?_, fun rel hout falls first => ?_, fun falls rel => ?_⟩,
    fun held still own lower upper rel hout down => ?_,
    fun ack left held stops c2 halts yields shown own acks hstops hheld hhalts hyields hc2 => ⟨fun lower => ?_,
      fun lower => ?_⟩, fun own still rel shown held lower out => ?_,
    fun m c2 released falls hout own moves up known hc2 => ⟨fun upper => ?_, fun upper held waits => ?_⟩,
    fun e held still own lower he rel falls => ?_, fun still hl hr own => ?_, fun moves own rel => ?_⟩
  case refine_1 =>
    have emergency : (if (c.noted r s.time).state = .unknown then .emergency else (c.noted r s.time).state) =
        CurtainState.emergency := by
      obtain hv | hv := falls <;> simp [Curtain.noted, hv]
    have acked := takeAck_releaseTaken (k := s.ctc) (d := s.ctc.demo) (t := s) (r := r) hy
    rw [emergency] at acked
    have reply := (h.reply_falls_on (ack := some (.release, true)) hp (heeded_outstanding hout true)
      ⟨acked, post_tbs .., rfl, rfl, rfl⟩ (by exact nofun) rfl lower).trans
      (takeHold_of_no_hold held (by exact fun hp => nomatch own.symm.trans hp) _ _)
    rw [← descentPosted_setCtc, ← post_setCtc] at reply
    rw [reported, noted still]
    exact (told _).trans reply
  case refine_2 =>
    have acked := one.takeAck_releaseRefused (d := s.ctc.demo) (t := s) (r := r) hy first
    have reply := (h.reply_falls_on (ack := some (.release, false)) hp (heeded_outstanding hout false)
      ⟨acked, post_tbs .., rfl, rfl, rfl⟩ (by exact fun hn => nomatch rel.symm.trans hn) falls lower).trans
      (takeHold_of_no_hold held (by exact fun hp => nomatch own.symm.trans hp) _ _)
    rw [← descentPosted_setCtc, ← post_setCtc, ← issue_setCtc] at reply
    rw [reported, noted still, ← unit]
    exact (told _).trans reply
  case refine_3 =>
    have reply := h.reply_falls_on (ack := none) (heeded := none) (y := c.noted r s.time) (d := s.ctc.demo) hp rfl
      (.unchanged hy) rel falls lower
    have unheld := reply.trans (takeHold_of_no_hold held (by exact fun hp => nomatch own.symm.trans hp) _ _)
    rw [← descentPosted_setCtc] at unheld
    rw [reported, noted still]
    exact (told _).trans unheld
  case refine_4 =>
    have kept : (if (c.noted r s.time).state = .unknown then .emergency else (c.noted r s.time).state) =
        (c.noted r s.time).state := if_neg (by simp [Curtain.noted, down])
    have acked := takeAck_releaseTaken (k := s.ctc) (d := s.ctc.demo) (t := s) (r := r) hy
    rw [kept] at acked
    have reply := (h.reply_lowered_on (ack := some (.release, true)) hp (heeded_outstanding hout true)
      ⟨acked, post_tbs .., rfl, rfl, rfl⟩ (by exact nofun) down own (noted_still still) lower upper).trans
      (takeHold_of_no_hold held (by exact fun hp => nomatch own.symm.trans hp) _ _)
    rw [← post_setCtc] at reply
    rw [noted still]
    exact (told _).trans reply
  case refine_5 =>
    obtain ⟨implicit, moved, halted, yielded⟩ := localRelease_parts own hstops hhalts hyields
    have shows : r.shows = true := by simpa [DriveReply.shows] using shown
    have reply := h.reply_unitReleased_falling hp apart rfl (answeredFor_leaves acks) shows rfl rfl own
      (answeredFor_heeds acks) lower
    rw [unitReleased_falling lower, implicit, moved, releaseEvents_falling lower] at reply
    refine (told _).trans (reply.trans ?_)
    rw [reported, halted]
    beta_reduce
    rw [stopWhen_setCtc, post_setCtc, descentPosted_setCtc, yielded, hyields, ← unit, hc2, hc1, hheld]
    rfl
  case refine_6 =>
    obtain ⟨implicit, moved, halted, yielded⟩ := localRelease_parts own hstops hhalts hyields
    have shows : r.shows = true := by simpa [DriveReply.shows] using shown
    have reply := h.reply_unitReleased_down hp apart rfl (answeredFor_leaves acks) shows rfl rfl own
      (answeredFor_heeds acks) lower
    rw [unitReleased_down lower, implicit, moved, releaseEvents_down lower] at reply
    refine (told _).trans (reply.trans ?_)
    rw [halted]
    beta_reduce
    rw [stopWhen_setCtc, post_setCtc, post_setCtc, limits_setCtc, yielded, hyields, ← unit, hc2, hc1, hheld]
    rfl
  case refine_7 =>
    have shows : r.shows = true := by simpa [DriveReply.shows] using shown
    have rests : (c.noted r s.time).underWay = false := by
      obtain hv | hv : c.outstanding = none ∨ c.outstanding = some .yield := by simpa using out
      · simp [Curtain.underWay, Curtain.moving, Curtain.noted, still, hv]
      · simp [Curtain.underWay, Curtain.moving, Curtain.noted, still, hv]
    have unresumed : c.outstanding ≠ some .resume := fun ho => by simp [ho] at out
    have pendant : (c.noted r s.time).ownership.ended = (c.noted r s.time).ownership :=
      ended_eq_of_ne_explicit (by exact fun he => nomatch own.symm.trans he)
    have still' := noted_still (r := r) (now := s.time) still
    have reply := h.reply_unitReleased (ack := none) (heeded := none) (y := c.noted r s.time) (d := s.ctc.demo) hp apart
      rfl (.unchanged hy) shows rel rfl lower
    rw [unitReleased_falling lower, pendant, rests, releaseEvents_falling lower, ← still'] at reply
    have kept := reply.trans (takeHold_pendant_held (by exact own) held (by exact unresumed) _)
    rw [← descentPosted_setCtc, ← post_setCtc] at kept
    rw [reported, noted still]
    exact (told _).trans kept
  case refine_8 =>
    have shows := shows_eq_false released falls
    have taken : c2 = c.raiseTaken r s.time := by
      rw [hc2, hc1, Curtain.raiseTaken, Curtain.noted, moves]
      rfl
    have reply := h.reply_raiseTaken_stays (d := s.ctc.demo) hp apart shows hout own moves up (by simp [known]) upper
    rw [taken]
    exact (told _).trans reply
  case refine_9 =>
    have shows := shows_eq_false released falls
    have taken : c2 = c.raiseTaken r s.time := by
      rw [hc2, hc1, Curtain.raiseTaken, Curtain.noted, moves]
      rfl
    have reply := h.reply_raiseTaken_limit (d := s.ctc.demo) hp apart shows hout own moves up (by simp [known]) upper
      held waits
    rw [Curtain.endedAs, Curtain.endMotion_explicit (by exact own), ← post_setCtc] at reply
    rw [taken]
    exact (told _).trans reply
  case refine_10 =>
    have reply := h.reply_down (d := s.ctc.demo) hp held own lower he rel falls
    rw [← post_setCtc] at reply
    rw [noted still]
    exact (told _).trans reply
  case refine_11 =>
    have rests : c.underWay = false := by simp [Curtain.underWay, Curtain.moving, still, hl, hr]
    have lost := h.driveUnitLost_put (d := s.ctc.demo) hp apart (fun hu => nomatch rests.symm.trans hu)
    have same : c.endMotion = c := by rw [Curtain.endMotion, ended_eq_of_ne_explicit own, ← still]
    rw [rests, same, stopWhen, if_neg Bool.false_ne_true, ← post_setCtc] at lost
    exact (h.tellLoss_eq kind unit).trans lost
  case refine_12 =>
    have moving : c.underWay = true := by simp [Curtain.underWay, moves]
    have lost := h.driveUnitLost_put (d := s.ctc.demo) hp apart (fun _ => rel)
    rw [moving, Curtain.endMotion_explicit own, stopWhen, if_pos rfl, ← issue_setCtc, ← post_setCtc] at lost
    rw [← unit]
    exact (h.tellLoss_eq kind unit).trans lost

end Sys2Proof.Machine
end
